-- ==== Sys2Proof/Word.lean ====
section
/-! DEFINITION. The plain data words of the model: bytes, scratchpad rows and the sparse maps every array of state is
held in. R5 (spec/00_scope.md) makes all data little-endian: bit 0 of a word is bit 0 of its byte at the lowest address. -/

namespace Sys2Proof

/-- One byte. -/
abbrev Byte := BitVec 8

/-- A 64-bit word: a general register of a core, one instruction word. -/
abbrev Word := BitVec 64

/-- A scratchpad row: 512 bytes (glossary of spec/00_scope.md), byte k in bits [8k+7:8k]. -/
abbrev Row := BitVec 4096

/-- A sparse map from numbers to values: pairs with strictly rising keys, none equal to the default its owner names. -/
abbrev SMap (α : Type) := List (Nat × α)

end Sys2Proof
end

