-- ==== Sys2Proof/Syntax.lean ====
section
/-! DEFINITION. The commands the N464 takes: one constructor per row of spec/opcode_table.json, with the operands the
rule the row names gives it. A core's instruction is the command that this core issues it; an event of time or of the
outside world is the command that it takes place, and carries what comes from outside the package. -/

namespace Sys2Proof

/-- Who accesses a register (R7, R12, R390): the physical function, the sideband port, or the management path of the
virtual function v + 1 (R490, R515), and the Hub firmware, which trains the DRAM before BAR0 reaches it (R533, R536). -/
inductive Port where
  | pf
  | sbp
  | vf (v : BitVec 4)
  | fw
  deriving DecidableEq, Repr

/-- What every instruction of a core carries beside its operands (R92): the core that issues it, PRED, PNEG, and the
bits of its word outside OPC, PRED, PNEG and the operands the constructor names (R94). -/
structure Hd where
  core : BitVec 6
  pred : BitVec 3
  pneg : Bool
  extra : BitVec 64
  deriving DecidableEq, Repr

/-- The second operand of ALU and CMP (R97): a register, or a 36-bit immediate. -/
inductive Opd where
  | reg (rb : BitVec 6)
  | imm (v : BitVec 36)
  deriving DecidableEq, Repr

/-- The operands of format E (R96); the bits of OPX that select the operation are the constructor's own. -/
structure EF where
  aa : BitVec 4
  ma : BitVec 2
  ab : BitVec 4
  mb : BitVec 2
  ad : BitVec 4
  md : BitVec 2
  tile : BitVec 4
  rc : BitVec 6
  opx : BitVec 26
  deriving DecidableEq, Repr

/-- The header of a Flifer packet after TYPE (R348). -/
structure Pkt where
  dst : BitVec 6
  ch : Bool
  src : BitVec 6
  hops : BitVec 8
  pop : BitVec 12
  job : BitVec 16
  window : BitVec 8
  code : BitVec 8
  len : BitVec 16
  offset : BitVec 32
  psn : BitVec 32
  tag : BitVec 16
  stamp : BitVec 64
  deriving DecidableEq, Repr

/-- How a boot stage ends (R533): well or not; with an image, its security version, the public key and the signature (R501); or
with the cores whose scrub did not end. -/
inductive BootIn where
  | plain (ok : Bool)
  | image (bytes : List (BitVec 8)) (version : Nat) (pkx pky r s : BitVec 256)
  | release (failed : BitVec 64)
  deriving DecidableEq, Repr

/-- The commands. -/
inductive Instr where
  /-- REGISTER_WRITE, R7. -/
  | registerWrite (port : Port) (off : BitVec 29) (n : Nat) (v : Nat)
  /-- STAGED_WORD_WRITE, R13. -/
  | stagedWordWrite (port : Port) (off : BitVec 29) (v : BitVec 32)
  /-- RC_REGISTER_READ, R7. -/
  | rcRegisterRead (port : Port) (off : BitVec 29) (n : Nat)
  /-- WIDE_REGISTER_LOW_READ, R12. -/
  | wideRegisterLowRead (port : Port) (off : BitVec 29)
  /-- UNOCCUPIED_ADDRESS_ACCESS, R11. -/
  | unoccupiedAddressAccess (port : Port) (off : BitVec 29) (isRead : Bool) (v : BitVec 32)
  /-- PLL_LOCK_LOSS, R31. -/
  | pllLockLoss (die : Fin 5)
  /-- ROW_SERVICE, R49. -/
  | rowService (core : BitVec 6) (dt : Nat)
  /-- TAG_WAIT_TIMEOUT, R61. -/
  | tagWaitTimeout (core : BitVec 6) (owner : BitVec 3) (dt : Nat)
  /-- DMA_TAG_WAIT_TIMEOUT, R61. -/
  | dmaTagWaitTimeout (core : BitVec 6) (owner : BitVec 3) (dt : Nat)
  /-- LOCAL_DEADLOCK, R62. -/
  | localDeadlock (core : BitVec 6) (dt : Nat)
  /-- ENGINE_COMPLETE, R103. -/
  | engineComplete (core : BitVec 6) (eng : BitVec 2)
  /-- NOP, R95. -/
  | nop (h : Hd)
  /-- ADD, R97. -/
  | add (h : Hd) (rd ra : BitVec 6) (b : Opd)
  /-- SUB, R97. -/
  | sub (h : Hd) (rd ra : BitVec 6) (b : Opd)
  /-- AND, R97. -/
  | and (h : Hd) (rd ra : BitVec 6) (b : Opd)
  /-- OR, R97. -/
  | or (h : Hd) (rd ra : BitVec 6) (b : Opd)
  /-- XOR, R97. -/
  | xor (h : Hd) (rd ra : BitVec 6) (b : Opd)
  /-- SHL, R97. -/
  | shl (h : Hd) (rd ra : BitVec 6) (b : Opd)
  /-- SHR, R97. -/
  | shr (h : Hd) (rd ra : BitVec 6) (b : Opd)
  /-- SRA, R97. -/
  | sra (h : Hd) (rd ra : BitVec 6) (b : Opd)
  /-- MUL, R97. -/
  | mul (h : Hd) (rd ra : BitVec 6) (b : Opd)
  /-- MULHU, R97. -/
  | mulhu (h : Hd) (rd ra : BitVec 6) (b : Opd)
  /-- MULHS, R97. -/
  | mulhs (h : Hd) (rd ra : BitVec 6) (b : Opd)
  /-- MIN, R97. -/
  | min (h : Hd) (rd ra : BitVec 6) (b : Opd)
  /-- MAX, R97. -/
  | max (h : Hd) (rd ra : BitVec 6) (b : Opd)
  /-- MINU, R97. -/
  | minu (h : Hd) (rd ra : BitVec 6) (b : Opd)
  /-- MAXU, R97. -/
  | maxu (h : Hd) (rd ra : BitVec 6) (b : Opd)
  /-- CMP_EQ, R97. -/
  | cmpEq (h : Hd) (pd : BitVec 6) (ra : BitVec 6) (b : Opd)
  /-- CMP_NE, R97. -/
  | cmpNe (h : Hd) (pd : BitVec 6) (ra : BitVec 6) (b : Opd)
  /-- CMP_LT, R97. -/
  | cmpLt (h : Hd) (pd : BitVec 6) (ra : BitVec 6) (b : Opd)
  /-- CMP_GE, R97. -/
  | cmpGe (h : Hd) (pd : BitVec 6) (ra : BitVec 6) (b : Opd)
  /-- CMP_LTU, R97. -/
  | cmpLtu (h : Hd) (pd : BitVec 6) (ra : BitVec 6) (b : Opd)
  /-- CMP_GEU, R97. -/
  | cmpGeu (h : Hd) (pd : BitVec 6) (ra : BitVec 6) (b : Opd)
  /-- PLOG_AND, R98. -/
  | plogAnd (h : Hd) (pd pa : BitVec 3) (na : Bool) (pb : BitVec 3) (nb : Bool)
  /-- PLOG_OR, R98. -/
  | plogOr (h : Hd) (pd pa : BitVec 3) (na : Bool) (pb : BitVec 3) (nb : Bool)
  /-- PLOG_XOR, R98. -/
  | plogXor (h : Hd) (pd pa : BitVec 3) (na : Bool) (pb : BitVec 3) (nb : Bool)
  /-- MOVI_G, R98. -/
  | moviG (h : Hd) (rd : BitVec 6) (imm : BitVec 48)
  /-- MOVI_A, R98. -/
  | moviA (h : Hd) (ad : BitVec 4) (imm : BitVec 48)
  /-- ADDR_ADD_G, R98. -/
  | addrAddG (h : Hd) (ad aa : BitVec 4) (gb : BitVec 6)
  /-- ADDR_ADD_IMM, R98. -/
  | addrAddImm (h : Hd) (ad aa : BitVec 4) (imm : BitVec 34)
  /-- ADDR_SET, R98. -/
  | addrSet (h : Hd) (ad : BitVec 4) (gb : BitVec 6)
  /-- ADDR_GET, R98. -/
  | addrGet (h : Hd) (ad aa : BitVec 4) (gb : BitVec 6)
  /-- BR, R100. -/
  | br (h : Hd) (rl : BitVec 6) (off : BitVec 32)
  /-- BRR, R100. -/
  | brr (h : Hd) (rd ra : BitVec 6)
  /-- LOOP, R100. -/
  | loop (h : Hd) (rl : BitVec 6) (off : BitVec 32)
  /-- LDRS, R101. -/
  | ldrs (h : Hd) (aa : BitVec 4) (mode : BitVec 2)
  /-- STRS, R101. -/
  | strs (h : Hd) (aa : BitVec 4) (mode : BitVec 2)
  /-- RSGET, R101. -/
  | rsget (h : Hd) (rg : BitVec 6) (word : BitVec 6)
  /-- RSPUT, R101. -/
  | rsput (h : Hd) (rg : BitVec 6) (word : BitVec 6)
  /-- RDCAD, R102. -/
  | rdcad (h : Hd) (rd : BitVec 6)
  /-- RDCYC, R102. -/
  | rdcyc (h : Hd) (rd : BitVec 6)
  /-- FENCE, R103. -/
  | fence (h : Hd) (mask : BitVec 8)
  /-- IFLUSH, R86. -/
  | iflush (h : Hd)
  /-- CEND, R89. -/
  | cend (h : Hd)
  /-- DLTIGHT, R91. -/
  | dltight (h : Hd) (ra : BitVec 6)
  /-- RDDL, R91. -/
  | rddl (h : Hd) (rd : BitVec 6)
  /-- TRAP, R102. -/
  | trap (h : Hd) (ra : BitVec 6)
  /-- SHDL, R105. -/
  | shdl (h : Hd) (sn : BitVec 5) (ra : BitVec 6)
  /-- SACQ, R106. -/
  | sacq (h : Hd) (sn : BitVec 5) (rb : BitVec 6)
  /-- STRY, R106. -/
  | stry (h : Hd) (sn : BitVec 5) (rb : BitVec 6) (pd : BitVec 3)
  /-- SREL, R106. -/
  | srel (h : Hd) (sn : BitVec 5)
  /-- SWAIT, R106. -/
  | swait (h : Hd) (sn : BitVec 5)
  /-- SPOLL, R106. -/
  | spoll (h : Hd) (sn : BitVec 5) (pd : BitVec 3)
  /-- SSIG, R106. -/
  | ssig (h : Hd) (sn : BitVec 5)
  /-- QSUB, R110. -/
  | qsub (h : Hd) (ra : BitVec 6) (aa : BitVec 4) (pd : BitVec 3)
  /-- QSUBW, R110. -/
  | qsubw (h : Hd) (ra : BitVec 6) (aa : BitVec 4) (pd : BitVec 3)
  /-- QDONE, R110. -/
  | qdone (h : Hd) (ra rb : BitVec 6)
  /-- DMA, R111. -/
  | dma (h : Hd) (asp : BitVec 4) (mode : BitVec 2) (am : BitVec 4) (rl : BitVec 6) (sn : BitVec 5) (sen : Bool) (dir : BitVec 2) (ag : Bool)
  /-- SEM_REQUEST, R283. -/
  | semRequest (die : BitVec 2)
  /-- CONTROL_RESPONSE, R114. -/
  | controlResponse (core : BitVec 6)
  /-- CONTROL_WAIT_TIMEOUT, R109. -/
  | controlWaitTimeout (core : BitVec 6) (dt : Nat)
  /-- HOLD_BOUND_EXPIRY, R108. -/
  | holdBoundExpiry (handle : BitVec 14) (dt : Nat)
  /-- DEADLINE_EXPIRY, R317. -/
  | deadlineExpiry (clause : Nat) (dt : Nat)
  /-- MMA, R132. -/
  | mma (h : Hd) (e : EF)
  /-- MMAS, R135. -/
  | mmas (h : Hd) (e : EF)
  /-- MMAR, R172. -/
  | mmar (h : Hd) (e : EF)
  /-- SPILL, R138. -/
  | spill (h : Hd) (e : EF)
  /-- FILL, R138. -/
  | fill (h : Hd) (e : EF)
  /-- VBIN_ADD, R143. -/
  | vbinAdd (h : Hd) (e : EF)
  /-- VBIN_SUB, R143. -/
  | vbinSub (h : Hd) (e : EF)
  /-- VBIN_MUL, R143. -/
  | vbinMul (h : Hd) (e : EF)
  /-- VBIN_MAX, R143. -/
  | vbinMax (h : Hd) (e : EF)
  /-- VBIN_MIN, R143. -/
  | vbinMin (h : Hd) (e : EF)
  /-- VFMA, R145. -/
  | vfma (h : Hd) (e : EF)
  /-- VUN_CVT, R143. -/
  | vunCvt (h : Hd) (e : EF)
  /-- VUN_ABS, R143. -/
  | vunAbs (h : Hd) (e : EF)
  /-- VUN_NEG, R143. -/
  | vunNeg (h : Hd) (e : EF)
  /-- VUN_EXP, R146. -/
  | vunExp (h : Hd) (e : EF)
  /-- VUN_EXP2, R146. -/
  | vunExp2 (h : Hd) (e : EF)
  /-- VUN_RCP, R146. -/
  | vunRcp (h : Hd) (e : EF)
  /-- VUN_RSQRT, R146. -/
  | vunRsqrt (h : Hd) (e : EF)
  /-- VRED_SUM, R143. -/
  | vredSum (h : Hd) (e : EF)
  /-- VRED_MAX, R143. -/
  | vredMax (h : Hd) (e : EF)
  /-- VRED_ABSMAX, R143. -/
  | vredAbsmax (h : Hd) (e : EF)
  /-- VSHUF, R147. -/
  | vshuf (h : Hd) (e : EF)
  /-- VSTAT, R149. -/
  | vstat (h : Hd) (e : EF)
  /-- QUANT, R151. -/
  | quant (h : Hd) (e : EF)
  /-- VSEED, R142. -/
  | vseed (h : Hd) (e : EF)
  /-- VFLAGS, R143. -/
  | vflags (h : Hd) (e : EF)
  /-- VSTRD, R143. -/
  | vstrd (h : Hd) (e : EF)
  /-- VSTLD, R149. -/
  | vstld (h : Hd) (e : EF)
  /-- VSMX, R170. -/
  | vsmx (h : Hd) (e : EF)
  /-- VSMXB, R173. -/
  | vsmxb (h : Hd) (e : EF)
  /-- VSCAN, R191. -/
  | vscan (h : Hd) (e : EF)
  /-- VSCAN_LOAD_CARRY, R190. -/
  | vscanLoadCarry (h : Hd) (e : EF)
  /-- VSCAN_STORE_CARRY, R190. -/
  | vscanStoreCarry (h : Hd) (e : EF)
  /-- VPOOL_MAX, R215. -/
  | vpoolMax (h : Hd) (e : EF)
  /-- VPOOL_AVG, R215. -/
  | vpoolAvg (h : Hd) (e : EF)
  /-- VRSZ, R215. -/
  | vrsz (h : Hd) (e : EF)
  /-- CLAUSE_CHOICE, R301. -/
  | clauseChoice (core : BitVec 6)
  /-- CLAUSE_START, R88. -/
  | clauseStart (core : BitVec 6)
  /-- CLAUSE_END, R89. -/
  | clauseEnd (core : BitVec 6)
  /-- AGE_PROMOTION, R303. -/
  | agePromotion (isReq : Bool) (id idx : Nat) (dt : Nat)
  /-- KICKSTAND_SAVE, R306. -/
  | kickstandSave (core : BitVec 6)
  /-- FABRIC_DRAIN_TIMEOUT, R306. -/
  | fabricDrainTimeout (core : BitVec 6) (dt : Nat)
  /-- KICKSTAND_SAVE_DONE, R308. -/
  | kickstandSaveDone (core : BitVec 6) (dt : Nat)
  /-- KICKSTAND_RESTORE, R309. -/
  | kickstandRestore (core : BitVec 6)
  /-- KICKSTAND_RESTORE_DONE, R118. -/
  | kickstandRestoreDone (core : BitVec 6) (poison : Bool) (dt : Nat)
  /-- DOORBELL, R259. -/
  | doorbell (port : Port) (die : BitVec 2) (q : BitVec 13) (v : BitVec 32)
  /-- SUBMIT_REQUEST, R260. -/
  | submitRequest (die : BitVec 2)
  /-- DESCRIPTOR_FETCH, R258. -/
  | descriptorFetch (die : BitVec 2)
  /-- DMA_NOP, R266. -/
  | dmaNop (die : BitVec 2) (q : BitVec 13)
  /-- DMA_COPY, R264. -/
  | dmaCopy (die : BitVec 2) (q : BitVec 13)
  /-- DMA_FILL, R264. -/
  | dmaFill (die : BitVec 2) (q : BitVec 13)
  /-- DMA_BARRIER, R266. -/
  | dmaBarrier (die : BitVec 2) (q : BitVec 13)
  /-- DESCRIPTOR_START, R266. -/
  | descriptorStart (die : BitVec 2) (q : BitVec 13)
  /-- TRANSFER_START, R272. -/
  | transferStart (x : Nat)
  /-- SEGMENT_ISSUE, R273. -/
  | segmentIssue (x : Nat)
  /-- SEGMENT_DONE, R275. -/
  | segmentDone (x k : Nat)
  /-- COMPLETION, R268. -/
  | completion (die : BitVec 2) (q : BitVec 13)
  /-- COMPLETION_RESUME, R269. -/
  | completionResume (die : BitVec 2) (q : BitVec 13)
  /-- CQ_HEAD_WRITE, R269. -/
  | cqHeadWrite (port : Port) (die : BitVec 2) (q : BitVec 13) (v : BitVec 32)
  /-- IRQ_TIMER, R270. -/
  | irqTimer (die : BitVec 2) (q : BitVec 13) (dt : Nat)
  /-- QUEUE_ENABLE, R262. -/
  | queueEnable (port : Port) (die : BitVec 2) (q : BitVec 13)
  /-- QUEUE_DISABLE, R263. -/
  | queueDisable (port : Port) (die : BitVec 2) (q : BitVec 13)
  /-- QUEUE_DRAIN, R263. -/
  | queueDrain (port : Port) (die : BitVec 2) (q : BitVec 13)
  /-- QUEUE_CANCEL, R263. -/
  | queueCancel (port : Port) (die : BitVec 2) (q : BitVec 13)
  /-- TRANSFER_RESUME, R276. -/
  | transferResume (x : Nat)
  /-- SEM_ALLOCATE, R282. -/
  | semAllocate (port : Port) (die : BitVec 2) (n : BitVec 12) (w : BitVec 32)
  /-- SEM_SIGNAL_WRITE, R293. -/
  | semSignalWrite (port : Port) (die : BitVec 2) (n : BitVec 12) (v : BitVec 16)
  /-- CLAUSE_DESC, R298. -/
  | clauseDesc (die : BitVec 2) (q : BitVec 13)
  /-- CLAUSE_NOP, R296. -/
  | clauseNop (die : BitVec 2) (q : BitVec 13)
  /-- CLAUSE_BARRIER, R296. -/
  | clauseBarrier (die : BitVec 2) (q : BitVec 13)
  /-- GENERATE, R319. -/
  | generate (die : BitVec 2) (q : BitVec 13)
  /-- CANCEL, R319. -/
  | cancel (die : BitVec 2) (q : BitVec 13)
  /-- REQUEST_NOP, R319. -/
  | requestNop (die : BitVec 2) (q : BitVec 13)
  /-- STEP_BOUNDARY, R321. -/
  | stepBoundary (part : BitVec 4)
  /-- BACKGROUND_ZERO_FILL, R181. -/
  | backgroundZeroFill (part : BitVec 4) (isGroup : Bool) (idx : Nat)
  /-- STREAM_SWAP, R187. -/
  | streamSwap (stream : BitVec 16)
  /-- STREAM_EXPORT, R193. -/
  | streamExport (port : Port) (stream : BitVec 16) (keep : Bool)
  /-- STREAM_EXPORT_RESUME, R193. -/
  | streamExportResume
  /-- STREAM_IMPORT, R194. -/
  | streamImport (port : Port) (stream : BitVec 16)
  /-- STREAM_TRANSFER_END, R199. -/
  | streamTransferEnd (failed : Bool)
  /-- MIGRATION_DONE, R233. -/
  | migrationDone (die : BitVec 2) (i : Nat) (page : Nat) (ok : Bool)
  /-- MIGRATION_TIMEOUT, R233. -/
  | migrationTimeout (die : BitVec 2) (i : Nat) (dt : Nat)
  /-- NVME_COMPLETION, R231. -/
  | nvmeCompletion (die : BitVec 2) (i : Nat) (ok : Bool)
  /-- LANDING_WRITE, R521. -/
  | landingWrite (off : Nat) (n : Nat) (v : Nat)
  /-- MIGRATION_SWEEP, R236. -/
  | migrationSweep (port : Port) (die : BitVec 2)
  /-- SWEEP_DONE, R236. -/
  | sweepDone (die : BitVec 2)
  /-- INV_PAGES, R229. -/
  | invPages (port : Port) (die : BitVec 2) (ctx : BitVec 12) (pages : BitVec 16)
  /-- INV_CONTEXT, R229. -/
  | invContext (port : Port) (die : BitVec 2) (ctx : BitVec 12)
  /-- INV_ALL, R229. -/
  | invAll (port : Port) (die : BitVec 2)
  /-- INVALIDATION_DONE, R229. -/
  | invalidationDone (die : BitVec 2)
  /-- DRAM_ACCESS, R224. -/
  | dramAccess (x k : Nat) (err : BitVec 2)
  /-- PATROL_READ, R241. -/
  | patrolRead (die : BitVec 2) (pa : Nat) (err : BitVec 2)
  /-- MR4_POLL, R244. -/
  | mr4Poll (die : BitVec 2) (ch : BitVec 4) (mr4 : BitVec 5) (hot overT : Bool) (dt : Nat)
  /-- DRAM_REFRESH, R244. -/
  | dramRefresh (die : BitVec 2) (ch : BitVec 4) (dt : Nat)
  /-- CODE_CACHE_WRITEBACK, R239. -/
  | codeCacheWriteback (die : BitVec 2) (ch : BitVec 4)
  /-- GROUP_SCRUB, R243. -/
  | groupScrub (port : Port) (die : BitVec 2) (g : BitVec 4)
  /-- GROUP_SCRUB_DONE, R243. -/
  | groupScrubDone (die : BitVec 2) (g : BitVec 4)
  /-- CHAINRING_FRAME, R337. -/
  | chainringFrame (link : BitVec 3) (toHub : Bool) (crcOk idle : Bool) (acked : Nat)
  /-- CHAINRING_IDLE_FRAME, R337. -/
  | chainringIdleFrame (link : BitVec 3) (toHub : Bool) (dt : Nat)
  /-- CHAINRING_LINK_TIMEOUT, R337. -/
  | chainringLinkTimeout (link : BitVec 3) (dt : Nat)
  /-- QUIESCE_DRAINED, R343. -/
  | quiesceDrained
  /-- CHAINRING_TRAIN_DONE, R338. -/
  | chainringTrainDone (link : BitVec 3)
  /-- CHAINRING_TRAIN_TIMEOUT, R338. -/
  | chainringTrainTimeout (link : BitVec 3) (dt : Nat)
  /-- RESTORE_COMPLETE, R340. -/
  | restoreComplete (link : BitVec 3)
  /-- RETRAIN_TIMER, R341. -/
  | retrainTimer (link : BitVec 3) (dt : Nat)
  /-- CHR_DOWN, R342. -/
  | chrDown (port : Port) (link : BitVec 3)
  /-- CHR_RETRAIN, R341. -/
  | chrRetrain (port : Port) (link : BitVec 3)
  /-- FLIT, R345. -/
  | flit (p : Fin 6) (crcOk : Bool) (acked : Nat)
  /-- FLIFER_IDLE_FLIT, R345. -/
  | fliferIdleFlit (p : Fin 6) (dt : Nat)
  /-- FLIFER_LINK_TIMEOUT, R345. -/
  | fliferLinkTimeout (p : Fin 6) (dt : Nat)
  /-- ROUTE_RESTORE, R357. -/
  | routeRestore (p : Fin 6) (dt : Nat)
  /-- FLIFER_TRAIN_DONE, R344. -/
  | fliferTrainDone (p : Fin 6) (lanes : BitVec 4) (pkg : BitVec 6) (pvalid : Bool) (pport : BitVec 3) (uid : BitVec 128)
  /-- CREDIT_RETURN, R346. -/
  | creditReturn (p : Fin 6) (cls : BitVec 2) (ch : Bool) (n : Nat)
  /-- WRITE, R351. -/
  | write (p : Fin 6) (k : Pkt) (data : Nat)
  /-- READ, R351. -/
  | read (p : Fin 6) (k : Pkt)
  /-- ACK, R354. -/
  | ack (p : Fin 6) (k : Pkt)
  /-- READ_DATA, R354. -/
  | readData (p : Fin 6) (k : Pkt) (data : Nat)
  /-- NACK, R354. -/
  | nack (p : Fin 6) (k : Pkt)
  /-- E2E_TIMEOUT, R354. -/
  | e2eTimeout (x k : Nat) (dt : Nat)
  /-- PRESENCE, R358. -/
  | presence (p : Fin 6) (k : Pkt)
  /-- PRESENCE_TIMER, R358. -/
  | presenceTimer (dt : Nat)
  /-- PEER_TIMEOUT, R358. -/
  | peerTimeout (peer : BitVec 6) (dt : Nat)
  /-- PEER_REARM, R358. -/
  | peerRearm (port : Port) (peer : BitVec 6)
  /-- WINDOW_OPEN, R352. -/
  | windowOpen (port : Port) (w : BitVec 8)
  /-- WINDOW_CLOSE, R352. -/
  | windowClose (port : Port) (w : BitVec 8)
  /-- DIGEST, R363. -/
  | digest (p : Fin 6) (k : Pkt) (value : BitVec 256) (group : BitVec 16) (dirty : Bool) (epoch : BitVec 32)
  /-- DIGEST_TIMER, R363. -/
  | digestTimer (dt : Nat)
  /-- DIGEST_COMMIT, R362. -/
  | digestCommit (port : Port)
  /-- DIGEST_SETTLE, R362. -/
  | digestSettle (dt : Nat)
  /-- DIGEST_DONE, R362. -/
  | digestDone
  /-- TSYNC, R387. -/
  | tsync (p : Fin 6) (k : Pkt) (time corr seq : Nat)
  /-- TSYNC_TIMER, R387. -/
  | tsyncTimer (dt : Nat)
  /-- PDELAY_REQ, R387. -/
  | pdelayReq (p : Fin 6) (t1 : Nat)
  /-- PDELAY_RESP, R387. -/
  | pdelayResp (p : Fin 6) (t1 t2 t3 : Nat)
  /-- PDELAY_TIMER, R387. -/
  | pdelayTimer (dt : Nat)
  /-- SNAP_SCHED, R390. -/
  | snapSched (p : Fin 6) (k : Pkt) (id : BitVec 32) (time : Nat)
  /-- SNAP_ACK, R390. -/
  | snapAck (p : Fin 6) (k : Pkt) (id : BitVec 32) (code : BitVec 8)
  /-- TIME_LOAD, R374. -/
  | timeLoad (port : Port) (cmd : BitVec 32)
  /-- TIME_STEP, R374. -/
  | timeStep (port : Port) (cmd : BitVec 32)
  /-- TIME_RATE, R374. -/
  | timeRate (port : Port) (cmd : BitVec 32)
  /-- TIME_APPLY, R374. -/
  | timeApply (die : Fin 5)
  /-- SKEW_CHECK, R378. -/
  | skewCheck (die : BitVec 2) (jitter : Int)
  /-- TIME_CONVERT, R380. -/
  | timeConvert (port : Port) (count : BitVec 64)
  /-- SNAPSHOT_ARM, R389. -/
  | snapshotArm (port : Port) (cmd : BitVec 32)
  /-- SNAPSHOT_LATCH, R389. -/
  | snapshotLatch (die : Fin 5)
  /-- LOG_ENTRY_WRITE, R393. -/
  | logEntryWrite
  /-- LOG_TAIL_WRITE, R402. -/
  | logTailWrite (port : Port) (v : BitVec 32)
  /-- FRAME_START, R406. -/
  | frameStart (port : BitVec 2) (vc : BitVec 4) (num : BitVec 16) (ecc : BitVec 2)
  /-- FRAME_END, R408. -/
  | frameEnd (port : BitVec 2) (vc : BitVec 4) (num : BitVec 16) (ecc : BitVec 2)
  /-- LONG_PACKET, R408. -/
  | longPacket (port : BitVec 2) (vc : BitVec 4) (dt : BitVec 6) (wc : Nat) (payload : List (BitVec 8)) (crc : BitVec 16) (ecc : BitVec 2)
  /-- LINE_START, R403. -/
  | lineStart (port : BitVec 2) (vc : BitVec 4) (ecc : BitVec 2)
  /-- LINE_END, R403. -/
  | lineEnd (port : BitVec 2) (vc : BitVec 4) (ecc : BitVec 2)
  /-- LINE_PROCESS, R405. -/
  | lineProcess
  /-- FE_TIMEOUT, R408. -/
  | feTimeout (s : BitVec 3) (dt : Nat)
  /-- PSET_COMMIT, R410. -/
  | psetCommit (port : Port) (s : BitVec 3) (v : BitVec 32)
  /-- PSET_PREFETCH_DONE, R410. -/
  | psetPrefetchDone (s : BitVec 3) (bank : Nat)
  /-- CAMERA_STREAM_DISABLE, R420. -/
  | cameraStreamDisable (port : Port) (s : BitVec 3)
  /-- SW_ENABLE, R418. -/
  | swEnable (port : Port) (k : BitVec 2)
  /-- SW_DISABLE, R418. -/
  | swDisable (port : Port) (k : BitVec 2)
  /-- SW_CLEAR, R418. -/
  | swClear (port : Port) (k : BitVec 2)
  /-- SW_RAMP_END, R418. -/
  | swRampEnd (k : BitVec 2) (outMv inMv : Nat) (dt : Nat)
  /-- SW_LIMIT_TIMEOUT, R418. -/
  | swLimitTimeout (k : BitVec 2) (us : Nat)
  /-- AUDIO_BLOCK, R426. -/
  | audioBlock (ch : Fin 40) (ago : Nat) (samples : List Int)
  /-- TDM_SYNC_LOSS, R426. -/
  | tdmSyncLoss (k : BitVec 1)
  /-- MUTE_ASSERT, R427. -/
  | muteAssert
  /-- MUTE_DEASSERT, R427. -/
  | muteDeassert
  /-- MUTE_RELEASE, R427. -/
  | muteRelease (dt : Nat)
  /-- W0_FRAME, R429. -/
  | w0Frame (samples : List Int)
  /-- W1_HOP, R430. -/
  | w1Hop (samples : List Int)
  /-- W2_HOP, R430. -/
  | w2Hop
  /-- HOLD1_TIMEOUT, R428. -/
  | hold1Timeout (dt : Nat)
  /-- HOLD2_TIMEOUT, R428. -/
  | hold2Timeout (dt : Nat)
  /-- WAKE_HANDOFF, R431. -/
  | wakeHandoff
  /-- COOL_DOWN_END, R428. -/
  | coolDownEnd (dt : Nat)
  /-- RING_SEGMENT, R432. -/
  | ringSegment (ago : Nat) (samples : List Int)
  /-- PIPE_SAMPLE, R435. -/
  | pipeSample (n : BitVec 4)
  /-- PIPE_FREE_ACQUIRE, R440. -/
  | pipeFreeAcquire (n : BitVec 4)
  /-- READY_POLL, R440. -/
  | readyPoll (n : BitVec 4)
  /-- PIPE_DISABLE, R441. -/
  | pipeDisable (port : Port) (n : BitVec 4)
  /-- DIE_COAST_REQUEST, R450. -/
  | dieCoastRequest (port : Port) (die : BitVec 2)
  /-- DIE_RETAIN_REQUEST, R450. -/
  | dieRetainRequest (port : Port) (die : BitVec 2)
  /-- DIE_RUN_REQUEST, R453. -/
  | dieRunRequest (port : Port) (die : BitVec 2)
  /-- ENTRY_QUIESCED, R450. -/
  | entryQuiesced (die : BitVec 2)
  /-- ENTRY_WAIT_TIMEOUT, R450. -/
  | entryWaitTimeout (die : BitVec 2) (dt : Nat)
  /-- PKG_RETAIN_REQUEST, R452. -/
  | pkgRetainRequest (port : Port)
  /-- PKG_OFF_REQUEST, R445. -/
  | pkgOffRequest (port : Port)
  /-- WAKE_PIN, R453. -/
  | wakePin
  /-- WAKE_AT_TIMER, R453. -/
  | wakeAtTimer (dt : Nat)
  /-- OFF_TIMER_EXPIRY, R453. -/
  | offTimerExpiry (dt : Nat)
  /-- PCIE_WAKE, R452. -/
  | pcieWake
  /-- DIE_WAKE, R453. -/
  | dieWake (die : BitVec 2)
  /-- WAKE_COMPLETE, R446. -/
  | wakeComplete (target : Fin 5) (dt : Nat)
  /-- POWER_ESTIMATE, R457. -/
  | powerEstimate (w : Nat) (dt : Nat)
  /-- THROTTLE_ADJUST, R457. -/
  | throttleAdjust (dt : Nat)
  /-- THERMAL_READ, R459. -/
  | thermalRead (temps : List Int) (dt : Nat)
  /-- SAG_TRIP, R460. -/
  | sagTrip (cycles : Nat)
  /-- SAG_SAVE_COMPLETE, R460. -/
  | sagSaveComplete
  /-- SAG_RECOVER, R462. -/
  | sagRecover (ms : Nat)
  /-- HOLD_VIN_DROP, R465. -/
  | holdVinDrop
  /-- STALL_DETECT, R468. -/
  | stallDetect (core : BitVec 6) (dt : Nat)
  /-- WAIT_FOR_SCAN, R469. -/
  | waitForScan (dt : Nat)
  /-- CORE_CLEAR, R473. -/
  | coreClear (core : BitVec 6)
  /-- CLEAR_DONE, R473. -/
  | clearDone (core : BitVec 6)
  /-- PROBE_TIMEOUT, R474. -/
  | probeTimeout (core : BitVec 6) (dt : Nat)
  /-- CLEAR_TIMEOUT, R477. -/
  | clearTimeout (core : BitVec 6) (dt : Nat)
  /-- CORE_RESET_TIMEOUT, R477. -/
  | coreResetTimeout (core : BitVec 6) (dt : Nat)
  /-- RESET_CORE, R478. -/
  | resetCore (port : Port) (core : BitVec 6)
  /-- RESET_DIE, R478. -/
  | resetDie (port : Port) (die : BitVec 2) (drainOk : Bool)
  /-- RESET_HUB_BLOCK, R479. -/
  | resetHubBlock (port : Port) (block : BitVec 6)
  /-- RESET_PACKAGE, R478. -/
  | resetPackage (port : Port)
  /-- RESET_RELEASE, R478. -/
  | resetRelease (dom idx : Nat)
  /-- BLOCK_WATCHDOG, R478. -/
  | blockWatchdog (block : BitVec 6) (dt : Nat)
  /-- PARTITION_CORE_CHANGE, R491. -/
  | partitionCoreChange (port : Port) (part : BitVec 4) (cores : BitVec 64)
  /-- WAY_CHANGE, R493. -/
  | wayChange (port : Port) (w : BitVec 4) (v : BitVec 32)
  /-- WAY_CLEAR_DONE, R493. -/
  | wayClearDone (w : BitVec 4)
  /-- KEY_LOAD, R494. -/
  | keyLoad (port : Port) (v : BitVec 32)
  /-- KEY_GENERATE, R494. -/
  | keyGenerate (port : Port) (v : BitVec 32)
  /-- KEY_ERASE, R494. -/
  | keyErase (port : Port) (v : BitVec 32)
  /-- KILL, R497. -/
  | kill (port : Port) (v : BitVec 32)
  /-- KILL_WAIT_TIMEOUT, R497. -/
  | killWaitTimeout (dt : Nat)
  /-- SCRUB_START, R498. -/
  | scrubStart (core : BitVec 6)
  /-- SCRUB_DONE, R498. -/
  | scrubDone (core : BitVec 6)
  /-- SCRUB_TIMEOUT, R498. -/
  | scrubTimeout (core : BitVec 6) (dt : Nat)
  /-- DEBUG_CHALLENGE, R505. -/
  | debugChallenge (port : Port)
  /-- DEBUG_SUBMIT, R505. -/
  | debugSubmit (port : Port)
  /-- DEBUG_PASSWORD, R506. -/
  | debugPassword (port : Port)
  /-- DEBUG_END, R507. -/
  | debugEnd (port : Port)
  /-- SESSION_EXPIRY, R507. -/
  | sessionExpiry (dt : Nat)
  /-- PASSWORD_DELAY_END, R506. -/
  | passwordDelayEnd (dt : Nat)
  /-- VF_REGISTER_ACCESS, R515. -/
  | vfRegisterAccess (v : BitVec 4) (off : BitVec 29) (isRead : Bool) (n : Nat) (x : Nat)
  /-- VF_MEMORY_ACCESS, R516. -/
  | vfMemoryAccess (v : BitVec 4) (off : BitVec 32) (isRead : Bool) (n : Nat) (x : Nat)
  /-- VF_FLR, R517. -/
  | vfFlr (v : BitVec 4)
  /-- PF_RESET, R517. -/
  | pfReset (kind : BitVec 2)
  /-- MSIX_UNMASK, R519. -/
  | msixUnmask (fn : Fin 17) (entry : BitVec 11)
  /-- ETH_FRAME_RECEIVE, R522. -/
  | ethFrameReceive (n : BitVec 1) (bytes : List (BitVec 8)) (fcsOk : Bool)
  /-- ETH_TRANSMIT, R524. -/
  | ethTransmit (n : BitVec 1) (buffer : Nat)
  /-- SBP_IND_READ, R528. -/
  | sbpIndRead (port : Port)
  /-- SBP_IND_WRITE, R528. -/
  | sbpIndWrite (port : Port)
  /-- SBP_IND_DONE, R528. -/
  | sbpIndDone
  /-- UART_RX_FRAME, R530. -/
  | uartRxFrame (startHigh : Bool) (b : BitVec 8) (stopHigh : Bool)
  /-- UART_DATA_WRITE, R529. -/
  | uartDataWrite (port : Port) (b : BitVec 8)
  /-- UART_DATA_READ, R529. -/
  | uartDataRead (port : Port)
  /-- I2C_CMD, R532. -/
  | i2cCmd (port : Port) (m : BitVec 1) (v : BitVec 32)
  /-- I3C_PRIVATE_CMD, R532. -/
  | i3cPrivateCmd (port : Port) (m : BitVec 1) (v : BitVec 32)
  /-- I3C_CCC_CMD, R532. -/
  | i3cCccCmd (port : Port) (m : BitVec 1) (v : BitVec 32)
  /-- I2C_TRANSFER_DONE, R532. -/
  | i2cTransferDone (m : BitVec 1) (nack : Bool) (rx : List (BitVec 8)) (devs : List (BitVec 64))
  /-- I2C_DATA_READ, R532. -/
  | i2cDataRead (port : Port) (m : BitVec 1)
  /-- IBI, R532. -/
  | ibi (m : BitVec 1) (addr : BitVec 7) (b : BitVec 8) (hasByte : Bool)
  /-- STUCK_BUS, R532. -/
  | stuckBus (m : BitVec 1) (dt : Nat)
  /-- BOOT_STAGE_END, R533. -/
  | bootStageEnd (o : BootIn)
  /-- TRAIN_ZQ, R537. -/
  | trainZq (port : Port) (die : BitVec 2) (v : BitVec 32)
  /-- TRAIN_CA, R537. -/
  | trainCa (port : Port) (die : BitVec 2) (v : BitVec 32)
  /-- TRAIN_WCK2CK, R537. -/
  | trainWck2ck (port : Port) (die : BitVec 2) (v : BitVec 32)
  /-- TRAIN_READ_DQ, R537. -/
  | trainReadDq (port : Port) (die : BitVec 2) (v : BitVec 32)
  /-- TRAIN_WRITE_READ, R537. -/
  | trainWriteRead (port : Port) (die : BitVec 2) (v : BitVec 32)
  /-- TRAIN_SET_RATE, R537. -/
  | trainSetRate (port : Port) (die : BitVec 2) (v : BitVec 32)
  /-- TRAIN_APPLY, R537. -/
  | trainApply (port : Port) (die : BitVec 2) (v : BitVec 32)
  /-- TRAIN_OP_DONE, R537. -/
  | trainOpDone (die : BitVec 2) (errs : List (Nat × Nat))
  /-- TRAIN_COMMIT, R537. -/
  | trainCommit (port : Port) (die : BitVec 2) (v : BitVec 32) (density : List Nat)
  /-- AON_POWER_UP, R542. -/
  | aonPowerUp
  /-- PACKAGE_RESET_RELEASE, R542. -/
  | packageResetRelease
  /-- PWRGD_FALL, R543. -/
  | pwrgdFall
  /-- OFF_HOLD_END, R544. -/
  | offHoldEnd (dt : Nat)
  /-- RAIL_UNDERVOLTAGE, R545. -/
  | railUndervoltage (die : Fin 5) (rail : BitVec 8)
  /-- REFCLK_LOSS, R548. -/
  | refclkLoss
  /-- REFCLK_RETURN, R548. -/
  | refclkReturn (dt : Nat)
  /-- PCIE_FUNDAMENTAL_RESET, R478. -/
  | pcieFundamentalReset
  /-- THROTTLE_ALLOWED_PART, R458. -/
  | throttleAllowedPart (die : BitVec 2)
  /-- HOLD_VIN_RECOVER, R465. -/
  | holdVinRecover
  /-- TDM_FRAME_SYNC_GAIN, R426. -/
  | tdmFrameSyncGain (k : BitVec 1)
  /-- LANES_HS_SYNC_CHANGE, R422. -/
  | lanesHsSyncChange (port : BitVec 2) (lock ulps : Bool)
  /-- UART_RX_REARM, R530. -/
  | uartRxRearm (samples : Nat)
  /-- UART_TX_FRAME_END, R529. -/
  | uartTxFrameEnd
  /-- PCIE_COMPLETION_TIMEOUT, R513. -/
  | pcieCompletionTimeout (die : BitVec 2) (i : Nat) (dt : Nat)
  /-- CREDIT_STALL, R369. -/
  | creditStall (p : Fin 6) (cls : BitVec 2) (ch : Bool) (dt : Nat)
  deriving DecidableEq, Repr

end Sys2Proof
end

