-- ==== Sys2Proof/Config.lean ====
section
/-! DEFINITION. What the spec leaves to the part, the board or chance: fused values, the random source, and the values
the spec bounds without stating. Every constant here has no body, so no proof sees a value of it. -/

namespace Sys2Proof.Config

/-- SEC_STATUS.LIFE, fused (R502, R510). -/
opaque fusedLife : Nat

/-- SEC_STATUS.ROLLBACK, fused (R501, R510). -/
opaque fusedRollback : Nat

/-- SEC_STATUS.REVOKED, fused (R501, R510). -/
opaque fusedRevoked : Nat

/-- The 128-bit unique identifier of HUB_UID, fused (R512). -/
opaque fusedUid : Nat

/-- The four fused hashes of signing keys (R501, R505), the salt and the hash of the owner password (R506), and the provisioning
key-encryption key (R494): byte strings as little-endian numbers. -/
opaque fusedKeyHash (i : Nat) : Nat
opaque fusedSalt : Nat
opaque fusedPwdHash : Nat
opaque provisioningKek : Nat

/-- R146: which of the two FP32 neighbours of the exact result the part returns, for EXP (0), EXP2 (1) and RSQRT (2) of
an FP32 argument; the spec names both and states neither. -/
opaque faithfulUp (fn arg : Nat) : Bool

/-- A value the spec leaves open, applied to the counter State.freeCtr or to the operands it depends on. -/
opaque freeValue (n : Nat) : Nat

/-- R242, R496: a byte of an encrypted unit read under a key other than the one it was stored under; the spec says only
that the old contents cannot be read. -/
opaque garbled (stored readUnder addr : Nat) : BitVec 8

/-- R245: the bank and the row of a channel address; the spec gives the DRAM's banks and no mapping onto them. -/
opaque dramBank (chanAddr : Nat) : Nat
opaque dramRow (chanAddr : Nat) : Nat

/-- R166: how many query heads of a partition's model share one key-value head, 1–64; no register of the spec holds it. -/
opaque queryHeads (part : Nat) : Nat

/-- R415: which frequency wins (bit 0: 120 Hz), CONF in bits [8:1] and PHASE in bits [24:9], from the row means (sum and number
of green pixels) and the starts of the rows; the FP32 sums go through cosines and sines the spec does not round. -/
opaque flicker (means : List (Nat × Nat)) (starts : List Nat) : Nat

/-- R438: a pixel of a window that lies outside the frame; the spec gives jitter no edge rule. -/
opaque outsidePixel (x y : Int) (chan : Nat) : Nat

/-- R435: channel R, G or B of a YUV422 pixel; the spec names the channels and no conversion. -/
opaque yuvRgb (y u v chan : Nat) : Nat

/-- R435, R444: GAIN (0) and BIAS (1) of audio channels 4–15 of a group, for which INP_ has no NORM register. -/
opaque norm (pipe chan which : Nat) : Nat

/-- R430: band `band` of the log-mel features of a window of samples, 8 bits; the spec states the window, the FFT and the bands
and no arithmetic for them. An empty window stands for a frame from before the features began. -/
opaque melBand (window : List Int) (band : Nat) : Nat

/-- R484, R535: the trigger byte of a log entry of class 0x0C, event 5. The spec gives the triggers of R478 no codes, but for 0xFF at a
failed boot. -/
opaque triggerCode (trigger : Nat) : Nat

end Sys2Proof.Config
end

