-- ==== Sys2Proof/Machine/Maps.lean ====
section
/-! DEFINITION. The operations on sparse maps and on little-endian byte strings. -/

namespace Sys2Proof.Machine

/-- The value at a key, or the default where nothing is listed. -/
def mget {α : Type} (d : α) : SMap α → Nat → α
  | [], _ => d
  | (k, v) :: r, q => if q = k then v else mget d r q

/-- The map with every entry of one key taken out. -/
def mdel {α : Type} : SMap α → Nat → SMap α
  | [], _ => []
  | (k, v) :: r, q => if q = k then mdel r q else (k, v) :: mdel r q

/-- The map with an entry put at its place in the rising order. -/
def mins {α : Type} : SMap α → Nat → α → SMap α
  | [], q, x => [(q, x)]
  | (k, v) :: r, q, x =>
    if q < k then (q, x) :: (k, v) :: r
    else if q = k then (q, x) :: r
    else (k, v) :: mins r q x

/-- A write: an entry equal to the default is not listed, so equal maps are equal data. -/
def mset {α : Type} [DecidableEq α] (d : α) (m : SMap α) (k : Nat) (v : α) : SMap α :=
  if v = d then mdel m k else mins m k v

/-- An update of one entry by a function. -/
def mupd {α : Type} [DecidableEq α] (d : α) (m : SMap α) (k : Nat) (f : α → α) : SMap α :=
  mset d m k (f (mget d m k))

/-- The canonical form: keys strictly rising. -/
def mrising {α : Type} : SMap α → Bool
  | [] => true
  | [_] => true
  | (k, _) :: (k', v') :: r => decide (k < k') && mrising ((k', v') :: r)

/-- The canonical form, with no entry equal to the default. -/
def mwf {α : Type} [DecidableEq α] (d : α) (m : SMap α) : Bool :=
  mrising m && m.all (fun p => decide (p.2 ≠ d))

/-- The entries whose key is kept by a test (used by resets and erasures). -/
def mkeep {α : Type} (p : Nat → Bool) (m : SMap α) : SMap α := m.filter (fun e => p e.1)

/-! ### Little-endian byte strings held as numbers (R5) -/

/-- `n` bytes from address `a`, the lowest address least significant. -/
def memRead (m : SMap Byte) (a : Nat) : Nat → Nat
  | 0 => 0
  | n + 1 => (mget (0 : Byte) m a).toNat + 256 * memRead m (a + 1) n

/-- The low `n` bytes of `v` stored from address `a`. -/
def memWrite (m : SMap Byte) (a : Nat) : Nat → Nat → SMap Byte
  | 0, _ => m
  | n + 1, v => memWrite (mset (0 : Byte) m a (BitVec.ofNat 8 v)) (a + 1) n (v / 256)

/-- The byte string of `n` bytes as a list, lowest address first. -/
def bytesOf : Nat → Nat → List Nat
  | 0, _ => []
  | n + 1, v => v % 256 :: bytesOf n (v / 256)

/-- The number a little-endian byte list spells. -/
def ofBytes : List Nat → Nat
  | [] => 0
  | b :: r => b % 256 + 256 * ofBytes r

/-- Bits [lo+w-1 : lo] of a number. -/
def bits (v lo w : Nat) : Nat := v / 2 ^ lo % 2 ^ w

/-- Bit `k` of a number. -/
def bitOf (v k : Nat) : Bool := v / 2 ^ k % 2 = 1

/-- A number with bits [lo+w-1 : lo] replaced. -/
def setBits (v lo w x : Nat) : Nat := v - bits v lo w * 2 ^ lo + x % 2 ^ w * 2 ^ lo

/-- A truth value as one bit. -/
def b2n (b : Bool) : Nat := if b then 1 else 0

/-- The two's-complement reading of a `w`-bit number. -/
def toSigned (w v : Nat) : Int := if 2 ^ (w - 1) ≤ v % 2 ^ w then (v % 2 ^ w : Nat) - (2 ^ w : Nat) else (v % 2 ^ w : Nat)

/-- The `w`-bit two's-complement form of an integer. -/
def ofSigned (w : Nat) (z : Int) : Nat := (z % (2 ^ w : Nat)).toNat

/-- A counter of `w` bits that stays at its greatest value. -/
def satAdd (w a b : Nat) : Nat := min (a + b) (2 ^ w - 1)

/-- Ceiling division. -/
def cdiv (a b : Nat) : Nat := (a + b - 1) / b

/-- `n` calls of `f` on a rising index from `i`. -/
def foldUp {α : Type} (f : Nat → α → α) : Nat → Nat → α → α
  | _, 0, x => x
  | i, n + 1, x => foldUp f (i + 1) n (f i x)

/-- The first index from `i`, within `n`, that passes a test. -/
def findUp (p : Nat → Bool) : Nat → Nat → Option Nat
  | _, 0 => none
  | i, n + 1 => if p i then some i else findUp p (i + 1) n

/-- A list with position `i` replaced (unchanged where there is none). -/
def lset {α : Type} : List α → Nat → α → List α
  | [], _, _ => []
  | _ :: r, 0, x => x :: r
  | y :: r, i + 1, x => y :: lset r i x

end Sys2Proof.Machine
end

