-- ==== Sys2Proof/Machine/RegFile.lean ====
section
/-! DEFINITION. What a register field and a register are: the five access types of R7, the encodings a field admits
(R9, R10), its reset value, and its place in a register. The tables themselves stand in Regs<Block>.lean. -/

namespace Sys2Proof.Machine

/-- The access types of R7. -/
inductive Acc where
  | rw | ro | w1c | rc | wo
  deriving DecidableEq, Repr

/-- The encodings a field's table row admits; every other one is reserved (R9, R10). -/
inductive Enc where
  | any
  | range (lo hi : Nat)
  | zeroOr (lo hi : Nat)
  | mult (k : Nat)
  | oneOf (l : List Nat)
  deriving DecidableEq, Repr

/-- A value that is not reserved. -/
def Enc.ok : Enc → Nat → Bool
  | .any, _ => true
  | .range lo hi, v => decide (lo ≤ v) && decide (v ≤ hi)
  | .zeroOr lo hi, v => decide (v = 0) || (decide (lo ≤ v) && decide (v ≤ hi))
  | .mult k, v => decide (v % k = 0)
  | .oneOf l, v => l.contains v

/-- Where a field's Reset column stands: a constant, the number of its core, die or index, or a fused value. -/
inductive Rst where
  | const (v : Nat)
  | globalCore | dieOfCore | localCore | index | norm
  | fusedLife | fusedRollback | fusedRevoked | fusedUid
  deriving DecidableEq, Repr

/-- The reset value for instance `i` (the die or global core; 0 on the Hub die) and index `j`. -/
def Rst.value : Rst → Nat → Nat → Nat
  | .const v, _, _ => v
  | .globalCore, i, _ => i
  | .dieOfCore, i, _ => i / 16
  | .localCore, i, _ => i % 16
  | .index, _, j => j
  | .norm, _, j => if j % 8 < 4 then 0x3F800000 else 0
  | .fusedLife, _, _ => Config.fusedLife % 4
  | .fusedRollback, _, _ => Config.fusedRollback % 64
  | .fusedRevoked, _, _ => Config.fusedRevoked % 16
  | .fusedUid, _, j => Config.fusedUid / 2 ^ (32 * j) % 2 ^ 32

/-- A field: its number, width, access type, reset value and admitted encodings. -/
structure Fld where
  id : Nat
  w : Nat
  acc : Acc
  rst : Rst
  enc : Enc
  deriving DecidableEq, Repr

/-- The key of a field's instance in the register file: 20 bits for the instance, 20 for the index. -/
def Fld.key (f : Fld) (i j : Nat) : Nat := (f.id * 2 ^ 20 + i % 2 ^ 20) * 2 ^ 20 + j % 2 ^ 20

/-- A field placed in a register: from bit `lo`; register index x holds the field's index `x·mul + add`. -/
structure Place where
  f : Fld
  lo : Nat
  mul : Nat
  add : Nat
  deriving DecidableEq, Repr

/-- `n` copies of one field, `w` bits apart. -/
def placeRun (f : Fld) (w n : Nat) : Nat → List Place
  | k => (List.range n).map (fun q => ⟨f, q * w, n, q + k⟩)

/-- A register or an array of registers: its first offset in its block, the stride, how many, its width in 32-bit
words, and its fields. -/
structure RegDef where
  name : String
  off : Nat
  stride : Nat
  count : Nat
  words : Nat
  places : List Place
  deriving DecidableEq, Repr

end Sys2Proof.Machine
end

