-- ==== Sys2Proof/Machine/Num.lean ====
section
/-! DEFINITION. The number formats of R125 (spec/04_arithmetic_and_quantisation.md), the exact values their codes stand
for, and the one rounding every result takes (R139, R140, R141). Values are exact rationals; nothing is rounded twice. -/

namespace Sys2Proof.Machine

/-- An exact value: NaN, an infinity with its sign, or a rational; `neg` is the sign a zero carries (R126). -/
inductive Val where
  | nan
  | inf (neg : Bool)
  | fin (neg : Bool) (q : Rat)
  deriving DecidableEq, Repr

/-- The sign of a value: of a nonzero rational its own, of a zero the sign it carries. -/
def Val.sign : Val → Bool
  | .nan => false
  | .inf n => n
  | .fin n q => if q = 0 then n else decide (q < 0)

def Val.isNan : Val → Bool
  | .nan => true
  | _ => false

def Val.isInf : Val → Bool
  | .inf _ => true
  | _ => false

def Val.isZero : Val → Bool
  | .fin _ q => decide (q = 0)
  | _ => false

/-- The rational of a finite value (0 for the others, which every caller tests first). -/
def Val.rat : Val → Rat
  | .fin _ q => q
  | _ => 0

def Val.neg : Val → Val
  | .nan => .nan
  | .inf n => .inf (!n)
  | .fin n q => .fin (!n) (-q)

def Val.abs : Val → Val
  | .nan => .nan
  | .inf _ => .inf false
  | .fin _ q => .fin false (if q < 0 then -q else q)

/-- `a < b` over values that are not NaN. -/
def Val.lt : Val → Val → Bool
  | .inf true, .inf true => false
  | .inf true, .fin _ _ => true
  | .inf true, .inf false => true
  | .fin _ _, .inf false => true
  | .fin _ a, .fin _ b => decide (a < b)
  | _, _ => false

/-- Two to an integer power. -/
def pow2 (e : Int) : Rat := if 0 ≤ e then ((2 ^ e.toNat : Nat) : Rat) else 1 / ((2 ^ (-e).toNat : Nat) : Rat)

/-- The exponent of the power of two at or below a positive rational. -/
def log2Floor (q : Rat) : Int :=
  let e : Int := (Nat.log2 q.num.toNat : Int) - (Nat.log2 q.den : Int)
  if pow2 e ≤ q then (if pow2 (e + 1) ≤ q then e + 1 else e) else e - 1

/-- A floating format of R125: exponent bits, mantissa bits, bias. -/
structure FFmt where
  eb : Nat
  mb : Nat
  bias : Nat
  deriving DecidableEq, Repr

/-- The floating formats by their code (R125); the integer formats and E8M0 have none. -/
def ffmt : Nat → Option FFmt
  | 2 => some ⟨2, 1, 1⟩
  | 3 => some ⟨4, 3, 7⟩
  | 4 => some ⟨5, 2, 15⟩
  | 5 => some ⟨8, 7, 127⟩
  | 6 => some ⟨5, 10, 15⟩
  | 7 => some ⟨8, 23, 127⟩
  | _ => none

/-- The width in bits of a format code (R125). -/
def fmtBits : Nat → Nat
  | 0 => 4 | 1 => 8 | 2 => 4 | 3 => 8 | 4 => 8 | 5 => 16 | 6 => 16 | 7 => 32 | 8 => 32 | _ => 8

/-- The integer formats: INT4, INT8, INT32. -/
def fmtInt (f : Nat) : Bool := decide (f = 0) || decide (f = 1) || decide (f = 8)

/-- The largest finite magnitude of a floating format (R125). -/
def fmtMax : Nat → Rat
  | 2 => 6
  | 3 => 448
  | 4 => 57344
  | 5 => (2 - pow2 (-7)) * pow2 127
  | 6 => 65504
  | 7 => (2 - pow2 (-23)) * pow2 127
  | _ => 0

/-- The value a code of a format stands for (R125). -/
def fmtValue (f v : Nat) : Val :=
  if fmtInt f then .fin false ((toSigned (fmtBits f) v : Int) : Rat)
  else if f = 9 then (if v % 256 = 255 then .nan else .fin false (pow2 ((v % 256 : Nat) - 127)))
  else match ffmt f with
  | none => .nan
  | some k =>
    let m := bits v 0 k.mb
    let e := bits v k.mb k.eb
    let n := bitOf v (k.mb + k.eb)
    let top := 2 ^ k.eb - 1
    let mag : Rat := if e = 0 then (m : Rat) * pow2 (1 - (k.bias : Int) - k.mb)
      else ((2 ^ k.mb + m : Nat) : Rat) * pow2 ((e : Int) - k.bias - k.mb)
    if f = 3 && decide (e = top) && decide (m = 7) then .nan
    else if decide (4 ≤ f) && decide (e = top) then (if m = 0 then .inf n else .nan)
    else .fin n (if n then -mag else mag)

/-- The flag bits of CORE_ARITH_FLAGS (R158). -/
abbrev Flags := Nat
def flNanIn : Flags := 1
def flInvalid : Flags := 2
def flOverflow : Flags := 4
def flUnderflow : Flags := 8
def flAccSat : Flags := 16
def flScaleNan : Flags := 32

/-- How a conversion rounds: to nearest even (R140), or stochastically with the 24 random bits U (R141). -/
inductive Rnd where
  | rne
  | stoch (u : Nat)
  deriving DecidableEq, Repr

/-- A nonnegative rational multiple of the spacing, rounded to a whole number of spacings (R140, R141). -/
def roundUnits (r : Rnd) (x : Rat) : Nat :=
  let n := x.floor.toNat
  let f := x - (n : Rat)
  if f = 0 then n
  else match r with
    | .rne => if f < 1 / 2 then n else if 1 / 2 < f then n + 1 else if n % 2 = 0 then n else n + 1
    | .stoch u => if 2 ^ 24 ≤ ((f * 2 ^ 24).floor.toNat + u) then n + 1 else n

/-- The canonical NaN of a format (R125, R126); the formats without a NaN write 0 (R139). -/
def fmtNan : Nat → Nat
  | 3 => 0x7F | 4 => 0x7F | 5 => 0x7FC0 | 6 => 0x7E00 | 7 => 0x7FC00000 | 9 => 0xFF | _ => 0

/-- The infinity of a format that has one. -/
def fmtInf (f : Nat) (neg : Bool) : Nat :=
  match ffmt f with
  | some k => (2 ^ k.eb - 1) * 2 ^ k.mb + b2n neg * 2 ^ (k.eb + k.mb)
  | none => 0

/-- The code of a magnitude that the format holds exactly. -/
def fmtPack (k : FFmt) (neg : Bool) (q : Rat) : Nat :=
  let s := b2n neg * 2 ^ (k.eb + k.mb)
  if q = 0 then s
  else
    let emin : Int := 1 - (k.bias : Int)
    let e := max (log2Floor q) emin
    let n := (q / pow2 (e - k.mb)).floor.toNat
    if n < 2 ^ k.mb then s + n else s + (e + k.bias).toNat * 2 ^ k.mb + (n - 2 ^ k.mb)

/-- R139: an exact value narrowed to a format, with the flags the narrowing sets (NAN_IN is set where the NaN is read). -/
def convert (f : Nat) (r : Rnd) (x : Val) : Nat × Flags :=
  if fmtInt f then
    let w := fmtBits f
    let hi : Int := 2 ^ (w - 1) - 1
    let lo : Int := -(2 ^ (w - 1))
    match x with
    | .nan => (0, flInvalid)
    | .inf n => (ofSigned w (if n then lo else hi), flOverflow)
    | .fin _ q =>
      let m : Int := roundUnits r (if q < 0 then -q else q)
      let z : Int := if q < 0 then -m else m
      if hi < z then (ofSigned w hi, flOverflow) else if z < lo then (ofSigned w lo, flOverflow) else (ofSigned w z, 0)
  else match ffmt f with
  | none => (0, 0)
  | some k =>
    match x with
    | .nan => (fmtNan f, if f = 2 then flInvalid else 0)
    | .inf n =>
      if f = 2 || f = 3 then (fmtPack k n (fmtMax f), flOverflow) else (fmtInf f n, 0)
    | .fin _ q =>
      let n := x.sign
      if q = 0 then (fmtPack k n 0, 0)
      else
        let a := if q < 0 then -q else q
        let e := max (log2Floor a) (1 - (k.bias : Int))
        let ulp := pow2 (e - k.mb)
        let y : Rat := (roundUnits r (a / ulp) : Nat) * ulp
        if y = 0 then (fmtPack k n 0, flUnderflow)
        else if fmtMax f < y then
          ((if f ≤ 4 then fmtPack k n (fmtMax f) else fmtInf f n), flOverflow)
        else (fmtPack k n y, 0)

/-- One FP32 rounding of an exact value (R139, R140). -/
def rne32 (x : Val) : Nat × Flags := convert 7 .rne x

/-- A source element as the FP32 value the vector engine computes with (R145): exact but for INT32. -/
def toFp32 (f v : Nat) : Val × Flags :=
  let x := fmtValue f v
  let nanIn := if x.isNan then flNanIn else 0
  if f = 8 then let r := rne32 x; (fmtValue 7 r.1, r.2) else (x, nanIn)

/-- An exact sum: NaN, infinities and the sign of a zero as R126 and R133 give them. -/
def vsum (l : List Val) : Val :=
  if l.any Val.isNan then .nan
  else
    let pinf := l.any (fun x => decide (x = .inf false))
    let ninf := l.any (fun x => decide (x = .inf true))
    if pinf && ninf then .nan
    else if pinf then .inf false
    else if ninf then .inf true
    else
      let q := l.foldl (fun acc x => acc + x.rat) 0
      .fin (l.all (fun x => x.isZero && x.sign)) q

/-- An exact product (R126, R133). -/
def vmul (a b : Val) : Val :=
  let s := a.sign != b.sign
  match a, b with
  | .nan, _ => .nan
  | _, .nan => .nan
  | .inf _, y => if y.isZero then .nan else .inf s
  | x, .inf _ => if x.isZero then .nan else .inf s
  | .fin _ p, .fin _ q => .fin s (p * q)

/-- An exact quotient; a zero divisor gives an infinity, 0 ÷ 0 and ∞ ÷ ∞ a NaN (R146). -/
def vdiv (a b : Val) : Val :=
  let s := a.sign != b.sign
  match a, b with
  | .nan, _ => .nan
  | _, .nan => .nan
  | .inf _, .inf _ => .nan
  | .inf _, _ => .inf s
  | _, .inf _ => .fin s 0
  | .fin _ p, .fin _ q => if q = 0 then (if p = 0 then .nan else .inf s) else .fin s (p / q)

/-- INVALID: a NaN made from operands that are none (R155). -/
def invalidOf (r : Val) (l : List Val) : Flags := if r.isNan && !l.any Val.isNan then flInvalid else 0

/-- INVALID in an exact sum of products and further terms: a product that makes a NaN, or a sum that does (R133, R155). -/
def dotInvalid (ps : List (Val × Val)) (ts : List Val) : Flags :=
  let ms := ps.map (fun x => vmul x.1 x.2)
  ps.foldl (fun f x => f ||| invalidOf (vmul x.1 x.2) [x.1, x.2]) 0 ||| invalidOf (vsum (ms ++ ts)) (ms ++ ts)

/-- The greater of two values: NaN wins, +0 is above −0 (R145). -/
def vmax (a b : Val) : Val :=
  if a.isNan || b.isNan then .nan
  else if a.isZero && b.isZero then .fin (a.sign && b.sign) 0
  else if a.lt b then b else a

/-- The lesser of two values (R145). -/
def vmin (a b : Val) : Val :=
  if a.isNan || b.isNan then .nan
  else if a.isZero && b.isZero then .fin (a.sign || b.sign) 0
  else if b.lt a then b else a

/-! ### The transcendental unit (R146) -/

/-- ln 2 to 200 bits. -/
def ln2 : Rat := mkRat 1113844574712631719546256151097547306333272293549090750737802 (2 ^ 200)

/-- Σ xⁿ/n! to 64 terms. -/
def expSeries (x : Rat) : Rat :=
  (foldUp (fun n (p : Rat × Rat) => let t := p.2 * x / ((n + 1 : Nat) : Rat); (p.1 + t, t)) 0 64 (1, 1)).1

/-- 2 to a rational power, to far more bits than FP32 holds. -/
def exp2Approx (x : Rat) : Rat :=
  let n := x.floor
  pow2 n * expSeries ((x - (n : Rat)) * ln2)

/-- The FP32 value at or below a positive rational, and the next one above it. -/
def neighbours (y : Rat) : Rat × Rat :=
  let e := max (log2Floor y) (-126)
  let ulp := pow2 (e - 23)
  let n : Rat := ((y / ulp).floor : Int)
  (n * ulp, (n + 1) * ulp)

/-- A faithful result: the part's own choice of the two neighbours of the exact result (R146). -/
def faithful (fn : Nat) (arg : Nat) (y : Rat) : Nat × Flags :=
  let p := neighbours y
  let z := if Config.faithfulUp fn arg then p.2 else p.1
  if z = 0 then (0, flUnderflow) else if fmtMax 7 < z then (fmtInf 7 false, flOverflow) else ((convert 7 .rne (.fin false z)).1, 0)

/-- EXP2 of an FP32 code (R146, R170). -/
def exp2Fp (v : Nat) : Nat × Flags :=
  match fmtValue 7 v with
  | .nan => (fmtNan 7, 0)
  | .inf true => (0, 0)
  | .inf false => (fmtInf 7 false, 0)
  | .fin _ q =>
    if 128 ≤ q then (fmtInf 7 false, flOverflow)
    else if q < -150 then (0, flUnderflow)
    else if q.den = 1 && decide (-149 ≤ q) then ((convert 7 .rne (.fin false (pow2 q.num))).1, 0)
    else if q = 0 then ((convert 7 .rne (.fin false 1)).1, 0)
    else if -(pow2 (-30)) < q && q < 0 then faithful 1 v (1 - pow2 (-30))
    else if 0 < q && q < pow2 (-30) then faithful 1 v (1 + pow2 (-30))
    else faithful 1 v (exp2Approx q)

/-- EXP of an FP32 code (R146). -/
def expFp (v : Nat) : Nat × Flags :=
  match fmtValue 7 v with
  | .nan => (fmtNan 7, 0)
  | .inf true => (0, 0)
  | .inf false => (fmtInf 7 false, 0)
  | .fin _ q =>
    let y := q / ln2
    if q = 0 then ((convert 7 .rne (.fin false 1)).1, 0)
    else if 128 ≤ y then (fmtInf 7 false, flOverflow)
    else if y < -150 then (0, flUnderflow)
    else if -(pow2 (-30)) < q && q < 0 then faithful 0 v (1 - pow2 (-30))
    else if 0 < q && q < pow2 (-30) then faithful 0 v (1 + pow2 (-30))
    else faithful 0 v (exp2Approx y)

/-- RCP of an FP32 code, correctly rounded (R146). -/
def rcpFp (v : Nat) : Nat × Flags :=
  match fmtValue 7 v with
  | .nan => (fmtNan 7, 0)
  | .inf n => (b2n n * 2 ^ 31, 0)
  | .fin n q => if q = 0 then (fmtInf 7 n, 0) else rne32 (.fin false (1 / q))

/-- RSQRT of an FP32 code (R146): the exact root where it is an FP32 value, else a faithful choice. -/
def rsqrtFp (v : Nat) : Nat × Flags :=
  match fmtValue 7 v with
  | .nan => (fmtNan 7, 0)
  | .inf false => (0, 0)
  | .inf true => (fmtNan 7, flInvalid)
  | .fin n q =>
    if q = 0 then (fmtInf 7 n, 0)
    else if q < 0 then (fmtNan 7, flInvalid)
    else
      let z := (2 ^ 400 / q).floor.toNat
      let r := Nat.sqrt z
      let y : Rat := (r : Rat) / 2 ^ 200
      if y * y * q = 1 && (neighbours y).1 = y then ((convert 7 .rne (.fin false y)).1, 0) else faithful 2 v y

/-! ### Stochastic rounding (R141, R142) -/

/-- The generator of R141; its top 24 bits are U. -/
def srGen (seed index : Nat) : Nat :=
  let m := 2 ^ 64
  let z := (seed + index * 0x9E3779B97F4A7C15) % m
  let z := (z ^^^ (z / 2 ^ 30)) * 0xBF58476D1CE4E5B9 % m
  let z := (z ^^^ (z / 2 ^ 27)) * 0x94D049BB133111EB % m
  z ^^^ (z / 2 ^ 31)

/-- The rounding of element `index`: stochastic only into a destination narrower than FP32 (R142). -/
def rndFor (rnd : Bool) (fd seed index : Nat) : Rnd :=
  if rnd && decide (fmtBits fd < 32) then .stoch (srGen seed index / 2 ^ 40) else .rne

end Sys2Proof.Machine
end

