-- ==== Sys2Proof/Machine/StateCore.lean ====
section
/-! DEFINITION. What one core holds beside its registers in the register file: the architectural state of its clause
(R83), its slot tags and claims (R52, R56), its dispatch queues (R40), its fetch buffer (R84) and its waits. -/

namespace Sys2Proof.Machine

/-- One scratchpad row an access names: the operand it belongs to, the tag mode of R53, the row, and its position in
the order in which the instruction names the rows of that owner. -/
structure RowRef where
  opnd : Nat
  mode : Nat
  row : Nat
  idx : Nat
  deriving DecidableEq, Repr

/-- An instruction dispatched to the matrix or the vector engine (format E of R96), with what it has read and formed. -/
structure EngOp where
  opc : Nat
  opx : Nat
  ra : Nat
  ma : Nat
  rb : Nat
  mb : Nat
  rd : Nat
  md : Nat
  tile : Nat
  cnt : Nat
  srSeed : Nat
  srIndex : Nat
  seq : Nat
  started : Bool
  q0 : List RowRef
  q1 : List RowRef
  q2 : List RowRef
  q3 : List RowRef
  q4 : List RowRef
  got : SMap Row
  outs : SMap Row
  step : Nat
  aux : List Nat
  statBegun : Bool
  deriving DecidableEq, Repr

/-- A row access of the control engine: LDRS, STRS, or the descriptor row of a queue request. -/
inductive CtlKind where
  | ldrs | strs | desc
  deriving DecidableEq, Repr

structure CtlRow where
  kind : CtlKind
  ref : RowRef
  data : Row
  deriving DecidableEq, Repr

/-- A blocked access (R58, R61, R63): the row whose tag test failed, the tag found and the cadence count of the first
failed test. -/
structure Blk where
  ref : RowRef
  tag : Nat
  start : Nat
  deriving DecidableEq, Repr

/-- An owner of the wheel: the slots its access has in use (opnd · 1024 + slot, R55) and its block. -/
structure OwnS where
  use : List Nat
  blk : Option Blk
  deriving DecidableEq, Repr

/-- What the control engine waits for. -/
inductive CtlWait where
  | none
  | fence (mask : Nat)
  | cend (word : Nat)
  | sem (fn handle bound pd start : Nat)
  | que (fn queue word pd rb start : Nat)
  | vflags (rc : Nat) (clear : Bool)
  deriving DecidableEq, Repr

/-- One core: `held` lists the handles of the locks its clause holds (R107), `lastRow` the code row it issued from last.
`lockT` is the cadence count at which an owner last moved or the port last emptied (R62), `prog` that at which an
instruction last issued or completed or a wait last ended (R468).
`clause` is the identifier of the clause record bound to it; `shEvent` marks the semaphore registers whose handle SHDL found to be an event
counter (R278). -/
structure CoreS where
  inClause : Bool
  clause : Nat
  tune : Bool
  vsmxb : Bool
  pc : Int
  g : SMap Word
  a : SMap (BitVec 48)
  p : SMap Bool
  sh : SMap (Option Nat)
  shEvent : SMap Bool
  rs : Row
  dl : Option Nat
  fbuf : List (Nat × Row)
  lastRow : Option Nat
  wait : CtlWait
  halted : Bool
  held : List Nat
  mq : List EngOp
  vq : List EngOp
  cq : List CtlRow
  own : SMap OwnS
  tags : SMap Nat
  claim : SMap Nat
  port : List Nat
  carry : SMap Nat
  opSeq : Nat
  lastCyc : Option Nat
  lockT : Option Nat
  prog : Nat
  cycRun : Bool
  cycBase : Int
  cycHold : Nat
  deriving DecidableEq, Repr

def OwnS.idle : OwnS := ⟨[], none⟩

/-- A core after its reset (R70), before any clause. -/
def CoreS.reset : CoreS :=
  { inClause := false, clause := 0, tune := false, vsmxb := false, pc := 0, g := [], a := [], p := [], sh := [], shEvent := [],
    rs := 0, dl := none, fbuf := [], lastRow := none, wait := .none, halted := false, held := [], mq := [], vq := [], cq := [],
    own := [], tags := [], claim := [], port := [], carry := [], opSeq := 0, lastCyc := none,
    lockT := none, prog := 0, cycRun := false, cycBase := 0, cycHold := 0 }

/-- The bytes of a row as a number, byte 0 least significant. -/
def Row.nat (r : Row) : Nat := r.toNat

/-- Element `e` of width `w` bits in a row sequence held as a function from row position to row (R127). -/
def elemAt (rows : Nat → Row) (w e : Nat) : Nat := bits (rows (e * w / 4096)).toNat (e * w % 4096) w

/-- The little-endian row that a list of `w`-bit elements spells, the rest zero (R127, R128). -/
def packRow (w : Nat) (l : List Nat) : Row :=
  BitVec.ofNat 4096 (l.foldr (fun v acc => v % 2 ^ w + acc * 2 ^ w) 0)

/-- A row with `n` bits from bit `lo` replaced. -/
def rowPut (r : Row) (lo n v : Nat) : Row := BitVec.ofNat 4096 (setBits r.toNat lo n v)

/-- `n` row references from row `r0`, positions rising from `i0`. -/
def rowRefs (opnd mode r0 n i0 : Nat) : List RowRef := (List.range n).map (fun k => ⟨opnd, mode, r0 + k, i0 + k⟩)

end Sys2Proof.Machine
end

