-- ==== Sys2Proof/Machine/StateDie.lean ====
section
/-! DEFINITION. What the compute dies hold beside their registers: semaphores and the requests on their way to them,
queues, transfers, cached translations, migrations (spec/07, spec/08), and the clauses, batches and streams of the
scheduler and the Derailleur (spec/05, spec/09). -/

namespace Sys2Proof.Machine

/-! ### Semaphores (R282, R283, R312) -/

/-- A request that waits at a semaphore: its core, kind (1 SACQ, 4 SWAIT), the tick the wait began, the hold bound. -/
structure Waiter where
  core : Nat
  fn : Nat
  start : Nat
  bound : Nat
  deriving DecidableEq, Repr

/-- A semaphore beside its QUE_SEM_n fields: the clause that holds it, the tick its hold bound ends, its waiters. -/
structure SemS where
  clause : Nat
  expiry : Nat
  waiters : List Waiter
  deriving DecidableEq, Repr

/-- A request on its way from a core to a home queue block (R283, R260); `data` is a submitted row. -/
structure Req where
  core : Nat
  isQue : Bool
  fn : Nat
  obj : Nat
  bound : Nat
  start : Nat
  data : Nat
  seq : Nat
  deriving DecidableEq, Repr

/-- A response on its way back to a core (R114): `ok` says granted, acquired or accepted; `detail` a queue exception. -/
structure Resp where
  core : Nat
  isQue : Bool
  fn : Nat
  obj : Nat
  ok : Bool
  detail : Nat
  value : Nat
  deriving DecidableEq, Repr

/-! ### Queues (R257–R271) -/

/-- A descriptor fetched and not completed: its number, accept stamp, 128 bytes, and where it stands. `endSt` holds its
status once its data effects have ended, `extra` bytes 0x18–0x1F of its record, `sem` the semaphore SIG signals; `more`
marks the record of a token, after which the request goes on (R319). -/
structure DescS where
  n : Nat
  accept : Nat
  raw : Nat
  started : Bool
  endSt : Option Nat
  more : Bool
  endStamp : Nat
  die : Nat
  extra : Nat
  sem : Nat
  deriving DecidableEq, Repr

/-- A queue beside its registers: stamps of the entered descriptors, those fetched, those whose completion waits, whether completion waits at a
faulted record (R268), and the interrupt moderation of R270. -/
structure QueS where
  stamps : List (Nat × Nat × Nat)
  fetched : List DescS
  ending : List DescS
  recWait : Bool
  irqCnt : Nat
  irqSince : Option Nat
  deriving DecidableEq, Repr

/-- A command of QUE_CMD that runs on a die: its queue and whether it is a cancel. -/
structure QueCmd where
  queue : Nat
  cancel : Bool
  deriving DecidableEq, Repr

/-! ### Transfers (R264, R272–R280) -/

/-- A side of a transfer. -/
inductive Side where
  | dev (da : Nat)
  | spad (core row : Nat)
  | fill (pattern : Nat)
  deriving DecidableEq, Repr

/-- Who issued a transfer: a descriptor of a queue, a DMA instruction of a clause (with the handle SEN names), or the
code load of a clause. -/
inductive Origin where
  | desc (queue n : Nat)
  | insn (core clause : Nat) (sem : Option Nat) (seq : Nat)
  | code (clause : Nat)
  deriving DecidableEq, Repr

/-- Where a segment stands: it waits for its source data, holds it, waits for a peer's answer, or has ended. -/
inductive SegSt where
  | needRead | haveData | peerWait | ended
  deriving DecidableEq, Repr

/-- An issued segment: its index, the device-side physical place of source and destination, and its data. -/
structure Seg where
  k : Nat
  src : Nat
  srcKind : Nat
  dst : Nat
  dstKind : Nat
  len : Nat
  data : Nat
  st : SegSt
  bad : Bool
  deriving DecidableEq, Repr

/-- A transfer. `place` is 0 while it waits, 1 + e on copy engine e, 9 in a port; `k` is the first segment that has not
issued; `done` counts the prefix of ended segments; `fin` is the status it is to end with; `susp` the page it waits for; `aside`
the block it keeps while another transfer has its owner (R276). -/
structure Xfer where
  org : Origin
  ctx : Nat
  part : Nat
  die : Nat
  src : Side
  dst : Side
  len : Nat
  smode : Nat
  dmode : Nat
  ag : Option Nat
  place : Nat
  k : Nat
  segs : List Seg
  done : Nat
  fin : Option Nat
  susp : Option Nat
  order : Nat
  aside : Option Blk
  deriving DecidableEq, Repr

/-! ### Translation and migration (R225–R237) -/

/-- A cached leaf entry: its value and the physical address it was read from. -/
structure TlbE where
  entry : Nat
  pte : Nat
  deriving DecidableEq, Repr

/-- A migration in progress on a die (R233): the level-2 entry's place and value, the frame-table index, the frame, the
page of the source, when it began, whether the drive has completed the read, and what has landed (NVMe). -/
structure Mig where
  pte : Nat
  old : Nat
  part : Nat
  idx : Nat
  frame : Nat
  src : Nat
  boff : Nat
  since : Nat
  landed : Bool
  ctx : Nat
  data : Nat
  deriving DecidableEq, Repr

/-- A fault that waits for a free migration of its die. -/
structure MigWait where
  pte : Nat
  ctx : Nat
  part : Nat
  deriving DecidableEq, Repr

/-- An invalidation in progress (R229). -/
structure Inv where
  die : Nat
  scope : Nat
  ctx : Nat
  page : Nat
  pages : Nat
  deriving DecidableEq, Repr

/-- The compute dies' memory and queue side. -/
structure DieSide where
  sems : SMap SemS
  reqs : List Req
  resps : List Resp
  queues : SMap QueS
  qcmd : SMap (Option QueCmd)
  turn : SMap Nat
  qturn : SMap Nat
  xfers : SMap (Option Xfer)
  nextX : Nat
  tlb : SMap (Option TlbE)
  migs : SMap (Option Mig)
  migQ : List (Nat × MigWait)
  invs : List Inv
  errs : SMap Nat
  sealed : SMap Nat
  codeDirty : SMap Bool
  mr4Low : SMap Nat
  refreshes : SMap Nat
  nbrQ : SMap (List Nat)
  nvTail : SMap Nat
  activates : SMap Nat
  deriving DecidableEq, Repr

/-! ### Clauses (R294–R318) -/

/-- Where a clause stands. -/
inductive ClSt where
  | waiting | chosen | loading | running | saving | suspended | restoring
  deriving DecidableEq, Repr

/-- A clause bound to a core and not ended. `queue` and `n` name its descriptor (`queue` 32,768 for a Derailleur
clause, `n` then its release order); `seqs` are the sequences and `streams` the streams it serves; `first` marks one that
recovery put at the head of the choice (R475). -/
structure ClauseS where
  part : Nat
  ctx : Nat
  queue : Nat
  n : Nat
  tag : Nat
  core : Nat
  dclass : Nat
  bclass : Nat
  eclass : Nat
  accept : Nat
  ord : Bool
  sig : Bool
  allow : Nat
  deadline : Option Nat
  policy : Nat
  replays : Nat
  runs : Nat
  miss : Bool
  args : List Nat
  code : Nat
  rows : Nat
  row : Nat
  entry : Nat
  sem : Nat
  st : ClSt
  waitBase : Nat
  slot : Nat
  susAt : Nat
  seqs : List Nat
  streams : List Nat
  plan : Nat
  ran : Bool
  first : Bool
  deriving DecidableEq, Repr

/-- What a Kickstand image holds (R307): the core as it stood, its scratchpad, accumulators and register values. -/
structure Image where
  core : CoreS
  spad : SMap Row
  acc : SMap (BitVec 2048)
  regs : SMap Nat
  phase : Nat
  clause : Nat
  xfers : List Nat
  frames : List Nat
  deriving DecidableEq, Repr

/-- A save or a restore of a clause on a core: in progress, or waiting for its turn (R306, R308, R309). -/
structure Kick where
  restore : Bool
  slot : Nat
  clause : Nat
  since : Nat
  deriving DecidableEq, Repr

/-- The scheduler's side of one core: the context whose slice runs, clause ticks of the slice, when they last began, and
the clause whose pre-emption was last refused (R305), and the count of the core's last clean clause boundary (R472). -/
structure SlotS where
  ctx : Nat
  slice : Nat
  since : Nat
  refused : Nat
  clean : Nat
  deriving DecidableEq, Repr

/-- The recovery of a core (R472–R475): its candidates with their outcomes (0 none yet, 1 GUILTY, 2 FAULT, 3 DONE, 4
PASS), the candidate it is at, whether a probe runs (else a clear), and when that began. `wasSus` marks the candidates
that were suspended; `cleared` says that the clear has been done, `first` that it is the clear before the first probe. -/
structure RecS where
  cands : List Nat
  wasSus : List Bool
  outc : List Nat
  cur : Nat
  probing : Bool
  since : Nat
  cleared : Bool
  first : Bool
  deriving DecidableEq, Repr

/-- The wait-for detector (R470): when it last scanned, and the cycles that scan found: members, the count at which
the set was first found, and the members' wait starts. -/
structure ScanS where
  at_ : Nat
  sets : List (List Nat × Nat × List Nat)
  deriving DecidableEq, Repr

/-! ### Batches (R319–R328) and the paged cache (R177–R183) -/

/-- A request that waits for admission. -/
structure ReqS where
  queue : Nat
  n : Nat
  accept : Nat
  raw : Nat
  eclass : Nat
  waitBase : Nat
  deriving DecidableEq, Repr

/-- An admitted sequence: its request, the tokens in its cache, its blocks and scale groups, and its place in the step. -/
structure SeqS where
  queue : Nat
  n : Nat
  accept : Nat
  raw : Nat
  admOrd : Nat
  qpos : Nat
  new : Nat
  inStep : Bool
  first : Bool
  count : Nat
  last : Nat
  blocks : List Nat
  groups : List Nat
  retire : Option (Nat × Nat)
  deriving DecidableEq, Repr

/-- The Derailleur's batch of one partition. `left` counts consecutive steps with sequences left out, `leftOut` are those
of the current step; `held` are the clauses of the plan not yet released, each with its entry and whether the entry waits;
`late` says that a clause of the step missed its deadline; `resume` that a boundary waits at its step 5. -/
structure BatchS where
  reqs : List ReqS
  seqs : SMap (Option SeqS)
  cancels : List (Nat × Nat × Nat)
  admits : Nat
  left : Nat
  leftOut : List Nat
  release : Nat
  held : List (Nat × Bool × ClauseS)
  late : Bool
  usedB : SMap Bool
  usedG : SMap Bool
  dirtyB : SMap Bool
  dirtyG : SMap Bool
  resume : Bool
  deriving DecidableEq, Repr

/-- An export or import that runs (R193, R194). -/
structure XportS where
  stream : Nat
  isImport : Bool
  keep : Bool
  deriving DecidableEq, Repr

/-- The scheduling side. `pins` counts the clauses that list a stream; `zeroed` marks the streams whose binding began from
zero state (R186). -/
structure SchedSide where
  clauses : SMap (Option ClauseS)
  nextC : Nat
  images : SMap (Option Image)
  kicks : SMap (Option Kick)
  kickQ : List (Nat × Kick)
  slots : SMap SlotS
  batches : SMap BatchS
  xport : Option XportS
  pins : SMap Nat
  zeroed : SMap Bool
  recs : SMap (Option RecS)
  scan : ScanS
  deriving DecidableEq, Repr

def SemS.none : SemS := ⟨0, 0, []⟩
def QueS.none : QueS := ⟨[], [], [], false, 0, Option.none⟩

def SlotS.none : SlotS := ⟨0, 0, 0, 0, 0⟩
def BatchS.none : BatchS := ⟨[], [], [], 0, 0, [], 0, [], false, [], [], [], [], false⟩

def DieSide.reset : DieSide :=
  ⟨[], [], [], [], [], [], [], [], 0, [], [], [], [], [], [], [], [], [], [], [], []⟩

def SchedSide.reset : SchedSide := ⟨[], 1, [], [], [], [], [], Option.none, [], [], [], ⟨0, []⟩⟩

end Sys2Proof.Machine
end

