-- ==== Sys2Proof/Machine/StateHub.lean ====
section
/-! DEFINITION. What the Hub die holds beside its registers: the clocks of the dies, the input of the trouble log, the
register ports, and what the package has sent out. -/

namespace Sys2Proof.Machine

/-- The cadence clock of a die (R30, R376): running from a base, or held. -/
structure DieClk where
  run : Bool
  base : Int
  hold : Nat
  deriving DecidableEq, Repr

/-- An entry on its way to the trouble log (R392): CODE is class · 256 + event. -/
structure LogEnt where
  stamp : Nat
  die : Nat
  source : Nat
  code : Nat
  data : Nat
  deriving DecidableEq, Repr

/-- The writer of the trouble log (R393): its 64-entry FIFO, the drops not yet reported (first stamp, number, last
stamp), and the entry of R548 that waits for REFCLK. -/
structure LogS where
  fifo : List LogEnt
  lost : Option (Nat × Nat × Nat)
  held : Option LogEnt
  deriving DecidableEq, Repr

/-- A pending request of R374: its bits, the staged values it captured, its apply count, and the dies that have applied
it. -/
structure TimeReq where
  load : Bool
  step : Bool
  rate : Bool
  rateNew : Nat
  offNew : Nat
  adj : Nat
  at_ : Nat
  done : List Nat
  deriving DecidableEq, Repr

/-- Time beside its registers: the pending request, RATE and OFFSET of the compute dies (R376, R377), the armed snapshot
(its time in units of 2⁻¹⁶ ns, its ID, the dies that have latched or missed) and the shadow copies (R388–R390), the VIEW
bits of the ports but the first (R391), when the ports last asked for their delays and the master last sent a TSYNC, and
the number of the next one (R387). -/
structure TimeS where
  req : Option TimeReq
  par : SMap (Nat × Nat)
  snapT : Nat
  snapId : Nat
  snapDone : List Nat
  shadow : SMap Nat
  views : SMap Bool
  pdAt : Nat
  syncAt : Nat
  syncSeq : Nat
  deriving DecidableEq, Repr

def TimeS.reset : TimeS := ⟨none, [], 0, 0, [], [], [], 0, 0, 0⟩

/-- A Flifer packet: TYPE, header and payload (R348). `inp` is the input of the arbiter it came by: a port 0–5 that
forwards it, or 6 for the package's own traffic (R330). -/
structure PktS where
  typ : Nat
  hdr : Pkt
  data : Nat
  inp : Nat
  deriving DecidableEq, Repr

/-- A segment whose response is outstanding (R350): its peer, PSN and TAG, the transfer and its segment, when it was
sent, the partition and the length. -/
structure FPend where
  dst : Nat
  psn : Nat
  tag : Nat
  x : Nat
  k : Nat
  isRead : Bool
  since : Nat
  part : Nat
  len : Nat
  deriving DecidableEq, Repr

/-- A Flifer port (R345, R346): packets that wait for credits, those sent and not acknowledged with their flits, the
arbiter's weights (R330), flits of each class and channel held at the neighbour, failed replays in a row, when a valid
flit last came, when it came up, and since when a class has waited for credit. -/
structure FPort where
  wait : List PktS
  unacked : List (Nat × PktS)
  cw : SMap Int
  used : SMap Nat
  fails : Nat
  lastOk : Nat
  upSince : Nat
  stall : SMap (Option Nat)
  deriving DecidableEq, Repr

def FPort.reset : FPort := ⟨[], [], [], [], 0, 0, 0, []⟩

/-- The record of PSNs seen from a source (R355): the highest, and those of the 2,048 up to it with the NACK code each
was answered with (0 accepted). -/
structure FSeen where
  top : Nat
  seen : List (Nat × Nat)
  deriving DecidableEq, Repr

/-- The fabric side: PSNs of each destination, records of each source, outstanding segments, ports, when each peer was
last heard, READs that wait for a migration (with the level-2 entry), the periods' last marks, and the digest engine. -/
structure FabS where
  psn : SMap Nat
  recs : SMap (Option FSeen)
  pend : List FPend
  ports : SMap FPort
  heard : SMap Nat
  held : List (Nat × PktS)
  presAt : Nat
  digAt : Nat
  dirtyAt : Nat
  deriving DecidableEq, Repr

def FabS.reset : FabS := ⟨[], [], [], [], [], [], 0, 0, 0⟩

/-- A Chainring link (R337, R338): failed replays in a row, frames sent and not acknowledged in each direction, when a
valid frame last came each way, when it entered its state, whether a DOWN write took it down, and how often it has
trained since it was last up. -/
structure ChrL where
  fails : Nat
  unackUp : Nat
  unackDn : Nat
  okUp : Nat
  okDn : Nat
  since : Nat
  bySw : Bool
  tries : Nat
  deriving DecidableEq, Repr

def ChrL.reset : ChrL := ⟨0, 0, 0, 0, 0, 0, false, 0⟩

/-- What leaves the package. -/
inductive Out where
  | msix (fn entry : Nat)
  | hostWrite (addr n v : Nat)
  | hostRead (addr n tag : Nat)
  | nvmeRead (src slot nsid lba : Nat)
  | nvmeDoorbell (addr v : Nat)
  | packet (port : Nat) (p : PktS)
  | chrFrame (link : Nat) (toHub : Bool) (idle : Bool)
  | flit (port : Nat) (idle : Bool)
  | eth (port : Nat) (bytes : List Nat) (stamp : Nat)
  | uart (b : Nat)
  | i2c (m : Nat) (kind addr : Nat) (bytes : List Nat)
  | pin (name : Nat) (v : Nat)
  deriving DecidableEq, Repr

/-- The register ports (R12, R13): staging copies and latches keyed by port and word, and the last value read. -/
structure BusS where
  stage : SMap (Option Nat)
  latch : SMap (Option Nat)
  data : Nat
  deriving DecidableEq, Repr

end Sys2Proof.Machine
end

