-- ==== Sys2Proof/Machine/StateIo.lean ====
section
/-! DEFINITION. What the Hub die's front ends and managers hold beside their registers: cameras (spec/12), microphones and
the input pipeline (spec/13), power and the sag save (spec/14), kills, scrubs and debug sessions (spec/16), the management
ports (spec/17) and the supply (spec/18). -/

namespace Sys2Proof.Machine

/-! ### Cameras -/

/-- A committed parameter set (R410, R411): its tag, whether its prefetch has ended, whether it missed its frame, its
address, its 512 bytes and its tables as they were read. -/
structure PSetS where
  tag : Nat
  ready : Bool
  late : Bool
  addr : Nat
  rcd : Nat
  dpc : Nat
  lsc : Nat
  tone : Nat
  deriving DecidableEq, Repr

/-- A line in a port buffer (R405): its port and stream, whether it is embedded data, its bytes, its flags of R416, and the
cadence count of its arrival. -/
structure LineS where
  port : Nat
  strm : Nat
  emb : Bool
  bytes : List Nat
  flags : Nat
  stamp : Nat
  deriving DecidableEq, Repr

/-- An open frame (R406–R412): its number, CSI-2 number, FS stamp, FLAGS, lines received, SKIPPED, the set in force with
its tag, when it began, the rows taken (start in ticks from the FS, pixels) and the embedded lines. -/
structure FrameS where
  frame : Nat
  num : Nat
  stamp : Nat
  flags : Nat
  lines : Nat
  skipped : Nat
  tag : Nat
  pset : Option PSetS
  since : Nat
  rows : List (Nat × List (List Nat))
  emb : List (List Nat)
  deriving DecidableEq, Repr

/-- A stream context beside its registers: the open frame, the pending sets in commit order, the set in force, and the
CSI-2 number of the previous FS. -/
structure CamS where
  frame : Option FrameS
  sets : List PSetS
  cur : Option PSetS
  nprev : Option Nat
  deriving DecidableEq, Repr

def CamS.reset : CamS := ⟨none, [], none, none⟩

/-- The camera side: streams, the lines in the port buffers in order of arrival, the stream served last, and when each
switch entered its state. -/
structure IspS where
  cams : SMap CamS
  buf : List LineS
  last : Nat
  sw : SMap Nat
  deriving DecidableEq, Repr

def IspS.reset : IspS := ⟨[], [], 7, []⟩

/-! ### Audio -/

/-- The audio side: the next block number of each channel (R426), whether MIC_MUTE is asserted, when it was deasserted and
when clocks and bias returned (R427), the noise floor with its counts of frames (R429), the 10 ms of samples before the next
hop and the feature frames, newest first (R430), when the cascade entered its state and until when detection is blocked,
the predictor and shift of the ring (R433), whether it writes a segment, and the channels whose next block has lost
samples to a loss of frame sync (R426). -/
structure AudS where
  blk : SMap Nat
  pin : Bool
  relAt : Option Nat
  back : Option Nat
  noise : Option Int
  rise : Nat
  fires : Nat
  win : List Int
  hops : List (List Int)
  since : Nat
  coolTo : Nat
  ringP : Int
  ringS : Nat
  ringOn : Bool
  lost : SMap Bool
  deriving DecidableEq, Repr

def AudS.reset : AudS := ⟨[], false, none, none, none, 0, 0, [], [], 0, 0, 0, 4, false, []⟩

/-! ### The input pipeline -/

/-- A sample that waits in a pipe (R435, R440): its stamp, frame or block number, region index, header FLAGS, what may make
it corrupt, its window in the frame, whether its pixels are luma and chroma, and its rows of pixels, each a list of channel
values (for audio one row, whose pixels hold the 24-bit two's complement of every channel of the group). -/
structure SampS where
  stamp : Nat
  num : Nat
  region : Nat
  flags : Nat
  marks : Nat
  x : Nat
  y : Nat
  w : Nat
  h : Nat
  yuv : Bool
  pix : List (List (List Nat))
  deriving DecidableEq, Repr

/-- An audio block of a group in the making: channel, block number, stamp, flags, samples. -/
structure BlkS where
  ch : Nat
  num : Nat
  stamp : Nat
  flags : Nat
  data : List Nat
  deriving DecidableEq, Repr

/-- A region: X, Y, W, H (R437). -/
structure RoiS where
  x : Nat
  y : Nat
  w : Nat
  h : Nat
  deriving DecidableEq, Repr

/-- A pipe beside its registers: waiting samples, the next sample index, the batch number, the samples written of the batch,
whether it has a buffer, the batch's header, the last good tensor, whether READY's count has stood at LOW or above, the
regions held, those read for the open frame with their staleness, audio blocks that wait for their group, and whether a
fault has stopped it. -/
structure PipeS where
  buf : List SampS
  idx : Nat
  batch : Nat
  inB : Nat
  has : Bool
  hdr : Nat
  good : Option (List Nat)
  above : Bool
  roiHeld : Option (List RoiS)
  roiNow : List (Nat × Option (List RoiS) × Bool)
  acc : List BlkS
  stopped : Bool
  polled : Nat
  deriving DecidableEq, Repr

def PipeS.reset : PipeS := ⟨[], 0, 0, 0, false, 0, none, false, none, [], [], false, 0⟩

/-! ### Power -/

/-- An entry to Coast (2) or Retain (3) in progress (R450): when it began, and whether it is part of a package entry. -/
structure EntS where
  target : Nat
  pkg : Bool
  since : Nat
  deriving DecidableEq, Repr

/-- A sag save in progress (R460, R461): when it began, its record without MARKER and CRC, its entries, and whether the
existing record is kept. -/
structure SagS where
  since : Nat
  head : Nat
  entries : List Nat
  keep : Bool
  thermal : Bool
  deriving DecidableEq, Repr

/-- Power beside its registers. Die 4 is the Hub die. Entries in progress, exits in progress (when their wake time began),
pending wake events, whether a die's image was written to always-on SRAM, whether the package goes to Retain, the estimates of
the window (newest first), when the level was last adjusted, the save in progress, whether a trip awaits recovery, and
when and why the package entered Off. -/
structure PwrS where
  ent : SMap (Option EntS)
  exits : SMap (Option Nat)
  wake : SMap Bool
  image : SMap (Option Nat)
  pkg : Bool
  est : List Nat
  adjAt : Nat
  sag : Option SagS
  tripped : Bool
  off : Option Nat
  offTrip : Bool
  offWake : Bool
  deriving DecidableEq, Repr

def PwrS.reset : PwrS := ⟨[], [], [], [], false, [], 0, none, false, none, false, false⟩

/-! ### Security -/

/-- A kill in progress (R497): its context and partition, when it began, the cores still to be scrubbed, and whether its
invalidation has been sent. -/
structure KillS where
  ctx : Nat
  part : Option Nat
  since : Nat
  cores : List Nat
  inv : Bool
  deriving DecidableEq, Repr

/-- A scrub of a core (R498): when it began (none: it waits), and the partition the core then joins (R491). -/
structure ScrubS where
  since : Option Nat
  join : Option Nat
  deriving DecidableEq, Repr

/-- The security block: keys of the 64 slots (R494), the kill in progress, scrubs, when the challenge was made, its scope and
its counter (R505), when the debug session began, and since when no password is taken (R506). -/
structure SecS where
  keys : SMap Nat
  kill : Option KillS
  scrubs : SMap (Option ScrubS)
  chalAt : Option Nat
  chalCtr : Nat
  sessAt : Nat
  pwdAt : Option Nat
  deriving DecidableEq, Repr

def SecS.reset : SecS := ⟨[], none, [], none, 0, 0, none⟩

/-! ### Host and management ports -/

/-- The UART (R529, R530): its FIFOs, the frame being sent, and whether the receiver waits for a high line. -/
structure UartS where
  rx : List Nat
  tx : List Nat
  sending : Option Nat
  wait : Bool
  deriving DecidableEq, Repr

/-- An I²C/I³C controller (R532): received bytes that nobody has taken, bytes waiting to be sent, the command that runs, and how many of
its bytes have still to be sent. -/
structure I2cS where
  rx : List Nat
  tx : List Nat
  cmd : Option Nat
  left : Nat
  deriving DecidableEq, Repr

def I2cS.reset : I2cS := ⟨[], [], none, 0⟩

/-- The PCIe side (R517, R519): unmasked and pending MSI-X entries (function · 2,048 + entry) and the virtual functions whose
VF Enable is off or which are in FLR; the UART, the two controllers, the indirect sideband access that runs (2 write, 1 read); the
arrival stamp of the last Pdelay_Req of each Ethernet port (R383); and of each die the rate it has committed, the rate of its PHY and
the values applied to its lanes (R536, R537). -/
structure HostS where
  unmask : SMap Bool
  pend : SMap Bool
  vfOff : SMap Bool
  uart : UartS
  i2c : SMap I2cS
  ind : Nat
  pdReq : SMap (Option Nat)
  rates : SMap Nat
  phy : SMap Nat
  taps : SMap Nat
  deriving DecidableEq, Repr

def HostS.reset : HostS := ⟨[], [], [], ⟨[], [], none, false⟩, [], 0, [], [], [], []⟩

/-- The package: held in reset (R542), the domains in reset (R478) — domain · 64 + index ↦ the trigger plus 1 — and when
each entered it; PWRGD, PERST_N deasserted, SYS_PWR_EN, REFCLK, and the always-on supply; when REFCLK came back; the
trigger of the package reset. -/
structure PkgS where
  held : Bool
  rst : SMap Nat
  since : SMap Nat
  pwrgd : Bool
  perst : Bool
  sysPwr : Bool
  refclk : Bool
  vaon : Bool
  trig : Nat
  deriving DecidableEq, Repr

def PkgS.reset : PkgS := ⟨true, [], [], false, true, false, true, false, 0⟩

end Sys2Proof.Machine
end

