-- ==== Sys2Proof/Machine/State.lean ====
section
/-! DEFINITION. The state of the package, the reasons a step can stop, and the state after reset. -/

namespace Sys2Proof.Machine

/-- The state. `t` counts core-clock periods of 2/3 ns since the always-on supply came up; `pending` is the queue of
commands; `regs` the register file of all sixteen blocks (one entry per field instance that is not at its reset value);
the memories are sparse maps in which an unlisted place reads 0. -/
structure State where
  t : Nat
  pending : List Instr
  regs : SMap Nat
  freeCtr : Nat
  cores : SMap CoreS
  spad : SMap Row
  acc : SMap (BitVec 2048)
  dram : SMap Byte
  hubMem : SMap Byte
  aon : SMap Byte
  die : DieSide
  sch : SchedSide
  clk : SMap DieClk
  log : LogS
  time : TimeS
  bus : BusS
  host : HostS
  sec : SecS
  pkg : PkgS
  fab : FabS
  chr : SMap ChrL
  isp : IspS
  aud : AudS
  inp : SMap PipeS
  pwr : PwrS
  out : List Out
  deriving DecidableEq, Repr

/-- Why a step stops with a fault. No meaning of this model does: every command has an effect (R3). -/
inductive Fault where
  /-- Raised by nothing: R3 leaves no access without an outcome. Safe. -/
  | noOutcome
  deriving DecidableEq, Repr

/-- Why a command is refused. -/
inductive Refusal where
  /-- The command has no meaning in the model yet; raised by its arm of exec. Safe: nothing follows from it. -/
  | notModelled (mnemonic : String)
  deriving DecidableEq, Repr

/-- A die clock that has not started. -/
def DieClk.stopped : DieClk := ⟨false, 0, 0⟩

/-- The state at power-up of the always-on supply: every register at its Reset column, every memory with nothing
listed, the package held in reset (R542), no command waiting. -/
def State.reset : State :=
  { t := 0, pending := [], regs := [], freeCtr := 0, cores := [], spad := [], acc := [], dram := [], hubMem := [],
    aon := [], die := DieSide.reset, sch := SchedSide.reset, clk := [], log := ⟨[], none, none⟩, time := TimeS.reset,
    bus := ⟨[], [], 0⟩, host := HostS.reset, sec := SecS.reset, pkg := PkgS.reset,
    fab := FabS.reset, chr := [], isp := IspS.reset, aud := AudS.reset, inp := [], pwr := PwrS.reset, out := [] }

end Sys2Proof.Machine
end

