-- ==== Sys2Proof/Machine/Act.lean ====
section
/-! DEFINITION. The language every meaning is written in. A meaning is an `Act`: it reads the state and changes it by
primitive changes only. No primitive touches the queue of commands, so what a command does to the rest of the state is
said once, over `Prim.apply`, for every command there is. -/

namespace Sys2Proof.Machine

/-- The primitive changes of the state. -/
inductive Prim where
  /-- Time passes: core-clock periods. -/
  | tick (dt : Nat)
  /-- A free value has been used. -/
  | fresh
  /-- A register field takes a value, modulo its width. -/
  | reg (f : Fld) (i j v : Nat)
  /-- The register entries that a test on their keys keeps (a reset of the others). -/
  | regsKeep (p : Nat → Bool)
  /-- A register entry put back as an image held it. -/
  | regRaw (k v : Nat)
  | core (c : Nat) (f : CoreS → CoreS)
  | spad (k : Nat) (v : Row)
  | spadKeep (p : Nat → Bool)
  | acc (k : Nat) (v : BitVec 2048)
  | accKeep (p : Nat → Bool)
  /-- `n` bytes of DRAM from a physical address. -/
  | dram (pa n v : Nat)
  | dramKeep (p : Nat → Bool)
  | hubMem (a n v : Nat)
  | hubKeep (p : Nat → Bool)
  | aon (a n v : Nat)
  | aonKeep (p : Nat → Bool)
  | die (f : DieSide → DieSide)
  | sch (f : SchedSide → SchedSide)
  | clk (d : Nat) (f : DieClk → DieClk)
  | log (f : LogS → LogS)
  | time (f : TimeS → TimeS)
  | bus (f : BusS → BusS)
  | host (f : HostS → HostS)
  | sec (f : SecS → SecS)
  | pkg (f : PkgS → PkgS)
  | fab (f : FabS → FabS)
  | chr (l : Nat) (f : ChrL → ChrL)
  | isp (f : IspS → IspS)
  | aud (f : AudS → AudS)
  | inp (n : Nat) (f : PipeS → PipeS)
  | pwr (f : PwrS → PwrS)
  | out (o : Out)

/-- What a primitive change does. The memories keep their canonical form, the input FIFO of the log its 64 places. -/
def Prim.apply : Prim → State → State
  | .tick dt, s => { s with t := s.t + dt }
  | .fresh, s => { s with freeCtr := s.freeCtr + 1 }
  | .reg f i j v, s => { s with regs := mset (f.rst.value i j) s.regs (f.key i j) (v % 2 ^ f.w) }
  | .regsKeep p, s => { s with regs := mkeep p s.regs }
  | .regRaw k v, s => { s with regs := mins s.regs k v }
  | .core c f, s => { s with cores := mupd CoreS.reset s.cores c f }
  | .spad k v, s => { s with spad := mset 0 s.spad k v }
  | .spadKeep p, s => { s with spad := mkeep p s.spad }
  | .acc k v, s => { s with acc := mset 0 s.acc k v }
  | .accKeep p, s => { s with acc := mkeep p s.acc }
  | .dram a n v, s => { s with dram := memWrite s.dram a n v }
  | .dramKeep p, s => { s with dram := mkeep p s.dram }
  | .hubMem a n v, s => { s with hubMem := memWrite s.hubMem a n v }
  | .hubKeep p, s => { s with hubMem := mkeep p s.hubMem }
  | .aon a n v, s => { s with aon := memWrite s.aon a n v }
  | .aonKeep p, s => { s with aon := mkeep p s.aon }
  | .die f, s => { s with die := f s.die }
  | .sch f, s => { s with sch := f s.sch }
  | .clk d f, s => { s with clk := mupd DieClk.stopped s.clk d f }
  | .log f, s => { s with log := { f s.log with fifo := (f s.log).fifo.take 64 } }
  | .time f, s => { s with time := f s.time }
  | .bus f, s => { s with bus := f s.bus }
  | .host f, s => { s with host := f s.host }
  | .sec f, s => { s with sec := f s.sec }
  | .pkg f, s => { s with pkg := f s.pkg }
  | .fab f, s => { s with fab := f s.fab }
  | .chr l f, s => { s with chr := mupd ChrL.reset s.chr l f }
  | .isp f, s => { s with isp := f s.isp }
  | .aud f, s => { s with aud := f s.aud }
  | .inp n f, s => { s with inp := mupd PipeS.reset s.inp n f }
  | .pwr f, s => { s with pwr := f s.pwr }
  | .out o, s => { s with out := s.out ++ [o] }

/-- A change of the state: nothing, one after another, a primitive, or one chosen by reading the state as it stands. -/
inductive Act where
  | nop
  | seq (a b : Act)
  | put (p : Prim)
  | get (k : State → Act)

/-- What an act does. -/
def run : Act → State → State
  | .nop, s => s
  | .seq a b, s => run b (run a s)
  | .put p, s => p.apply s
  | .get k, s => run (k s) s

/-- Acts one after another. -/
def many : List Act → Act
  | [] => .nop
  | a :: r => .seq a (many r)

/-- An act that takes place only where a condition holds. -/
def whenA (b : Bool) (a : Act) : Act := if b then a else .nop

/-- An act for each element of a list, in order. -/
def forA {α : Type} (l : List α) (f : α → Act) : Act := many (l.map f)

/-- An act that needs a value there may be none of: nothing where there is none. -/
def withA {α : Type} (o : Option α) (f : α → Act) : Act :=
  match o with
  | some x => f x
  | none => .nop

end Sys2Proof.Machine
end

