-- ==== Sys2Proof/Machine/RegsAud.lean ====
section
/-! DEFINITION. The fields and registers of the AUD_ block, from the field tables and offset tables of R442, R443. -/

namespace Sys2Proof.Machine

/-- AUD_CTL, R443: [0:0], RW. -/
def R.AUD_CTL_EN : Fld := ⟨459, 1, .rw, .const 0, .any⟩
/-- AUD_CTL, R443: [1:1], RW. -/
def R.AUD_CTL_MUTE_TDM : Fld := ⟨460, 1, .rw, .const 1, .any⟩
/-- AUD_STATUS, R443: [0:0], RO. -/
def R.AUD_STATUS_MUTE : Fld := ⟨461, 1, .ro, .const 0, .any⟩
/-- AUD_STATUS, R443: [1:1], RO. -/
def R.AUD_STATUS_TDM0_SYNC : Fld := ⟨462, 1, .ro, .const 0, .any⟩
/-- AUD_STATUS, R443: [2:2], RO. -/
def R.AUD_STATUS_TDM1_SYNC : Fld := ⟨463, 1, .ro, .const 0, .any⟩
/-- AUD_EVENT, R443: [0:0], W1C. -/
def R.AUD_EVENT_MUTE_CHANGE : Fld := ⟨464, 1, .w1c, .const 0, .any⟩
/-- AUD_EVENT, R443: [1:1], W1C. -/
def R.AUD_EVENT_WAKE : Fld := ⟨465, 1, .w1c, .const 0, .any⟩
/-- AUD_EVENT, R443: [2:2], W1C. -/
def R.AUD_EVENT_WAKE_DROP : Fld := ⟨466, 1, .w1c, .const 0, .any⟩
/-- AUD_EVENT, R443: [3:3], W1C. -/
def R.AUD_EVENT_MODEL_ERR : Fld := ⟨467, 1, .w1c, .const 0, .any⟩
/-- AUD_EVENT, R443: [4:4], W1C. -/
def R.AUD_EVENT_OVERRUN : Fld := ⟨468, 1, .w1c, .const 0, .any⟩
/-- AUD_EVENT_MASK, R443: [4:0], RW. -/
def R.AUD_EVENT_MASK_EN : Fld := ⟨469, 5, .rw, .const 0, .any⟩
/-- AUD_EVENT_MASK, R443: [26:16], RW. -/
def R.AUD_EVENT_MASK_VECTOR : Fld := ⟨470, 11, .rw, .const 0, .any⟩
/-- AUD_PDM_CFG, R443: [7:0], RW. -/
def R.AUD_PDM_CFG_EDGE : Fld := ⟨471, 8, .rw, .const 0, .any⟩
/-- AUD_PDM_CFG, R443: [8:8], RW. -/
def R.AUD_PDM_CFG_RATE48 : Fld := ⟨472, 1, .rw, .const 1, .any⟩
/-- AUD_CH_EN, R443: [39:0], RW. -/
def R.AUD_CH_EN_EN : Fld := ⟨473, 40, .rw, .const 0, .any⟩
/-- AUD_TDM_k, R443: [0:0], RW. -/
def R.AUD_TDM_MASTER : Fld := ⟨474, 1, .rw, .const 0, .any⟩
/-- AUD_TDM_k, R443: [4:1], RW. -/
def R.AUD_TDM_SLOTS_M1 : Fld := ⟨475, 4, .rw, .const 7, .any⟩
/-- AUD_TDM_k, R443: [6:5], RW. -/
def R.AUD_TDM_WIDTH : Fld := ⟨476, 2, .rw, .const 1, .range 0 2⟩
/-- AUD_TDM_k, R443: [8:7], RW. -/
def R.AUD_TDM_RATE : Fld := ⟨477, 2, .rw, .const 2, .range 0 2⟩
/-- AUD_CH_PART_i, R443: 4 bits, 8 times, RW. -/
def R.AUD_CH_PART_PART : Fld := ⟨478, 4, .rw, .const 0, .any⟩
/-- AUD_OVERRUN, R443: [31:0], RC. -/
def R.AUD_OVERRUN_COUNT : Fld := ⟨479, 32, .rc, .const 0, .any⟩
/-- AUD_WAKE_CFG, R443: [0:0], RW. -/
def R.AUD_WAKE_CFG_EN : Fld := ⟨480, 1, .rw, .const 0, .any⟩
/-- AUD_WAKE_CFG, R443: [3:1], RW. -/
def R.AUD_WAKE_CFG_CHAN : Fld := ⟨481, 3, .rw, .const 0, .any⟩
/-- AUD_WAKE_CFG, R443: [7:4], RW. -/
def R.AUD_WAKE_CFG_W0_FRAMES : Fld := ⟨482, 4, .rw, .const 3, .range 1 15⟩
/-- AUD_WAKE_CFG, R443: [15:8], RW. -/
def R.AUD_WAKE_CFG_W0_MARGIN : Fld := ⟨483, 8, .rw, .const 48, .range 1 255⟩
/-- AUD_WAKE_CFG, R443: [23:16], RW. -/
def R.AUD_WAKE_CFG_COOL_MS : Fld := ⟨484, 8, .rw, .const 200, .any⟩
/-- AUD_WAKE_THR, R443: [7:0], RW. -/
def R.AUD_WAKE_THR_THR1 : Fld := ⟨485, 8, .rw, .const 128, .range 1 255⟩
/-- AUD_WAKE_THR, R443: [15:8], RW. -/
def R.AUD_WAKE_THR_THR2 : Fld := ⟨486, 8, .rw, .const 192, .range 1 255⟩
/-- AUD_WAKE_THR, R443: [23:16], RW. -/
def R.AUD_WAKE_THR_HOLD1_MS : Fld := ⟨487, 8, .rw, .const 100, .range 1 255⟩
/-- AUD_WAKE_THR, R443: [31:24], RW. -/
def R.AUD_WAKE_THR_HOLD2_MS : Fld := ⟨488, 8, .rw, .const 150, .range 1 255⟩
/-- AUD_WAKE_STATE, R443: [2:0], RO. -/
def R.AUD_WAKE_STATE_STATE : Fld := ⟨489, 3, .ro, .const 0, .any⟩
/-- AUD_WAKE_STATE, R443: [15:8], RO. -/
def R.AUD_WAKE_STATE_C1 : Fld := ⟨490, 8, .ro, .const 0, .any⟩
/-- AUD_WAKE_STATE, R443: [23:16], RO. -/
def R.AUD_WAKE_STATE_C2 : Fld := ⟨491, 8, .ro, .const 0, .any⟩
/-- AUD_WAKE_STATE, R443: [31:24], RO. -/
def R.AUD_WAKE_STATE_NOISE : Fld := ⟨492, 8, .ro, .const 0, .any⟩
/-- AUD_WAKE_COUNT, R443: [9:0], RC. -/
def R.AUD_WAKE_COUNT_W1 : Fld := ⟨493, 10, .rc, .const 0, .any⟩
/-- AUD_WAKE_COUNT, R443: [19:10], RC. -/
def R.AUD_WAKE_COUNT_W2 : Fld := ⟨494, 10, .rc, .const 0, .any⟩
/-- AUD_WAKE_COUNT, R443: [29:20], RC. -/
def R.AUD_WAKE_COUNT_W3 : Fld := ⟨495, 10, .rc, .const 0, .any⟩
/-- AUD_WAKE_Q, R443: [14:0], RW. -/
def R.AUD_WAKE_Q_QUEUE : Fld := ⟨496, 15, .rw, .const 0, .any⟩
/-- AUD_WAKE_Q, R443: [63:16], RW. -/
def R.AUD_WAKE_Q_DESC : Fld := ⟨497, 48, .rw, .const 0, .mult 128⟩
/-- AUD_W2_BASE, R443: [38:6], RW. -/
def R.AUD_W2_BASE_PA : Fld := ⟨498, 33, .rw, .const 0, .any⟩
/-- AUD_RING_CFG, R443: [0:0], RW. -/
def R.AUD_RING_CFG_RING_EN : Fld := ⟨499, 1, .rw, .const 0, .any⟩
/-- AUD_RING_CFG, R443: [1:1], RW. -/
def R.AUD_RING_CFG_FREEZE : Fld := ⟨500, 1, .rw, .const 0, .any⟩
/-- AUD_RING_SEG, R443: [31:0], RO. -/
def R.AUD_RING_SEG_SEG : Fld := ⟨501, 32, .ro, .const 0, .any⟩
/-- AUD_RING_WAKE_SEG, R443: [31:0], RO. -/
def R.AUD_RING_WAKE_SEG_SEG : Fld := ⟨502, 32, .ro, .const 0, .any⟩

/-- Registers of the AUD_ block, part 0 (offsets within the block). -/
def regsAud0 : List RegDef :=
  [
  ⟨"AUD_CTL", 0x0, 0x0, 1, 1,
    [⟨R.AUD_CTL_EN, 0, 1, 0⟩, ⟨R.AUD_CTL_MUTE_TDM, 1, 1, 0⟩]⟩,
  ⟨"AUD_STATUS", 0x4, 0x0, 1, 1,
    [⟨R.AUD_STATUS_MUTE, 0, 1, 0⟩, ⟨R.AUD_STATUS_TDM0_SYNC, 1, 1, 0⟩, ⟨R.AUD_STATUS_TDM1_SYNC, 2, 1, 0⟩]⟩,
  ⟨"AUD_EVENT", 0x8, 0x0, 1, 1,
    [⟨R.AUD_EVENT_MUTE_CHANGE, 0, 1, 0⟩, ⟨R.AUD_EVENT_WAKE, 1, 1, 0⟩, ⟨R.AUD_EVENT_WAKE_DROP, 2, 1, 0⟩, ⟨R.AUD_EVENT_MODEL_ERR, 3, 1, 0⟩, ⟨R.AUD_EVENT_OVERRUN, 4, 1, 0⟩]⟩,
  ⟨"AUD_EVENT_MASK", 0xc, 0x0, 1, 1,
    [⟨R.AUD_EVENT_MASK_EN, 0, 1, 0⟩, ⟨R.AUD_EVENT_MASK_VECTOR, 16, 1, 0⟩]⟩,
  ⟨"AUD_PDM_CFG", 0x10, 0x0, 1, 1,
    [⟨R.AUD_PDM_CFG_EDGE, 0, 1, 0⟩, ⟨R.AUD_PDM_CFG_RATE48, 8, 1, 0⟩]⟩,
  ⟨"AUD_CH_EN", 0x18, 0x0, 1, 2,
    [⟨R.AUD_CH_EN_EN, 0, 1, 0⟩]⟩,
  ⟨"AUD_TDM", 0x20, 0x8, 2, 1,
    [⟨R.AUD_TDM_MASTER, 0, 1, 0⟩, ⟨R.AUD_TDM_SLOTS_M1, 1, 1, 0⟩, ⟨R.AUD_TDM_WIDTH, 5, 1, 0⟩, ⟨R.AUD_TDM_RATE, 7, 1, 0⟩]⟩,
  ⟨"AUD_CH_PART", 0x40, 0x4, 5, 1,
    [⟨R.AUD_CH_PART_PART, 0, 8, 0⟩, ⟨R.AUD_CH_PART_PART, 4, 8, 1⟩, ⟨R.AUD_CH_PART_PART, 8, 8, 2⟩, ⟨R.AUD_CH_PART_PART, 12, 8, 3⟩, ⟨R.AUD_CH_PART_PART, 16, 8, 4⟩, ⟨R.AUD_CH_PART_PART, 20, 8, 5⟩, ⟨R.AUD_CH_PART_PART, 24, 8, 6⟩, ⟨R.AUD_CH_PART_PART, 28, 8, 7⟩]⟩,
  ⟨"AUD_OVERRUN", 0x60, 0x0, 1, 1,
    [⟨R.AUD_OVERRUN_COUNT, 0, 1, 0⟩]⟩,
  ⟨"AUD_WAKE_CFG", 0x100, 0x0, 1, 1,
    [⟨R.AUD_WAKE_CFG_EN, 0, 1, 0⟩, ⟨R.AUD_WAKE_CFG_CHAN, 1, 1, 0⟩, ⟨R.AUD_WAKE_CFG_W0_FRAMES, 4, 1, 0⟩, ⟨R.AUD_WAKE_CFG_W0_MARGIN, 8, 1, 0⟩, ⟨R.AUD_WAKE_CFG_COOL_MS, 16, 1, 0⟩]⟩,
  ⟨"AUD_WAKE_THR", 0x104, 0x0, 1, 1,
    [⟨R.AUD_WAKE_THR_THR1, 0, 1, 0⟩, ⟨R.AUD_WAKE_THR_THR2, 8, 1, 0⟩, ⟨R.AUD_WAKE_THR_HOLD1_MS, 16, 1, 0⟩, ⟨R.AUD_WAKE_THR_HOLD2_MS, 24, 1, 0⟩]⟩,
  ⟨"AUD_WAKE_STATE", 0x108, 0x0, 1, 1,
    [⟨R.AUD_WAKE_STATE_STATE, 0, 1, 0⟩, ⟨R.AUD_WAKE_STATE_C1, 8, 1, 0⟩, ⟨R.AUD_WAKE_STATE_C2, 16, 1, 0⟩, ⟨R.AUD_WAKE_STATE_NOISE, 24, 1, 0⟩]⟩ ]

/-- Registers of the AUD_ block, part 1 (offsets within the block). -/
def regsAud1 : List RegDef :=
  [
  ⟨"AUD_WAKE_COUNT", 0x10c, 0x0, 1, 1,
    [⟨R.AUD_WAKE_COUNT_W1, 0, 1, 0⟩, ⟨R.AUD_WAKE_COUNT_W2, 10, 1, 0⟩, ⟨R.AUD_WAKE_COUNT_W3, 20, 1, 0⟩]⟩,
  ⟨"AUD_WAKE_Q", 0x110, 0x0, 1, 2,
    [⟨R.AUD_WAKE_Q_QUEUE, 0, 1, 0⟩, ⟨R.AUD_WAKE_Q_DESC, 16, 1, 0⟩]⟩,
  ⟨"AUD_W2_BASE", 0x118, 0x0, 1, 2,
    [⟨R.AUD_W2_BASE_PA, 6, 1, 0⟩]⟩,
  ⟨"AUD_RING_CFG", 0x120, 0x0, 1, 1,
    [⟨R.AUD_RING_CFG_RING_EN, 0, 1, 0⟩, ⟨R.AUD_RING_CFG_FREEZE, 1, 1, 0⟩]⟩,
  ⟨"AUD_RING_SEG", 0x124, 0x0, 1, 1,
    [⟨R.AUD_RING_SEG_SEG, 0, 1, 0⟩]⟩,
  ⟨"AUD_RING_WAKE_SEG", 0x128, 0x0, 1, 1,
    [⟨R.AUD_RING_WAKE_SEG_SEG, 0, 1, 0⟩]⟩ ]

/-- The registers of the AUD_ block. -/
def regsAud : List RegDef := regsAud0 ++ regsAud1

end Sys2Proof.Machine
end

