-- ==== Sys2Proof/Machine/RegsChr.lean ====
section
/-! DEFINITION. The fields and registers of the CHR_ block, from the field tables and offset tables of R364, R365. -/

namespace Sys2Proof.Machine

/-- CHR_CTL, R365: [0:0], RW. -/
def R.CHR_CTL_RESTORE_AUTO : Fld := ⟨255, 1, .rw, .const 1, .any⟩
/-- CHR_CTL, R365: [15:8], WO. -/
def R.CHR_CTL_DOWN : Fld := ⟨256, 8, .wo, .const 0, .any⟩
/-- CHR_CTL, R365: [23:16], WO. -/
def R.CHR_CTL_RETRAIN : Fld := ⟨257, 8, .wo, .const 0, .any⟩
/-- CHR_STATUS, R365: [7:0], RO. -/
def R.CHR_STATUS_UP : Fld := ⟨258, 8, .ro, .const 0, .any⟩
/-- CHR_STATUS, R365: [15:8], RO. -/
def R.CHR_STATUS_DETOUR : Fld := ⟨259, 8, .ro, .const 0, .any⟩
/-- CHR_STATUS, R365: [16:16], RO. -/
def R.CHR_STATUS_QUIESCE : Fld := ⟨260, 1, .ro, .const 0, .any⟩
/-- CHR_LINK_STATUS_l, R365: [2:0], RO. -/
def R.CHR_LINK_STATUS_STATE : Fld := ⟨261, 3, .ro, .const 0, .any⟩
/-- CHR_LINK_STATUS_l, R365: [7:4], RO. -/
def R.CHR_LINK_STATUS_CAUSE : Fld := ⟨262, 4, .ro, .const 0, .any⟩
/-- CHR_LINK_BAD_l, R365: [31:0], RC. -/
def R.CHR_LINK_BAD_COUNT : Fld := ⟨263, 32, .rc, .const 0, .any⟩
/-- CHR_LINK_DOWNS_l, R365: [31:0], RC. -/
def R.CHR_LINK_DOWNS_COUNT : Fld := ⟨264, 32, .rc, .const 0, .any⟩
/-- CHR_LINK_DOWN_AT_l, R365: [63:0], RO. -/
def R.CHR_LINK_DOWN_AT_STAMP : Fld := ⟨265, 64, .ro, .const 0, .any⟩

/-- Registers of the CHR_ block, part 0 (offsets within the block). -/
def regsChr0 : List RegDef :=
  [
  ⟨"CHR_CTL", 0x0, 0x0, 1, 1,
    [⟨R.CHR_CTL_RESTORE_AUTO, 0, 1, 0⟩, ⟨R.CHR_CTL_DOWN, 8, 1, 0⟩, ⟨R.CHR_CTL_RETRAIN, 16, 1, 0⟩]⟩,
  ⟨"CHR_STATUS", 0x4, 0x0, 1, 1,
    [⟨R.CHR_STATUS_UP, 0, 1, 0⟩, ⟨R.CHR_STATUS_DETOUR, 8, 1, 0⟩, ⟨R.CHR_STATUS_QUIESCE, 16, 1, 0⟩]⟩,
  ⟨"CHR_LINK_STATUS", 0x100, 0x20, 8, 1,
    [⟨R.CHR_LINK_STATUS_STATE, 0, 1, 0⟩, ⟨R.CHR_LINK_STATUS_CAUSE, 4, 1, 0⟩]⟩,
  ⟨"CHR_LINK_BAD", 0x104, 0x20, 8, 1,
    [⟨R.CHR_LINK_BAD_COUNT, 0, 1, 0⟩]⟩,
  ⟨"CHR_LINK_DOWNS", 0x108, 0x20, 8, 1,
    [⟨R.CHR_LINK_DOWNS_COUNT, 0, 1, 0⟩]⟩,
  ⟨"CHR_LINK_DOWN_AT", 0x110, 0x20, 8, 2,
    [⟨R.CHR_LINK_DOWN_AT_STAMP, 0, 1, 0⟩]⟩ ]

/-- The registers of the CHR_ block. -/
def regsChr : List RegDef := regsChr0

end Sys2Proof.Machine
end

