-- ==== Sys2Proof/Machine/RegsCore.lean ====
section
/-! DEFINITION. The fields and registers of the CORE_ block, from the field tables and offset tables of R71, R72, R73, R74, R75, R76, R77, R78, R79, R80, R81, R119, R120, R121, R122, R123, R157, R158, R159, R160, R196, R200, R331, R332. -/

namespace Sys2Proof.Machine

/-- CORE_ID, R72: [5:0], RO. -/
def R.CORE_ID_GLOBAL_CORE : Fld := ⟨0, 6, .ro, .globalCore, .any⟩
/-- CORE_ID, R72: [9:8], RO. -/
def R.CORE_ID_DIE : Fld := ⟨1, 2, .ro, .dieOfCore, .any⟩
/-- CORE_ID, R72: [19:16], RO. -/
def R.CORE_ID_LOCAL_CORE : Fld := ⟨2, 4, .ro, .localCore, .any⟩
/-- CORE_STATUS, R73: [1:0], RO. -/
def R.CORE_STATUS_MATRIX : Fld := ⟨3, 2, .ro, .const 0, .any⟩
/-- CORE_STATUS, R73: [3:2], RO. -/
def R.CORE_STATUS_VECTOR : Fld := ⟨4, 2, .ro, .const 0, .any⟩
/-- CORE_STATUS, R73: [5:4], RO. -/
def R.CORE_STATUS_CONTROL : Fld := ⟨5, 2, .ro, .const 0, .any⟩
/-- CORE_STATUS, R73: [7:6], RO. -/
def R.CORE_STATUS_DMA_IN : Fld := ⟨6, 2, .ro, .const 0, .any⟩
/-- CORE_STATUS, R73: [9:8], RO. -/
def R.CORE_STATUS_DMA_OUT : Fld := ⟨7, 2, .ro, .const 0, .any⟩
/-- CORE_STATUS, R73: [16:16], RO. -/
def R.CORE_STATUS_IN_CLAUSE : Fld := ⟨8, 1, .ro, .const 0, .any⟩
/-- CORE_STATUS, R73: [17:17], RO. -/
def R.CORE_STATUS_SCRUB : Fld := ⟨9, 1, .ro, .const 0, .any⟩
/-- CORE_STATUS, R73: [18:18], RO. -/
def R.CORE_STATUS_SAVE : Fld := ⟨10, 1, .ro, .const 0, .any⟩
/-- CORE_STATUS, R73: [19:19], RO. -/
def R.CORE_STATUS_PART_VALID : Fld := ⟨11, 1, .ro, .const 0, .any⟩
/-- CORE_STATUS, R73: [23:20], RO. -/
def R.CORE_STATUS_PARTITION : Fld := ⟨12, 4, .ro, .const 0, .any⟩
/-- CORE_CYCLE, R74: [63:0], RO. -/
def R.CORE_CYCLE_COUNT : Fld := ⟨13, 64, .ro, .const 0, .any⟩
/-- CORE_TAGWAIT_LIMIT, R75: [23:0], RW. -/
def R.CORE_TAGWAIT_LIMIT_TICKS : Fld := ⟨14, 24, .rw, .const 500000, .range 64 16777215⟩
/-- CORE_TAGWAIT_DMA_LIMIT, R75: [23:0], RW. -/
def R.CORE_TAGWAIT_DMA_LIMIT_TICKS : Fld := ⟨15, 24, .rw, .const 5000000, .range 64 16777215⟩
/-- CORE_TAGWAIT_CTRL, R76: [7:0], RW. -/
def R.CORE_TAGWAIT_CTRL_LOCAL_GRACE : Fld := ⟨16, 8, .rw, .const 64, .range 1 255⟩
/-- CORE_TAGWAIT_CTRL, R76: [8:8], RW. -/
def R.CORE_TAGWAIT_CTRL_LOCAL_DETECT : Fld := ⟨17, 1, .rw, .const 1, .any⟩
/-- CORE_EXC_STATUS, R77: [0:0], W1C. -/
def R.CORE_EXC_STATUS_TAGWAIT_TO : Fld := ⟨18, 1, .w1c, .const 0, .any⟩
/-- CORE_EXC_STATUS, R77: [1:1], W1C. -/
def R.CORE_EXC_STATUS_DMA_TAGWAIT_TO : Fld := ⟨19, 1, .w1c, .const 0, .any⟩
/-- CORE_EXC_STATUS, R77: [2:2], W1C. -/
def R.CORE_EXC_STATUS_LOCAL_DEADLOCK : Fld := ⟨20, 1, .w1c, .const 0, .any⟩
/-- CORE_EXC_STATUS, R77: [3:3], W1C. -/
def R.CORE_EXC_STATUS_ROW_ALIGN : Fld := ⟨21, 1, .w1c, .const 0, .any⟩
/-- CORE_EXC_STATUS, R77: [4:4], W1C. -/
def R.CORE_EXC_STATUS_DEADLINE_BLOCKED : Fld := ⟨22, 1, .w1c, .const 0, .any⟩
/-- CORE_EXC_INFO, R78: [2:0], RO. -/
def R.CORE_EXC_INFO_OWNER : Fld := ⟨23, 3, .ro, .const 0, .any⟩
/-- CORE_EXC_INFO, R78: [13:4], RO. -/
def R.CORE_EXC_INFO_SLOT : Fld := ⟨24, 10, .ro, .const 0, .any⟩
/-- CORE_EXC_INFO, R78: [17:16], RO. -/
def R.CORE_EXC_INFO_TAG : Fld := ⟨25, 2, .ro, .const 0, .any⟩
/-- CORE_EXC_INFO, R78: [19:18], RO. -/
def R.CORE_EXC_INFO_MODE : Fld := ⟨26, 2, .ro, .const 0, .any⟩
/-- CORE_BLOCK_COUNT, R79: [31:0], RC. -/
def R.CORE_BLOCK_COUNT_COUNT : Fld := ⟨27, 32, .rc, .const 0, .any⟩
/-- CORE_WAIT_k w0, R80: [0:0], RO. -/
def R.CORE_WAIT_W0_VALID : Fld := ⟨28, 1, .ro, .const 0, .any⟩
/-- CORE_WAIT_k w0, R80: [2:1], RO. -/
def R.CORE_WAIT_W0_MODE : Fld := ⟨29, 2, .ro, .const 0, .any⟩
/-- CORE_WAIT_k w0, R80: [3:3], RO. -/
def R.CORE_WAIT_W0_WANT : Fld := ⟨30, 1, .ro, .const 0, .any⟩
/-- CORE_WAIT_k w0, R80: [13:4], RO. -/
def R.CORE_WAIT_W0_SLOT : Fld := ⟨31, 10, .ro, .const 0, .any⟩
/-- CORE_WAIT_k w1, R80: [31:0], RO. -/
def R.CORE_WAIT_W1_START : Fld := ⟨32, 32, .ro, .const 0, .any⟩
/-- CORE_TAG_STATE_n, R81: 2 bits, 16 times, RO. -/
def R.CORE_TAG_STATE_TAG : Fld := ⟨33, 2, .ro, .const 0, .any⟩
/-- CORE_SEMWAIT_LIMIT, R120: [23:0], RW. -/
def R.CORE_SEMWAIT_LIMIT_TICKS : Fld := ⟨34, 24, .rw, .const 500000, .range 64 16777215⟩
/-- CORE_FAULT_CODE, R121: [7:0], RO. -/
def R.CORE_FAULT_CODE_CODE : Fld := ⟨35, 8, .ro, .const 0, .any⟩
/-- CORE_FAULT_CODE, R121: [8:8], W1C. -/
def R.CORE_FAULT_CODE_VALID : Fld := ⟨36, 1, .w1c, .const 0, .any⟩
/-- CORE_FAULT_CODE, R121: [31:16], RO. -/
def R.CORE_FAULT_CODE_DETAIL : Fld := ⟨37, 16, .ro, .const 0, .any⟩
/-- CORE_FAULT_PC, R122: [21:0], RO. -/
def R.CORE_FAULT_PC_PC : Fld := ⟨38, 22, .ro, .const 0, .any⟩
/-- CORE_FAULT_INSN, R122: [63:0], RO. -/
def R.CORE_FAULT_INSN_WORD : Fld := ⟨39, 64, .ro, .const 0, .any⟩
/-- CORE_SEMWAIT w0, R123: [0:0], RO. -/
def R.CORE_SEMWAIT_W0_VALID : Fld := ⟨40, 1, .ro, .const 0, .any⟩
/-- CORE_SEMWAIT w0, R123: [2:1], RO. -/
def R.CORE_SEMWAIT_W0_KIND : Fld := ⟨41, 2, .ro, .const 0, .any⟩
/-- CORE_SEMWAIT w0, R123: [18:4], RO. -/
def R.CORE_SEMWAIT_W0_OBJECT : Fld := ⟨42, 15, .ro, .const 0, .any⟩
/-- CORE_SEMWAIT w1, R123: [31:0], RO. -/
def R.CORE_SEMWAIT_W1_START : Fld := ⟨43, 32, .ro, .const 0, .any⟩
/-- CORE_ARITH_FLAGS, R158: [0:0], W1C. -/
def R.CORE_ARITH_FLAGS_NAN_IN : Fld := ⟨44, 1, .w1c, .const 0, .any⟩
/-- CORE_ARITH_FLAGS, R158: [1:1], W1C. -/
def R.CORE_ARITH_FLAGS_INVALID : Fld := ⟨45, 1, .w1c, .const 0, .any⟩
/-- CORE_ARITH_FLAGS, R158: [2:2], W1C. -/
def R.CORE_ARITH_FLAGS_OVERFLOW : Fld := ⟨46, 1, .w1c, .const 0, .any⟩
/-- CORE_ARITH_FLAGS, R158: [3:3], W1C. -/
def R.CORE_ARITH_FLAGS_UNDERFLOW : Fld := ⟨47, 1, .w1c, .const 0, .any⟩
/-- CORE_ARITH_FLAGS, R158: [4:4], W1C. -/
def R.CORE_ARITH_FLAGS_ACC_SAT : Fld := ⟨48, 1, .w1c, .const 0, .any⟩
/-- CORE_ARITH_FLAGS, R158: [5:5], W1C. -/
def R.CORE_ARITH_FLAGS_SCALE_NAN : Fld := ⟨49, 1, .w1c, .const 0, .any⟩
/-- CORE_SR_SEED, R159: [63:0], RO. -/
def R.CORE_SR_SEED_SEED : Fld := ⟨50, 64, .ro, .const 0, .any⟩
/-- CORE_SR_CTR, R159: [63:0], RO. -/
def R.CORE_SR_CTR_COUNT : Fld := ⟨51, 64, .ro, .const 0, .any⟩
/-- CORE_STAT_i w0, R160: [31:0], RO. -/
def R.CORE_STAT_W0_ABSMAX : Fld := ⟨52, 32, .ro, .const 0, .any⟩
/-- CORE_STAT_i w1, R160: [31:0], RO. -/
def R.CORE_STAT_W1_SUM : Fld := ⟨53, 32, .ro, .const 0, .any⟩
/-- CORE_STREAM_REGION, R200: [12:0], RW. -/
def R.CORE_STREAM_REGION_BASE_ROW : Fld := ⟨97, 13, .rw, .const 0, .mult 8⟩
/-- CORE_STREAM_REGION, R200: [22:16], RW. -/
def R.CORE_STREAM_REGION_FRAME_ROWS : Fld := ⟨98, 7, .rw, .const 1, .range 1 64⟩
/-- CORE_STREAM_REGION, R200: [31:24], RW. -/
def R.CORE_STREAM_REGION_FRAMES_M1 : Fld := ⟨99, 8, .rw, .const 0, .any⟩
/-- CORE_CLAUSE, R332: [11:0], RO. -/
def R.CORE_CLAUSE_CTX : Fld := ⟨215, 12, .ro, .const 0, .any⟩
/-- CORE_CLAUSE, R332: [13:12], RO. -/
def R.CORE_CLAUSE_ECLASS : Fld := ⟨216, 2, .ro, .const 0, .any⟩
/-- CORE_CLAUSE, R332: [15:14], RO. -/
def R.CORE_CLAUSE_DCLASS : Fld := ⟨217, 2, .ro, .const 0, .any⟩
/-- CORE_CLAUSE, R332: [16:16], RO. -/
def R.CORE_CLAUSE_RUNNING : Fld := ⟨218, 1, .ro, .const 0, .any⟩
/-- CORE_CLAUSE, R332: [17:17], RO. -/
def R.CORE_CLAUSE_PENDING : Fld := ⟨219, 1, .ro, .const 0, .any⟩
/-- CORE_CLAUSE, R332: [18:18], RO. -/
def R.CORE_CLAUSE_BOOSTED : Fld := ⟨220, 1, .ro, .const 0, .any⟩
/-- CORE_CLAUSE, R332: [19:19], RO. -/
def R.CORE_CLAUSE_BATCH : Fld := ⟨221, 1, .ro, .const 0, .any⟩
/-- CORE_SLOTS, R332: [3:0], RO. -/
def R.CORE_SLOTS_USED : Fld := ⟨222, 4, .ro, .const 0, .any⟩
/-- CORE_SLOTS, R332: [4:4], RO. -/
def R.CORE_SLOTS_BUSY : Fld := ⟨223, 1, .ro, .const 0, .any⟩
/-- CORE_SLOTS, R332: [5:5], RO. -/
def R.CORE_SLOTS_RESTORE : Fld := ⟨224, 1, .ro, .const 0, .any⟩
/-- CORE_SLOTS, R332: [7:6], RO. -/
def R.CORE_SLOTS_SLOT : Fld := ⟨225, 2, .ro, .const 0, .any⟩
/-- CORE_SAVE_BASE, R332: [38:16], RW. -/
def R.CORE_SAVE_BASE_PA : Fld := ⟨226, 23, .rw, .const 0, .any⟩
/-- CORE_KICK_LAST, R332: [23:0], RO. -/
def R.CORE_KICK_LAST_TICKS : Fld := ⟨227, 24, .ro, .const 0, .any⟩

/-- Registers of the CORE_ block, part 0 (offsets within the block). -/
def regsCore0 : List RegDef :=
  [
  ⟨"CORE_ID", 0x0, 0x0, 1, 1,
    [⟨R.CORE_ID_GLOBAL_CORE, 0, 1, 0⟩, ⟨R.CORE_ID_DIE, 8, 1, 0⟩, ⟨R.CORE_ID_LOCAL_CORE, 16, 1, 0⟩]⟩,
  ⟨"CORE_STATUS", 0x4, 0x0, 1, 1,
    [⟨R.CORE_STATUS_MATRIX, 0, 1, 0⟩, ⟨R.CORE_STATUS_VECTOR, 2, 1, 0⟩, ⟨R.CORE_STATUS_CONTROL, 4, 1, 0⟩, ⟨R.CORE_STATUS_DMA_IN, 6, 1, 0⟩, ⟨R.CORE_STATUS_DMA_OUT, 8, 1, 0⟩, ⟨R.CORE_STATUS_IN_CLAUSE, 16, 1, 0⟩, ⟨R.CORE_STATUS_SCRUB, 17, 1, 0⟩, ⟨R.CORE_STATUS_SAVE, 18, 1, 0⟩, ⟨R.CORE_STATUS_PART_VALID, 19, 1, 0⟩, ⟨R.CORE_STATUS_PARTITION, 20, 1, 0⟩]⟩,
  ⟨"CORE_CYCLE", 0x8, 0x0, 1, 2,
    [⟨R.CORE_CYCLE_COUNT, 0, 1, 0⟩]⟩,
  ⟨"CORE_TAGWAIT_LIMIT", 0x10, 0x0, 1, 1,
    [⟨R.CORE_TAGWAIT_LIMIT_TICKS, 0, 1, 0⟩]⟩,
  ⟨"CORE_TAGWAIT_DMA_LIMIT", 0x14, 0x0, 1, 1,
    [⟨R.CORE_TAGWAIT_DMA_LIMIT_TICKS, 0, 1, 0⟩]⟩,
  ⟨"CORE_TAGWAIT_CTRL", 0x18, 0x0, 1, 1,
    [⟨R.CORE_TAGWAIT_CTRL_LOCAL_GRACE, 0, 1, 0⟩, ⟨R.CORE_TAGWAIT_CTRL_LOCAL_DETECT, 8, 1, 0⟩]⟩,
  ⟨"CORE_EXC_STATUS", 0x20, 0x0, 1, 1,
    [⟨R.CORE_EXC_STATUS_TAGWAIT_TO, 0, 1, 0⟩, ⟨R.CORE_EXC_STATUS_DMA_TAGWAIT_TO, 1, 1, 0⟩, ⟨R.CORE_EXC_STATUS_LOCAL_DEADLOCK, 2, 1, 0⟩, ⟨R.CORE_EXC_STATUS_ROW_ALIGN, 3, 1, 0⟩, ⟨R.CORE_EXC_STATUS_DEADLINE_BLOCKED, 4, 1, 0⟩]⟩,
  ⟨"CORE_EXC_INFO", 0x24, 0x0, 1, 1,
    [⟨R.CORE_EXC_INFO_OWNER, 0, 1, 0⟩, ⟨R.CORE_EXC_INFO_SLOT, 4, 1, 0⟩, ⟨R.CORE_EXC_INFO_TAG, 16, 1, 0⟩, ⟨R.CORE_EXC_INFO_MODE, 18, 1, 0⟩]⟩,
  ⟨"CORE_BLOCK_COUNT", 0x28, 0x0, 1, 1,
    [⟨R.CORE_BLOCK_COUNT_COUNT, 0, 1, 0⟩]⟩,
  ⟨"CORE_WAIT_W0", 0x40, 0x8, 8, 1,
    [⟨R.CORE_WAIT_W0_VALID, 0, 1, 0⟩, ⟨R.CORE_WAIT_W0_MODE, 1, 1, 0⟩, ⟨R.CORE_WAIT_W0_WANT, 3, 1, 0⟩, ⟨R.CORE_WAIT_W0_SLOT, 4, 1, 0⟩]⟩,
  ⟨"CORE_WAIT_W1", 0x44, 0x8, 8, 1,
    [⟨R.CORE_WAIT_W1_START, 0, 1, 0⟩]⟩,
  ⟨"CORE_TAG_STATE", 0x1000, 0x4, 64, 1,
    placeRun R.CORE_TAG_STATE_TAG 2 16 0⟩ ]

/-- Registers of the CORE_ block, part 1 (offsets within the block). -/
def regsCore1 : List RegDef :=
  [
  ⟨"CORE_SEMWAIT_LIMIT", 0x2c, 0x0, 1, 1,
    [⟨R.CORE_SEMWAIT_LIMIT_TICKS, 0, 1, 0⟩]⟩,
  ⟨"CORE_FAULT_CODE", 0x30, 0x0, 1, 1,
    [⟨R.CORE_FAULT_CODE_CODE, 0, 1, 0⟩, ⟨R.CORE_FAULT_CODE_VALID, 8, 1, 0⟩, ⟨R.CORE_FAULT_CODE_DETAIL, 16, 1, 0⟩]⟩,
  ⟨"CORE_FAULT_PC", 0x34, 0x0, 1, 1,
    [⟨R.CORE_FAULT_PC_PC, 0, 1, 0⟩]⟩,
  ⟨"CORE_FAULT_INSN", 0x38, 0x0, 1, 2,
    [⟨R.CORE_FAULT_INSN_WORD, 0, 1, 0⟩]⟩,
  ⟨"CORE_SEMWAIT_W0", 0x80, 0x0, 1, 1,
    [⟨R.CORE_SEMWAIT_W0_VALID, 0, 1, 0⟩, ⟨R.CORE_SEMWAIT_W0_KIND, 1, 1, 0⟩, ⟨R.CORE_SEMWAIT_W0_OBJECT, 4, 1, 0⟩]⟩,
  ⟨"CORE_SEMWAIT_W1", 0x84, 0x0, 1, 1,
    [⟨R.CORE_SEMWAIT_W1_START, 0, 1, 0⟩]⟩,
  ⟨"CORE_ARITH_FLAGS", 0x100, 0x0, 1, 1,
    [⟨R.CORE_ARITH_FLAGS_NAN_IN, 0, 1, 0⟩, ⟨R.CORE_ARITH_FLAGS_INVALID, 1, 1, 0⟩, ⟨R.CORE_ARITH_FLAGS_OVERFLOW, 2, 1, 0⟩, ⟨R.CORE_ARITH_FLAGS_UNDERFLOW, 3, 1, 0⟩, ⟨R.CORE_ARITH_FLAGS_ACC_SAT, 4, 1, 0⟩, ⟨R.CORE_ARITH_FLAGS_SCALE_NAN, 5, 1, 0⟩]⟩,
  ⟨"CORE_SR_SEED", 0x108, 0x0, 1, 2,
    [⟨R.CORE_SR_SEED_SEED, 0, 1, 0⟩]⟩,
  ⟨"CORE_SR_CTR", 0x110, 0x0, 1, 2,
    [⟨R.CORE_SR_CTR_COUNT, 0, 1, 0⟩]⟩,
  ⟨"CORE_STAT_W0", 0x200, 0x8, 64, 1,
    [⟨R.CORE_STAT_W0_ABSMAX, 0, 1, 0⟩]⟩,
  ⟨"CORE_STAT_W1", 0x204, 0x8, 64, 1,
    [⟨R.CORE_STAT_W1_SUM, 0, 1, 0⟩]⟩,
  ⟨"CORE_STREAM_REGION", 0x120, 0x0, 1, 1,
    [⟨R.CORE_STREAM_REGION_BASE_ROW, 0, 1, 0⟩, ⟨R.CORE_STREAM_REGION_FRAME_ROWS, 16, 1, 0⟩, ⟨R.CORE_STREAM_REGION_FRAMES_M1, 24, 1, 0⟩]⟩ ]

/-- Registers of the CORE_ block, part 2 (offsets within the block). -/
def regsCore2 : List RegDef :=
  [
  ⟨"CORE_CLAUSE", 0x140, 0x0, 1, 1,
    [⟨R.CORE_CLAUSE_CTX, 0, 1, 0⟩, ⟨R.CORE_CLAUSE_ECLASS, 12, 1, 0⟩, ⟨R.CORE_CLAUSE_DCLASS, 14, 1, 0⟩, ⟨R.CORE_CLAUSE_RUNNING, 16, 1, 0⟩, ⟨R.CORE_CLAUSE_PENDING, 17, 1, 0⟩, ⟨R.CORE_CLAUSE_BOOSTED, 18, 1, 0⟩, ⟨R.CORE_CLAUSE_BATCH, 19, 1, 0⟩]⟩,
  ⟨"CORE_SLOTS", 0x144, 0x0, 1, 1,
    [⟨R.CORE_SLOTS_USED, 0, 1, 0⟩, ⟨R.CORE_SLOTS_BUSY, 4, 1, 0⟩, ⟨R.CORE_SLOTS_RESTORE, 5, 1, 0⟩, ⟨R.CORE_SLOTS_SLOT, 6, 1, 0⟩]⟩,
  ⟨"CORE_SAVE_BASE", 0x148, 0x0, 1, 2,
    [⟨R.CORE_SAVE_BASE_PA, 16, 1, 0⟩]⟩,
  ⟨"CORE_KICK_LAST", 0x150, 0x0, 1, 1,
    [⟨R.CORE_KICK_LAST_TICKS, 0, 1, 0⟩]⟩ ]

/-- The registers of the CORE_ block. -/
def regsCore : List RegDef := regsCore0 ++ regsCore1 ++ regsCore2

end Sys2Proof.Machine
end

