-- ==== Sys2Proof/Machine/RegsDmc.lean ====
section
/-! DEFINITION. The fields and registers of the DMC_ block, from the field tables and offset tables of R247, R248, R249, R250, R251, R537. -/

namespace Sys2Proof.Machine

/-- DMC_STATUS, R248: [0:0], RO. -/
def R.DMC_STATUS_READY : Fld := ⟨100, 1, .ro, .const 0, .any⟩
/-- DMC_STATUS, R248: [1:1], RO. -/
def R.DMC_STATUS_SELF_REFRESH : Fld := ⟨101, 1, .ro, .const 0, .any⟩
/-- DMC_STATUS, R248: [3:2], RO. -/
def R.DMC_STATUS_FIT : Fld := ⟨102, 2, .ro, .const 0, .any⟩
/-- DMC_STATUS, R248: [4:4], RO. -/
def R.DMC_STATUS_HOT : Fld := ⟨103, 1, .ro, .const 0, .any⟩
/-- DMC_STATUS, R248: [5:5], RO. -/
def R.DMC_STATUS_RETIRE_FULL : Fld := ⟨104, 1, .ro, .const 0, .any⟩
/-- DMC_NBR, R248: [3:0], RW. -/
def R.DMC_NBR_K_M6 : Fld := ⟨105, 4, .rw, .const 4, .range 0 10⟩
/-- DMC_NBR, R248: [4:4], RW. -/
def R.DMC_NBR_RADIUS2 : Fld := ⟨106, 1, .rw, .const 0, .any⟩
/-- DMC_NBR, R248: [5:5], RW. -/
def R.DMC_NBR_ENABLE : Fld := ⟨107, 1, .rw, .const 1, .any⟩
/-- DMC_PATROL, R248: [7:0], RW. -/
def R.DMC_PATROL_HOURS : Fld := ⟨108, 8, .rw, .const 24, .range 1 255⟩
/-- DMC_PATROL, R248: [8:8], RW. -/
def R.DMC_PATROL_ENABLE : Fld := ⟨109, 1, .rw, .const 1, .any⟩
/-- DMC_ERR_LAST, R250: [36:0], RO. -/
def R.DMC_ERR_LAST_OFFSET : Fld := ⟨110, 37, .ro, .const 0, .any⟩
/-- DMC_ERR_LAST, R250: [40:37], RO. -/
def R.DMC_ERR_LAST_CHANNEL : Fld := ⟨111, 4, .ro, .const 0, .any⟩
/-- DMC_ERR_LAST, R250: [41:41], RO. -/
def R.DMC_ERR_LAST_UE : Fld := ⟨112, 1, .ro, .const 0, .any⟩
/-- DMC_ERR_LAST, R250: [42:42], W1C. -/
def R.DMC_ERR_LAST_VALID : Fld := ⟨113, 1, .w1c, .const 0, .any⟩
/-- DMC_GROUP_n, R249: [15:0], RW. -/
def R.DMC_GROUP_CHMASK : Fld := ⟨114, 16, .rw, .const 0, .any⟩
/-- DMC_GROUP_n, R249: [19:16], RW. -/
def R.DMC_GROUP_GRAIN : Fld := ⟨115, 4, .rw, .const 4, .range 0 8⟩
/-- DMC_GROUP_n, R249: [20:20], RW. -/
def R.DMC_GROUP_ECC : Fld := ⟨116, 1, .rw, .const 1, .any⟩
/-- DMC_GROUP_n, R249: [21:21], RW. -/
def R.DMC_GROUP_ENC : Fld := ⟨117, 1, .rw, .const 0, .any⟩
/-- DMC_GROUP_n, R249: [22:22], RW. -/
def R.DMC_GROUP_PART_VALID : Fld := ⟨118, 1, .rw, .const 0, .any⟩
/-- DMC_GROUP_n, R249: [26:23], RW. -/
def R.DMC_GROUP_PART : Fld := ⟨119, 4, .rw, .const 0, .any⟩
/-- DMC_GROUP_n, R249: [27:27], RW. -/
def R.DMC_GROUP_ENABLE : Fld := ⟨120, 1, .rw, .const 0, .any⟩
/-- DMC_GROUP_n, R249: [28:28], RO. -/
def R.DMC_GROUP_SCRUB : Fld := ⟨121, 1, .ro, .const 0, .any⟩
/-- DMC_GROUP_n, R249: [29:29], RW. -/
def R.DMC_GROUP_SCRUB_ON_EN : Fld := ⟨122, 1, .rw, .const 1, .any⟩
/-- DMC_GROUP_n, R249: [41:32], RW. -/
def R.DMC_GROUP_BASE : Fld := ⟨123, 10, .rw, .const 0, .any⟩
/-- DMC_CH_STATUS_c, R250: [0:0], RO. -/
def R.DMC_CH_STATUS_PRESENT : Fld := ⟨124, 1, .ro, .const 0, .any⟩
/-- DMC_CH_STATUS_c, R250: [1:1], RO. -/
def R.DMC_CH_STATUS_IN_GROUP : Fld := ⟨125, 1, .ro, .const 0, .any⟩
/-- DMC_CH_STATUS_c, R250: [2:2], RO. -/
def R.DMC_CH_STATUS_REFRESH_2X : Fld := ⟨126, 1, .ro, .const 0, .any⟩
/-- DMC_CH_STATUS_c, R250: [7:3], RO. -/
def R.DMC_CH_STATUS_MR4 : Fld := ⟨127, 5, .ro, .const 0, .any⟩
/-- DMC_CH_STATUS_c, R250: [8:8], W1C. -/
def R.DMC_CH_STATUS_OVER_TEMP : Fld := ⟨128, 1, .w1c, .const 0, .any⟩
/-- DMC_ECC_COUNT_c, R250: [31:0], RC. -/
def R.DMC_ECC_COUNT_CE : Fld := ⟨129, 32, .rc, .const 0, .any⟩
/-- DMC_ECC_COUNT_c, R250: [63:32], RC. -/
def R.DMC_ECC_COUNT_UE : Fld := ⟨130, 32, .rc, .const 0, .any⟩
/-- DMC_RETIRE_i, R251: [0:0], RO. -/
def R.DMC_RETIRE_VALID : Fld := ⟨131, 1, .ro, .const 0, .any⟩
/-- DMC_RETIRE_i, R251: [1:1], RO. -/
def R.DMC_RETIRE_SOURCE : Fld := ⟨132, 1, .ro, .const 0, .any⟩
/-- DMC_RETIRE_i, R251: [38:16], RO. -/
def R.DMC_RETIRE_FRAME : Fld := ⟨133, 23, .ro, .const 0, .any⟩
/-- DMC_PART_KEY_p, R251: [5:0], RW. -/
def R.DMC_PART_KEY_SLOT : Fld := ⟨134, 6, .rw, .index, .any⟩
/-- DMC_TRAIN_CTL, R537: [15:0], RW. -/
def R.DMC_TRAIN_CTL_CHMASK : Fld := ⟨730, 16, .rw, .const 0, .any⟩
/-- DMC_TRAIN_CTL, R537: [19:16], RW. -/
def R.DMC_TRAIN_CTL_OP : Fld := ⟨731, 4, .rw, .const 0, .range 1 6⟩
/-- DMC_TRAIN_CTL, R537: [21:20], RW. -/
def R.DMC_TRAIN_CTL_RATE : Fld := ⟨732, 2, .rw, .const 3, .range 1 3⟩
/-- DMC_TRAIN_CTL, R537: [22:22], WO. -/
def R.DMC_TRAIN_CTL_GO : Fld := ⟨733, 1, .wo, .const 0, .any⟩
/-- DMC_TRAIN_CTL, R537: [23:23], WO. -/
def R.DMC_TRAIN_CTL_COMMIT : Fld := ⟨734, 1, .wo, .const 0, .any⟩
/-- DMC_TRAIN_PAT, R537: [31:0], RW. -/
def R.DMC_TRAIN_PAT_SEED : Fld := ⟨735, 32, .rw, .const 1, .range 1 4294967295⟩
/-- DMC_TRAIN_SET, R537: [3:0], RW. -/
def R.DMC_TRAIN_SET_CHANNEL : Fld := ⟨736, 4, .rw, .const 0, .any⟩
/-- DMC_TRAIN_SET, R537: [8:4], RW. -/
def R.DMC_TRAIN_SET_LANE : Fld := ⟨737, 5, .rw, .const 0, .range 0 17⟩
/-- DMC_TRAIN_SET, R537: [10:9], RW. -/
def R.DMC_TRAIN_SET_KIND : Fld := ⟨738, 2, .rw, .const 0, .range 0 2⟩
/-- DMC_TRAIN_SET, R537: [18:11], RW. -/
def R.DMC_TRAIN_SET_VALUE : Fld := ⟨739, 8, .rw, .const 0, .any⟩
/-- DMC_TRAIN_SET, R537: [19:19], WO. -/
def R.DMC_TRAIN_SET_APPLY : Fld := ⟨740, 1, .wo, .const 0, .any⟩
/-- DMC_TRAIN_STATUS, R537: [0:0], RO. -/
def R.DMC_TRAIN_STATUS_BUSY : Fld := ⟨741, 1, .ro, .const 0, .any⟩
/-- DMC_TRAIN_STATUS, R537: [1:1], W1C. -/
def R.DMC_TRAIN_STATUS_DONE : Fld := ⟨742, 1, .w1c, .const 0, .any⟩
/-- DMC_TRAIN_STATUS, R537: [2:2], W1C. -/
def R.DMC_TRAIN_STATUS_FAIL : Fld := ⟨743, 1, .w1c, .const 0, .any⟩
/-- DMC_TRAIN_ERR_c, R537: [15:0], RO. -/
def R.DMC_TRAIN_ERR_BITS : Fld := ⟨744, 16, .ro, .const 0, .any⟩
/-- DMC_TRAIN_ERR_c, R537: [31:16], RO. -/
def R.DMC_TRAIN_ERR_COUNT : Fld := ⟨745, 16, .ro, .const 0, .any⟩

/-- Registers of the DMC_ block, part 0 (offsets within the block). -/
def regsDmc0 : List RegDef :=
  [
  ⟨"DMC_STATUS", 0x0, 0x0, 1, 1,
    [⟨R.DMC_STATUS_READY, 0, 1, 0⟩, ⟨R.DMC_STATUS_SELF_REFRESH, 1, 1, 0⟩, ⟨R.DMC_STATUS_FIT, 2, 1, 0⟩, ⟨R.DMC_STATUS_HOT, 4, 1, 0⟩, ⟨R.DMC_STATUS_RETIRE_FULL, 5, 1, 0⟩]⟩,
  ⟨"DMC_NBR", 0x4, 0x0, 1, 1,
    [⟨R.DMC_NBR_K_M6, 0, 1, 0⟩, ⟨R.DMC_NBR_RADIUS2, 4, 1, 0⟩, ⟨R.DMC_NBR_ENABLE, 5, 1, 0⟩]⟩,
  ⟨"DMC_PATROL", 0x8, 0x0, 1, 1,
    [⟨R.DMC_PATROL_HOURS, 0, 1, 0⟩, ⟨R.DMC_PATROL_ENABLE, 8, 1, 0⟩]⟩,
  ⟨"DMC_ERR_LAST", 0x10, 0x0, 1, 2,
    [⟨R.DMC_ERR_LAST_OFFSET, 0, 1, 0⟩, ⟨R.DMC_ERR_LAST_CHANNEL, 37, 1, 0⟩, ⟨R.DMC_ERR_LAST_UE, 41, 1, 0⟩, ⟨R.DMC_ERR_LAST_VALID, 42, 1, 0⟩]⟩,
  ⟨"DMC_GROUP", 0x80, 0x8, 16, 2,
    [⟨R.DMC_GROUP_CHMASK, 0, 1, 0⟩, ⟨R.DMC_GROUP_GRAIN, 16, 1, 0⟩, ⟨R.DMC_GROUP_ECC, 20, 1, 0⟩, ⟨R.DMC_GROUP_ENC, 21, 1, 0⟩, ⟨R.DMC_GROUP_PART_VALID, 22, 1, 0⟩, ⟨R.DMC_GROUP_PART, 23, 1, 0⟩, ⟨R.DMC_GROUP_ENABLE, 27, 1, 0⟩, ⟨R.DMC_GROUP_SCRUB, 28, 1, 0⟩, ⟨R.DMC_GROUP_SCRUB_ON_EN, 29, 1, 0⟩, ⟨R.DMC_GROUP_BASE, 32, 1, 0⟩]⟩,
  ⟨"DMC_CH_STATUS", 0x100, 0x4, 16, 1,
    [⟨R.DMC_CH_STATUS_PRESENT, 0, 1, 0⟩, ⟨R.DMC_CH_STATUS_IN_GROUP, 1, 1, 0⟩, ⟨R.DMC_CH_STATUS_REFRESH_2X, 2, 1, 0⟩, ⟨R.DMC_CH_STATUS_MR4, 3, 1, 0⟩, ⟨R.DMC_CH_STATUS_OVER_TEMP, 8, 1, 0⟩]⟩,
  ⟨"DMC_ECC_COUNT", 0x200, 0x8, 16, 2,
    [⟨R.DMC_ECC_COUNT_CE, 0, 1, 0⟩, ⟨R.DMC_ECC_COUNT_UE, 32, 1, 0⟩]⟩,
  ⟨"DMC_RETIRE", 0x300, 0x8, 64, 2,
    [⟨R.DMC_RETIRE_VALID, 0, 1, 0⟩, ⟨R.DMC_RETIRE_SOURCE, 1, 1, 0⟩, ⟨R.DMC_RETIRE_FRAME, 16, 1, 0⟩]⟩,
  ⟨"DMC_PART_KEY", 0x500, 0x4, 16, 1,
    [⟨R.DMC_PART_KEY_SLOT, 0, 1, 0⟩]⟩,
  ⟨"DMC_TRAIN_CTL", 0x600, 0x0, 1, 1,
    [⟨R.DMC_TRAIN_CTL_CHMASK, 0, 1, 0⟩, ⟨R.DMC_TRAIN_CTL_OP, 16, 1, 0⟩, ⟨R.DMC_TRAIN_CTL_RATE, 20, 1, 0⟩, ⟨R.DMC_TRAIN_CTL_GO, 22, 1, 0⟩, ⟨R.DMC_TRAIN_CTL_COMMIT, 23, 1, 0⟩]⟩,
  ⟨"DMC_TRAIN_PAT", 0x604, 0x0, 1, 1,
    [⟨R.DMC_TRAIN_PAT_SEED, 0, 1, 0⟩]⟩,
  ⟨"DMC_TRAIN_SET", 0x608, 0x0, 1, 1,
    [⟨R.DMC_TRAIN_SET_CHANNEL, 0, 1, 0⟩, ⟨R.DMC_TRAIN_SET_LANE, 4, 1, 0⟩, ⟨R.DMC_TRAIN_SET_KIND, 9, 1, 0⟩, ⟨R.DMC_TRAIN_SET_VALUE, 11, 1, 0⟩, ⟨R.DMC_TRAIN_SET_APPLY, 19, 1, 0⟩]⟩ ]

/-- Registers of the DMC_ block, part 1 (offsets within the block). -/
def regsDmc1 : List RegDef :=
  [
  ⟨"DMC_TRAIN_STATUS", 0x60c, 0x0, 1, 1,
    [⟨R.DMC_TRAIN_STATUS_BUSY, 0, 1, 0⟩, ⟨R.DMC_TRAIN_STATUS_DONE, 1, 1, 0⟩, ⟨R.DMC_TRAIN_STATUS_FAIL, 2, 1, 0⟩]⟩,
  ⟨"DMC_TRAIN_ERR", 0x640, 0x4, 16, 1,
    [⟨R.DMC_TRAIN_ERR_BITS, 0, 1, 0⟩, ⟨R.DMC_TRAIN_ERR_COUNT, 16, 1, 0⟩]⟩ ]

/-- The registers of the DMC_ block. -/
def regsDmc : List RegDef := regsDmc0 ++ regsDmc1

end Sys2Proof.Machine
end

