-- ==== Sys2Proof/Machine/RegsFab.lean ====
section
/-! DEFINITION. The fields and registers of the FAB_ block, from the field tables and offset tables of R366, R367, R368, R369, R370, R538. -/

namespace Sys2Proof.Machine

/-- FAB_ID, R367: [5:0], RW. -/
def R.FAB_ID_PACKAGE : Fld := ⟨266, 6, .rw, .const 0, .any⟩
/-- FAB_ID, R367: [6:6], RW. -/
def R.FAB_ID_VALID : Fld := ⟨267, 1, .rw, .const 0, .any⟩
/-- FAB_CFG, R367: [0:0], RW. -/
def R.FAB_CFG_ENABLE : Fld := ⟨268, 1, .rw, .const 0, .any⟩
/-- FAB_CFG, R367: [6:1], RW. -/
def R.FAB_CFG_PORT_EN : Fld := ⟨269, 6, .rw, .const 0, .any⟩
/-- FAB_TIMEOUT, R367: [7:0], RW. -/
def R.FAB_TIMEOUT_LINK_US : Fld := ⟨270, 8, .rw, .const 10, .range 1 255⟩
/-- FAB_TIMEOUT, R367: [15:8], RW. -/
def R.FAB_TIMEOUT_E2E_MS : Fld := ⟨271, 8, .rw, .const 2, .range 1 255⟩
/-- FAB_TIMEOUT, R367: [31:16], RW. -/
def R.FAB_TIMEOUT_PEER_US : Fld := ⟨272, 16, .rw, .const 1000, .range 10 65535⟩
/-- FAB_PERIOD, R367: [7:0], RW. -/
def R.FAB_PERIOD_PRESENCE_US : Fld := ⟨273, 8, .rw, .const 100, .range 1 255⟩
/-- FAB_PERIOD, R367: [15:8], RW. -/
def R.FAB_PERIOD_DIGEST_MS : Fld := ⟨274, 8, .rw, .const 100, .range 1 255⟩
/-- FAB_PERIOD, R367: [23:16], RW. -/
def R.FAB_PERIOD_SETTLE_MS : Fld := ⟨275, 8, .rw, .const 10, .range 1 255⟩
/-- FAB_PERIOD, R367: [31:24], RW. -/
def R.FAB_PERIOD_RESTORE_MS : Fld := ⟨276, 8, .rw, .const 1, .range 1 255⟩
/-- FAB_PEER_MASK, R367: [63:0], RW. -/
def R.FAB_PEER_MASK_MASK : Fld := ⟨277, 64, .rw, .const 0, .any⟩
/-- FAB_PEER_UP, R367: [63:0], RO. -/
def R.FAB_PEER_UP_UP : Fld := ⟨278, 64, .ro, .const 0, .any⟩
/-- FAB_PEER_LOST, R367: [63:0], W1C. -/
def R.FAB_PEER_LOST_LOST : Fld := ⟨279, 64, .w1c, .const 0, .any⟩
/-- FAB_DIGEST_MISMATCH, R367: [63:0], RO. -/
def R.FAB_DIGEST_MISMATCH_DIFF : Fld := ⟨280, 64, .ro, .const 0, .any⟩
/-- FAB_EVENT, R367: [0:0], W1C. -/
def R.FAB_EVENT_PORT_DOWN : Fld := ⟨281, 1, .w1c, .const 0, .any⟩
/-- FAB_EVENT, R367: [1:1], W1C. -/
def R.FAB_EVENT_ROUTE_SWITCH : Fld := ⟨282, 1, .w1c, .const 0, .any⟩
/-- FAB_EVENT, R367: [2:2], W1C. -/
def R.FAB_EVENT_ROUTE_LOST : Fld := ⟨283, 1, .w1c, .const 0, .any⟩
/-- FAB_EVENT, R367: [3:3], W1C. -/
def R.FAB_EVENT_PEER_LOST : Fld := ⟨284, 1, .w1c, .const 0, .any⟩
/-- FAB_EVENT, R367: [4:4], W1C. -/
def R.FAB_EVENT_DIGEST_MISMATCH : Fld := ⟨285, 1, .w1c, .const 0, .any⟩
/-- FAB_EVENT, R367: [5:5], W1C. -/
def R.FAB_EVENT_NACK : Fld := ⟨286, 1, .w1c, .const 0, .any⟩
/-- FAB_EVENT, R367: [6:6], W1C. -/
def R.FAB_EVENT_E2E_TIMEOUT : Fld := ⟨287, 1, .w1c, .const 0, .any⟩
/-- FAB_EVENT_MASK, R367: [6:0], RW. -/
def R.FAB_EVENT_MASK_EN : Fld := ⟨288, 7, .rw, .const 0, .any⟩
/-- FAB_NACK_LAST, R367: [3:0], RO. -/
def R.FAB_NACK_LAST_CODE : Fld := ⟨289, 4, .ro, .const 0, .any⟩
/-- FAB_NACK_LAST, R367: [7:4], RO. -/
def R.FAB_NACK_LAST_CLASS : Fld := ⟨290, 4, .ro, .const 0, .any⟩
/-- FAB_NACK_LAST, R367: [13:8], RO. -/
def R.FAB_NACK_LAST_PEER : Fld := ⟨291, 6, .ro, .const 0, .any⟩
/-- FAB_NACK_LAST, R367: [19:14], RO. -/
def R.FAB_NACK_LAST_WINDOW : Fld := ⟨292, 6, .ro, .const 0, .any⟩
/-- FAB_NACK_LAST, R367: [31:31], W1C. -/
def R.FAB_NACK_LAST_VALID : Fld := ⟨293, 1, .w1c, .const 0, .any⟩
/-- FAB_DUP, R367: [31:0], RC. -/
def R.FAB_DUP_COUNT : Fld := ⟨294, 32, .rc, .const 0, .any⟩
/-- FAB_DIGEST_CTL, R368: [15:0], RW. -/
def R.FAB_DIGEST_CTL_GROUP : Fld := ⟨295, 16, .rw, .const 0, .any⟩
/-- FAB_DIGEST_CTL, R368: [16:16], RW. -/
def R.FAB_DIGEST_CTL_AUTO : Fld := ⟨296, 1, .rw, .const 1, .any⟩
/-- FAB_DIGEST_CTL, R368: [17:17], WO. -/
def R.FAB_DIGEST_CTL_COMMIT : Fld := ⟨297, 1, .wo, .const 0, .any⟩
/-- FAB_DIGEST_CTL, R368: [18:18], RO. -/
def R.FAB_DIGEST_CTL_DIRTY : Fld := ⟨298, 1, .ro, .const 1, .any⟩
/-- FAB_DIGEST_CTL, R368: [19:19], RO. -/
def R.FAB_DIGEST_CTL_BUSY : Fld := ⟨299, 1, .ro, .const 0, .any⟩
/-- FAB_DIGEST_EPOCH, R368: [31:0], RO. -/
def R.FAB_DIGEST_EPOCH_EPOCH : Fld := ⟨300, 32, .ro, .const 0, .any⟩
/-- FAB_DROP, R367: [31:0], RC. -/
def R.FAB_DROP_COUNT : Fld := ⟨301, 32, .rc, .const 0, .any⟩
/-- FAB_E2E_TO, R367: [31:0], RC. -/
def R.FAB_E2E_TO_COUNT : Fld := ⟨302, 32, .rc, .const 0, .any⟩
/-- FAB_DIGEST_VALUE_i, R368: [31:0], RO. -/
def R.FAB_DIGEST_VALUE_BYTES : Fld := ⟨303, 32, .ro, .const 0, .any⟩
/-- FAB_DIGEST_TABLE_t ADDR, R368: [38:6], RW. -/
def R.FAB_DIGEST_TABLE_ADDR_PA : Fld := ⟨304, 33, .rw, .const 0, .any⟩
/-- FAB_DIGEST_TABLE_t ADDR, R368: [63:63], RW. -/
def R.FAB_DIGEST_TABLE_ADDR_EN : Fld := ⟨305, 1, .rw, .const 0, .any⟩
/-- FAB_DIGEST_TABLE_t LEN, R368: [26:0], RW. -/
def R.FAB_DIGEST_TABLE_LEN_BYTES : Fld := ⟨306, 27, .rw, .const 0, .any⟩
/-- FAB_ROUTE_k, R368: [2:0], RW. -/
def R.FAB_ROUTE_PRIMARY : Fld := ⟨307, 3, .rw, .const 0, .range 0 5⟩
/-- FAB_ROUTE_k, R368: [3:3], RW. -/
def R.FAB_ROUTE_PVC : Fld := ⟨308, 1, .rw, .const 0, .any⟩
/-- FAB_ROUTE_k, R368: [6:4], RW. -/
def R.FAB_ROUTE_ALT : Fld := ⟨309, 3, .rw, .const 0, .range 0 5⟩
/-- FAB_ROUTE_k, R368: [7:7], RW. -/
def R.FAB_ROUTE_AVC : Fld := ⟨310, 1, .rw, .const 0, .any⟩
/-- FAB_ROUTE_k, R368: [8:8], RW. -/
def R.FAB_ROUTE_ALT_EN : Fld := ⟨311, 1, .rw, .const 0, .any⟩
/-- FAB_ROUTE_k, R368: [9:9], RW. -/
def R.FAB_ROUTE_VALID : Fld := ⟨312, 1, .rw, .const 0, .any⟩
/-- FAB_ROUTE_k, R368: [10:10], RO. -/
def R.FAB_ROUTE_USING_ALT : Fld := ⟨313, 1, .ro, .const 0, .any⟩
/-- FAB_PORT_m STATUS, R369: [2:0], RO. -/
def R.FAB_PORT_STATUS_STATE : Fld := ⟨314, 3, .ro, .const 0, .any⟩
/-- FAB_PORT_m STATUS, R369: [4:3], RO. -/
def R.FAB_PORT_STATUS_LANES : Fld := ⟨315, 2, .ro, .const 0, .any⟩
/-- FAB_PORT_m STATUS, R369: [11:6], RO. -/
def R.FAB_PORT_STATUS_PEER_PKG : Fld := ⟨316, 6, .ro, .const 0, .any⟩
/-- FAB_PORT_m STATUS, R369: [14:12], RO. -/
def R.FAB_PORT_STATUS_PEER_PORT : Fld := ⟨317, 3, .ro, .const 0, .any⟩
/-- FAB_PORT_m STATUS, R369: [19:16], RO. -/
def R.FAB_PORT_STATUS_CAUSE : Fld := ⟨318, 4, .ro, .const 0, .any⟩
/-- FAB_PORT_m CREDIT, R369: [6:0], RO. -/
def R.FAB_PORT_CREDIT_REQ0 : Fld := ⟨319, 7, .ro, .const 0, .any⟩
/-- FAB_PORT_m CREDIT, R369: [14:8], RO. -/
def R.FAB_PORT_CREDIT_REQ1 : Fld := ⟨320, 7, .ro, .const 0, .any⟩
/-- FAB_PORT_m CREDIT, R369: [22:16], RO. -/
def R.FAB_PORT_CREDIT_RSP0 : Fld := ⟨321, 7, .ro, .const 0, .any⟩
/-- FAB_PORT_m CREDIT, R369: [30:24], RO. -/
def R.FAB_PORT_CREDIT_RSP1 : Fld := ⟨322, 7, .ro, .const 0, .any⟩
/-- FAB_PORT_m CREDIT, R369: [31:31], RO. -/
def R.FAB_PORT_CREDIT_STALL : Fld := ⟨323, 1, .ro, .const 0, .any⟩
/-- FAB_PORT_m BAD, R369: [31:0], RC. -/
def R.FAB_PORT_BAD_COUNT : Fld := ⟨324, 32, .rc, .const 0, .any⟩
/-- FAB_PORT_m DOWNS, R369: [31:0], RC. -/
def R.FAB_PORT_DOWNS_COUNT : Fld := ⟨325, 32, .rc, .const 0, .any⟩
/-- FAB_WIN_w CTL, R370: [0:0], RW. -/
def R.FAB_WIN_CTL_OPEN : Fld := ⟨326, 1, .rw, .const 0, .any⟩
/-- FAB_WIN_w CTL, R370: [1:1], RW. -/
def R.FAB_WIN_CTL_RD_EN : Fld := ⟨327, 1, .rw, .const 0, .any⟩
/-- FAB_WIN_w CTL, R370: [2:2], RW. -/
def R.FAB_WIN_CTL_WR_EN : Fld := ⟨328, 1, .rw, .const 0, .any⟩
/-- FAB_WIN_w CTL, R370: [3:3], RW. -/
def R.FAB_WIN_CTL_BELL : Fld := ⟨329, 1, .rw, .const 0, .any⟩
/-- FAB_WIN_w CTL, R370: [15:4], RW. -/
def R.FAB_WIN_CTL_CTX : Fld := ⟨330, 12, .rw, .const 0, .any⟩
/-- FAB_WIN_w CTL, R370: [16:16], RO. -/
def R.FAB_WIN_CTL_DRAINED : Fld := ⟨331, 1, .ro, .const 1, .any⟩
/-- FAB_WIN_w BASE, R370: [47:16], RW. -/
def R.FAB_WIN_BASE_ADDR : Fld := ⟨332, 32, .rw, .const 0, .any⟩
/-- FAB_WIN_w SIZE, R370: [16:0], RW. -/
def R.FAB_WIN_SIZE_PAGES : Fld := ⟨333, 17, .rw, .const 0, .any⟩
/-- FAB_WIN_w JOB_SEM, R370: [15:0], RW. -/
def R.FAB_WIN_JOB_SEM_JOB : Fld := ⟨334, 16, .rw, .const 0, .any⟩
/-- FAB_WIN_w JOB_SEM, R370: [29:16], RW. -/
def R.FAB_WIN_JOB_SEM_SEM : Fld := ⟨335, 14, .rw, .const 0, .any⟩
/-- FAB_WIN_w PEERS, R370: [63:0], RW. -/
def R.FAB_WIN_PEERS_MASK : Fld := ⟨336, 64, .rw, .const 0, .any⟩
/-- FAB_WIN_w ACCEPT, R370: [31:0], RC. -/
def R.FAB_WIN_ACCEPT_COUNT : Fld := ⟨337, 32, .rc, .const 0, .any⟩
/-- FAB_WIN_w NACK, R370: [31:0], RC. -/
def R.FAB_WIN_NACK_COUNT : Fld := ⟨338, 32, .rc, .const 0, .any⟩
/-- FAB_PART_p w0, R370: [15:0], RW. -/
def R.FAB_PART_W0_JOB : Fld := ⟨339, 16, .rw, .const 0, .any⟩
/-- FAB_PART_p w0, R370: [16:16], RW. -/
def R.FAB_PART_W0_EN : Fld := ⟨340, 1, .rw, .const 0, .any⟩
/-- FAB_PART_p w1, R370: [9:0], RW. -/
def R.FAB_PART_W1_LIMIT : Fld := ⟨341, 10, .rw, .const 256, .range 1 1023⟩
/-- FAB_PART_p w1, R370: [25:16], RO. -/
def R.FAB_PART_W1_INFLIGHT : Fld := ⟨342, 10, .ro, .const 0, .any⟩
/-- FAB_PORT_m NBR_UID_0, R538: [31:0], RO. -/
def R.FAB_PORT_NBR_UID_UID : Fld := ⟨746, 32, .ro, .const 0, .any⟩
/-- FAB_PORT_m NBR, R538: [5:0], RO. -/
def R.FAB_PORT_NBR_PKG : Fld := ⟨747, 6, .ro, .const 0, .any⟩
/-- FAB_PORT_m NBR, R538: [6:6], RO. -/
def R.FAB_PORT_NBR_PKG_VALID : Fld := ⟨748, 1, .ro, .const 0, .any⟩
/-- FAB_PORT_m NBR, R538: [9:7], RO. -/
def R.FAB_PORT_NBR_PORT : Fld := ⟨749, 3, .ro, .const 0, .any⟩

/-- Registers of the FAB_ block, part 0 (offsets within the block). -/
def regsFab0 : List RegDef :=
  [
  ⟨"FAB_ID", 0x0, 0x0, 1, 1,
    [⟨R.FAB_ID_PACKAGE, 0, 1, 0⟩, ⟨R.FAB_ID_VALID, 6, 1, 0⟩]⟩,
  ⟨"FAB_CFG", 0x4, 0x0, 1, 1,
    [⟨R.FAB_CFG_ENABLE, 0, 1, 0⟩, ⟨R.FAB_CFG_PORT_EN, 1, 1, 0⟩]⟩,
  ⟨"FAB_TIMEOUT", 0x8, 0x0, 1, 1,
    [⟨R.FAB_TIMEOUT_LINK_US, 0, 1, 0⟩, ⟨R.FAB_TIMEOUT_E2E_MS, 8, 1, 0⟩, ⟨R.FAB_TIMEOUT_PEER_US, 16, 1, 0⟩]⟩,
  ⟨"FAB_PERIOD", 0xc, 0x0, 1, 1,
    [⟨R.FAB_PERIOD_PRESENCE_US, 0, 1, 0⟩, ⟨R.FAB_PERIOD_DIGEST_MS, 8, 1, 0⟩, ⟨R.FAB_PERIOD_SETTLE_MS, 16, 1, 0⟩, ⟨R.FAB_PERIOD_RESTORE_MS, 24, 1, 0⟩]⟩,
  ⟨"FAB_PEER_MASK", 0x10, 0x0, 1, 2,
    [⟨R.FAB_PEER_MASK_MASK, 0, 1, 0⟩]⟩,
  ⟨"FAB_PEER_UP", 0x18, 0x0, 1, 2,
    [⟨R.FAB_PEER_UP_UP, 0, 1, 0⟩]⟩,
  ⟨"FAB_PEER_LOST", 0x20, 0x0, 1, 2,
    [⟨R.FAB_PEER_LOST_LOST, 0, 1, 0⟩]⟩,
  ⟨"FAB_DIGEST_MISMATCH", 0x28, 0x0, 1, 2,
    [⟨R.FAB_DIGEST_MISMATCH_DIFF, 0, 1, 0⟩]⟩,
  ⟨"FAB_EVENT", 0x30, 0x0, 1, 1,
    [⟨R.FAB_EVENT_PORT_DOWN, 0, 1, 0⟩, ⟨R.FAB_EVENT_ROUTE_SWITCH, 1, 1, 0⟩, ⟨R.FAB_EVENT_ROUTE_LOST, 2, 1, 0⟩, ⟨R.FAB_EVENT_PEER_LOST, 3, 1, 0⟩, ⟨R.FAB_EVENT_DIGEST_MISMATCH, 4, 1, 0⟩, ⟨R.FAB_EVENT_NACK, 5, 1, 0⟩, ⟨R.FAB_EVENT_E2E_TIMEOUT, 6, 1, 0⟩]⟩,
  ⟨"FAB_EVENT_MASK", 0x34, 0x0, 1, 1,
    [⟨R.FAB_EVENT_MASK_EN, 0, 1, 0⟩]⟩,
  ⟨"FAB_NACK_LAST", 0x38, 0x0, 1, 1,
    [⟨R.FAB_NACK_LAST_CODE, 0, 1, 0⟩, ⟨R.FAB_NACK_LAST_CLASS, 4, 1, 0⟩, ⟨R.FAB_NACK_LAST_PEER, 8, 1, 0⟩, ⟨R.FAB_NACK_LAST_WINDOW, 14, 1, 0⟩, ⟨R.FAB_NACK_LAST_VALID, 31, 1, 0⟩]⟩,
  ⟨"FAB_DUP", 0x3c, 0x0, 1, 1,
    [⟨R.FAB_DUP_COUNT, 0, 1, 0⟩]⟩ ]

/-- Registers of the FAB_ block, part 1 (offsets within the block). -/
def regsFab1 : List RegDef :=
  [
  ⟨"FAB_DIGEST_CTL", 0x40, 0x0, 1, 1,
    [⟨R.FAB_DIGEST_CTL_GROUP, 0, 1, 0⟩, ⟨R.FAB_DIGEST_CTL_AUTO, 16, 1, 0⟩, ⟨R.FAB_DIGEST_CTL_COMMIT, 17, 1, 0⟩, ⟨R.FAB_DIGEST_CTL_DIRTY, 18, 1, 0⟩, ⟨R.FAB_DIGEST_CTL_BUSY, 19, 1, 0⟩]⟩,
  ⟨"FAB_DIGEST_EPOCH", 0x44, 0x0, 1, 1,
    [⟨R.FAB_DIGEST_EPOCH_EPOCH, 0, 1, 0⟩]⟩,
  ⟨"FAB_DROP", 0x48, 0x0, 1, 1,
    [⟨R.FAB_DROP_COUNT, 0, 1, 0⟩]⟩,
  ⟨"FAB_E2E_TO", 0x4c, 0x0, 1, 1,
    [⟨R.FAB_E2E_TO_COUNT, 0, 1, 0⟩]⟩,
  ⟨"FAB_DIGEST_VALUE", 0x60, 0x4, 8, 1,
    [⟨R.FAB_DIGEST_VALUE_BYTES, 0, 1, 0⟩]⟩,
  ⟨"FAB_DIGEST_TABLE_ADDR", 0x80, 0x10, 16, 2,
    [⟨R.FAB_DIGEST_TABLE_ADDR_PA, 6, 1, 0⟩, ⟨R.FAB_DIGEST_TABLE_ADDR_EN, 63, 1, 0⟩]⟩,
  ⟨"FAB_DIGEST_TABLE_LEN", 0x88, 0x10, 16, 1,
    [⟨R.FAB_DIGEST_TABLE_LEN_BYTES, 0, 1, 0⟩]⟩,
  ⟨"FAB_ROUTE", 0x200, 0x4, 64, 1,
    [⟨R.FAB_ROUTE_PRIMARY, 0, 1, 0⟩, ⟨R.FAB_ROUTE_PVC, 3, 1, 0⟩, ⟨R.FAB_ROUTE_ALT, 4, 1, 0⟩, ⟨R.FAB_ROUTE_AVC, 7, 1, 0⟩, ⟨R.FAB_ROUTE_ALT_EN, 8, 1, 0⟩, ⟨R.FAB_ROUTE_VALID, 9, 1, 0⟩, ⟨R.FAB_ROUTE_USING_ALT, 10, 1, 0⟩]⟩,
  ⟨"FAB_PORT_STATUS", 0x400, 0x40, 6, 1,
    [⟨R.FAB_PORT_STATUS_STATE, 0, 1, 0⟩, ⟨R.FAB_PORT_STATUS_LANES, 3, 1, 0⟩, ⟨R.FAB_PORT_STATUS_PEER_PKG, 6, 1, 0⟩, ⟨R.FAB_PORT_STATUS_PEER_PORT, 12, 1, 0⟩, ⟨R.FAB_PORT_STATUS_CAUSE, 16, 1, 0⟩]⟩,
  ⟨"FAB_PORT_CREDIT", 0x404, 0x40, 6, 1,
    [⟨R.FAB_PORT_CREDIT_REQ0, 0, 1, 0⟩, ⟨R.FAB_PORT_CREDIT_REQ1, 8, 1, 0⟩, ⟨R.FAB_PORT_CREDIT_RSP0, 16, 1, 0⟩, ⟨R.FAB_PORT_CREDIT_RSP1, 24, 1, 0⟩, ⟨R.FAB_PORT_CREDIT_STALL, 31, 1, 0⟩]⟩,
  ⟨"FAB_PORT_BAD", 0x408, 0x40, 6, 1,
    [⟨R.FAB_PORT_BAD_COUNT, 0, 1, 0⟩]⟩,
  ⟨"FAB_PORT_DOWNS", 0x40c, 0x40, 6, 1,
    [⟨R.FAB_PORT_DOWNS_COUNT, 0, 1, 0⟩]⟩ ]

/-- Registers of the FAB_ block, part 2 (offsets within the block). -/
def regsFab2 : List RegDef :=
  [
  ⟨"FAB_WIN_CTL", 0x1000, 0x40, 64, 1,
    [⟨R.FAB_WIN_CTL_OPEN, 0, 1, 0⟩, ⟨R.FAB_WIN_CTL_RD_EN, 1, 1, 0⟩, ⟨R.FAB_WIN_CTL_WR_EN, 2, 1, 0⟩, ⟨R.FAB_WIN_CTL_BELL, 3, 1, 0⟩, ⟨R.FAB_WIN_CTL_CTX, 4, 1, 0⟩, ⟨R.FAB_WIN_CTL_DRAINED, 16, 1, 0⟩]⟩,
  ⟨"FAB_WIN_BASE", 0x1008, 0x40, 64, 2,
    [⟨R.FAB_WIN_BASE_ADDR, 16, 1, 0⟩]⟩,
  ⟨"FAB_WIN_SIZE", 0x1010, 0x40, 64, 1,
    [⟨R.FAB_WIN_SIZE_PAGES, 0, 1, 0⟩]⟩,
  ⟨"FAB_WIN_JOB_SEM", 0x1014, 0x40, 64, 1,
    [⟨R.FAB_WIN_JOB_SEM_JOB, 0, 1, 0⟩, ⟨R.FAB_WIN_JOB_SEM_SEM, 16, 1, 0⟩]⟩,
  ⟨"FAB_WIN_PEERS", 0x1018, 0x40, 64, 2,
    [⟨R.FAB_WIN_PEERS_MASK, 0, 1, 0⟩]⟩,
  ⟨"FAB_WIN_ACCEPT", 0x1020, 0x40, 64, 1,
    [⟨R.FAB_WIN_ACCEPT_COUNT, 0, 1, 0⟩]⟩,
  ⟨"FAB_WIN_NACK", 0x1024, 0x40, 64, 1,
    [⟨R.FAB_WIN_NACK_COUNT, 0, 1, 0⟩]⟩,
  ⟨"FAB_PART_W0", 0x2000, 0x8, 16, 1,
    [⟨R.FAB_PART_W0_JOB, 0, 1, 0⟩, ⟨R.FAB_PART_W0_EN, 16, 1, 0⟩]⟩,
  ⟨"FAB_PART_W1", 0x2004, 0x8, 16, 1,
    [⟨R.FAB_PART_W1_LIMIT, 0, 1, 0⟩, ⟨R.FAB_PART_W1_INFLIGHT, 16, 1, 0⟩]⟩,
  ⟨"FAB_PORT_NBR_UID_0", 0x410, 0x40, 6, 1,
    [⟨R.FAB_PORT_NBR_UID_UID, 0, 4, 0⟩]⟩,
  ⟨"FAB_PORT_NBR_UID_1", 0x414, 0x40, 6, 1,
    [⟨R.FAB_PORT_NBR_UID_UID, 0, 4, 1⟩]⟩,
  ⟨"FAB_PORT_NBR_UID_2", 0x418, 0x40, 6, 1,
    [⟨R.FAB_PORT_NBR_UID_UID, 0, 4, 2⟩]⟩ ]

/-- Registers of the FAB_ block, part 3 (offsets within the block). -/
def regsFab3 : List RegDef :=
  [
  ⟨"FAB_PORT_NBR_UID_3", 0x41c, 0x40, 6, 1,
    [⟨R.FAB_PORT_NBR_UID_UID, 0, 4, 3⟩]⟩,
  ⟨"FAB_PORT_NBR", 0x420, 0x40, 6, 1,
    [⟨R.FAB_PORT_NBR_PKG, 0, 1, 0⟩, ⟨R.FAB_PORT_NBR_PKG_VALID, 6, 1, 0⟩, ⟨R.FAB_PORT_NBR_PORT, 7, 1, 0⟩]⟩ ]

/-- The registers of the FAB_ block. -/
def regsFab : List RegDef := regsFab0 ++ regsFab1 ++ regsFab2 ++ regsFab3

end Sys2Proof.Machine
end

