-- ==== Sys2Proof/Machine/RegsHub.lean ====
section
/-! DEFINITION. The fields and registers of the HUB_ block, from the field tables and offset tables of R486, R487, R508, R509, R511, R512, R518, R520, R524, R530, R532, R535. -/

namespace Sys2Proof.Machine

/-- HUB_RCV_CTL, R487: [0:0], RW. -/
def R.HUB_RCV_CTL_STALL_EN : Fld := ⟨547, 1, .rw, .const 1, .any⟩
/-- HUB_RCV_CTL, R487: [1:1], RW. -/
def R.HUB_RCV_CTL_CYCLE_EN : Fld := ⟨548, 1, .rw, .const 1, .any⟩
/-- HUB_RCV_CFG, R487: [15:0], RW. -/
def R.HUB_RCV_CFG_STALL : Fld := ⟨549, 16, .rw, .const 2500, .range 500 65535⟩
/-- HUB_RCV_CFG, R487: [31:16], RW. -/
def R.HUB_RCV_CFG_PROBE : Fld := ⟨550, 16, .rw, .const 15000, .range 1000 16000⟩
/-- HUB_RCV_CYCLE, R487: [15:0], RW. -/
def R.HUB_RCV_CYCLE_CONFIRM : Fld := ⟨551, 16, .rw, .const 5000, .range 100 65535⟩
/-- HUB_RCV_PART, R487: [15:0], RW. -/
def R.HUB_RCV_PART_REPLAY_EN : Fld := ⟨552, 16, .rw, .const 65535, .any⟩
/-- HUB_RCV_EVENT, R487: [0:0], W1C. -/
def R.HUB_RCV_EVENT_HANG : Fld := ⟨553, 1, .w1c, .const 0, .any⟩
/-- HUB_RCV_EVENT, R487: [1:1], W1C. -/
def R.HUB_RCV_EVENT_CYCLE : Fld := ⟨554, 1, .w1c, .const 0, .any⟩
/-- HUB_RCV_EVENT, R487: [2:2], W1C. -/
def R.HUB_RCV_EVENT_GUILTY : Fld := ⟨555, 1, .w1c, .const 0, .any⟩
/-- HUB_RCV_EVENT, R487: [3:3], W1C. -/
def R.HUB_RCV_EVENT_NOT_REPRODUCED : Fld := ⟨556, 1, .w1c, .const 0, .any⟩
/-- HUB_RCV_EVENT, R487: [4:4], W1C. -/
def R.HUB_RCV_EVENT_ESCALATED : Fld := ⟨557, 1, .w1c, .const 0, .any⟩
/-- HUB_RCV_EVENT, R487: [5:5], W1C. -/
def R.HUB_RCV_EVENT_RESET_DONE : Fld := ⟨558, 1, .w1c, .const 0, .any⟩
/-- HUB_RCV_EVENT_MASK, R487: [5:0], RW. -/
def R.HUB_RCV_EVENT_MASK_EN : Fld := ⟨559, 6, .rw, .const 0, .any⟩
/-- HUB_RCV_EVENT_MASK, R487: [26:16], RW. -/
def R.HUB_RCV_EVENT_MASK_VECTOR : Fld := ⟨560, 11, .rw, .const 0, .any⟩
/-- HUB_RCV_ACTIVE, R487: [63:0], RO. -/
def R.HUB_RCV_ACTIVE_CORES : Fld := ⟨561, 64, .ro, .const 0, .any⟩
/-- HUB_RCV_LAST, R487: [5:0], RO. -/
def R.HUB_RCV_LAST_CORE : Fld := ⟨562, 6, .ro, .const 0, .any⟩
/-- HUB_RCV_LAST, R487: [7:6], RO. -/
def R.HUB_RCV_LAST_KIND : Fld := ⟨563, 2, .ro, .const 0, .any⟩
/-- HUB_RCV_LAST, R487: [19:8], RO. -/
def R.HUB_RCV_LAST_CTX : Fld := ⟨564, 12, .ro, .const 0, .any⟩
/-- HUB_RCV_LAST, R487: [31:31], W1C. -/
def R.HUB_RCV_LAST_VALID : Fld := ⟨565, 1, .w1c, .const 0, .any⟩
/-- HUB_RCV_HANGS, R487: [31:0], RC. -/
def R.HUB_RCV_HANGS_COUNT : Fld := ⟨566, 32, .rc, .const 0, .any⟩
/-- HUB_RCV_GUILTY, R487: [31:0], RC. -/
def R.HUB_RCV_GUILTY_COUNT : Fld := ⟨567, 32, .rc, .const 0, .any⟩
/-- HUB_RCV_UNREPRO, R487: [31:0], RC. -/
def R.HUB_RCV_UNREPRO_COUNT : Fld := ⟨568, 32, .rc, .const 0, .any⟩
/-- HUB_RCV_ESCALATE, R487: [31:0], RC. -/
def R.HUB_RCV_ESCALATE_COUNT : Fld := ⟨569, 32, .rc, .const 0, .any⟩
/-- HUB_RESET_CMD, R487: [2:0], WO. -/
def R.HUB_RESET_CMD_DOMAIN : Fld := ⟨570, 3, .wo, .const 0, .range 0 4⟩
/-- HUB_RESET_CMD, R487: [13:8], RW. -/
def R.HUB_RESET_CMD_INDEX : Fld := ⟨571, 6, .rw, .const 0, .any⟩
/-- HUB_RESET_STATUS, R487: [0:0], RO. -/
def R.HUB_RESET_STATUS_BUSY : Fld := ⟨572, 1, .ro, .const 0, .any⟩
/-- HUB_RESET_STATUS, R487: [1:1], W1C. -/
def R.HUB_RESET_STATUS_DONE : Fld := ⟨573, 1, .w1c, .const 0, .any⟩
/-- HUB_RESET_STATUS, R487: [2:2], W1C. -/
def R.HUB_RESET_STATUS_FAILED : Fld := ⟨574, 1, .w1c, .const 0, .any⟩
/-- HUB_RESET_STATUS, R487: [3:3], W1C. -/
def R.HUB_RESET_STATUS_DRAM_LOST : Fld := ⟨575, 1, .w1c, .const 0, .any⟩
/-- HUB_WAY_w, R509: [0:0], RW. -/
def R.HUB_WAY_MODE : Fld := ⟨619, 1, .rw, .const 0, .any⟩
/-- HUB_WAY_w, R509: [4:1], RW. -/
def R.HUB_WAY_PART : Fld := ⟨620, 4, .rw, .const 0, .any⟩
/-- HUB_WAY_w, R509: [5:5], RW. -/
def R.HUB_WAY_PART_VALID : Fld := ⟨621, 1, .rw, .const 0, .any⟩
/-- HUB_WAY_w, R509: [6:6], RO. -/
def R.HUB_WAY_BUSY : Fld := ⟨622, 1, .ro, .const 0, .any⟩
/-- HUB_ID, R512: [15:0], RO. -/
def R.HUB_ID_PART : Fld := ⟨623, 16, .ro, .const 1124, .any⟩
/-- HUB_ID, R512: [23:16], RO. -/
def R.HUB_ID_STEPPING : Fld := ⟨624, 8, .ro, .const 177, .any⟩
/-- HUB_UID_i, R512: [31:0], RO. -/
def R.HUB_UID_UID : Fld := ⟨625, 32, .ro, .fusedUid, .any⟩
/-- HUB_BOOT, R535: [3:0], RO. -/
def R.HUB_BOOT_STAGE : Fld := ⟨626, 4, .ro, .const 0, .any⟩
/-- HUB_BOOT, R535: [7:4], RO. -/
def R.HUB_BOOT_ERR : Fld := ⟨627, 4, .ro, .const 0, .any⟩
/-- HUB_BOOT, R535: [9:8], RO. -/
def R.HUB_BOOT_RATE : Fld := ⟨628, 2, .ro, .const 0, .any⟩
/-- HUB_BOOT, R535: [13:10], RO. -/
def R.HUB_BOOT_DIE_OK : Fld := ⟨629, 4, .ro, .const 0, .any⟩
/-- HUB_VF_v CFG, R518: [10:0], RW. -/
def R.HUB_VF_CFG_VEC_BASE : Fld := ⟨630, 11, .rw, .const 0, .any⟩
/-- HUB_VF_v CFG, R518: [23:12], RW. -/
def R.HUB_VF_CFG_VEC_COUNT : Fld := ⟨631, 12, .rw, .const 0, .range 0 2048⟩
/-- HUB_VF_v MEM, R518: [11:0], RW. -/
def R.HUB_VF_MEM_CTX : Fld := ⟨632, 12, .rw, .const 0, .any⟩
/-- HUB_VF_v MEM, R518: [12:12], RW. -/
def R.HUB_VF_MEM_EN : Fld := ⟨633, 1, .rw, .const 0, .any⟩
/-- HUB_VF_v MEM_BASE, R518: [47:16], RW. -/
def R.HUB_VF_MEM_BASE_ADDR : Fld := ⟨634, 32, .rw, .const 0, .any⟩
/-- HUB_MSI_DROP, R520: [31:0], RC. -/
def R.HUB_MSI_DROP_COUNT : Fld := ⟨635, 32, .rc, .const 0, .any⟩
/-- HUB_FAB_IRQ, R520: [10:0], RW. -/
def R.HUB_FAB_IRQ_VECTOR : Fld := ⟨636, 11, .rw, .const 0, .any⟩
/-- HUB_UART CFG, R530: [21:0], RW. -/
def R.HUB_UART_CFG_BAUD : Fld := ⟨637, 22, .rw, .const 115200, .range 9600 3000000⟩
/-- HUB_UART CFG, R530: [22:22], RW. -/
def R.HUB_UART_CFG_EN : Fld := ⟨638, 1, .rw, .const 0, .any⟩
/-- HUB_UART STATUS, R530: [6:0], RO. -/
def R.HUB_UART_STATUS_RX_LEVEL : Fld := ⟨639, 7, .ro, .const 0, .any⟩
/-- HUB_UART STATUS, R530: [14:8], RO. -/
def R.HUB_UART_STATUS_TX_LEVEL : Fld := ⟨640, 7, .ro, .const 0, .any⟩
/-- HUB_UART STATUS, R530: [15:15], RO. -/
def R.HUB_UART_STATUS_TX_BUSY : Fld := ⟨641, 1, .ro, .const 0, .any⟩
/-- HUB_UART DATA, R530: [7:0], RW. -/
def R.HUB_UART_DATA_BYTE : Fld := ⟨642, 8, .rw, .const 0, .any⟩
/-- HUB_UART DATA, R530: [8:8], RO. -/
def R.HUB_UART_DATA_VALID : Fld := ⟨643, 1, .ro, .const 0, .any⟩
/-- HUB_UART ERRS, R530: [9:0], RC. -/
def R.HUB_UART_ERRS_FRAMING : Fld := ⟨644, 10, .rc, .const 0, .any⟩
/-- HUB_UART ERRS, R530: [19:10], RC. -/
def R.HUB_UART_ERRS_NOISE : Fld := ⟨645, 10, .rc, .const 0, .any⟩
/-- HUB_UART ERRS, R530: [29:20], RC. -/
def R.HUB_UART_ERRS_OVERRUN : Fld := ⟨646, 10, .rc, .const 0, .any⟩
/-- HUB_I2C_m CFG, R532: [0:0], RW. -/
def R.HUB_I2C_CFG_EN : Fld := ⟨647, 1, .rw, .const 0, .any⟩
/-- HUB_I2C_m CFG, R532: [2:1], RW. -/
def R.HUB_I2C_CFG_SPEED : Fld := ⟨648, 2, .rw, .const 0, .any⟩
/-- HUB_I2C_m CFG, R532: [15:8], RW. -/
def R.HUB_I2C_CFG_STUCK_MS : Fld := ⟨649, 8, .rw, .const 25, .range 1 255⟩
/-- HUB_I2C_m CMD, R532: [6:0], WO. -/
def R.HUB_I2C_CMD_ADDR : Fld := ⟨650, 7, .wo, .const 0, .any⟩
/-- HUB_I2C_m CMD, R532: [7:7], WO. -/
def R.HUB_I2C_CMD_READ : Fld := ⟨651, 1, .wo, .const 0, .any⟩
/-- HUB_I2C_m CMD, R532: [15:8], WO. -/
def R.HUB_I2C_CMD_LEN : Fld := ⟨652, 8, .wo, .const 0, .range 1 255⟩
/-- HUB_I2C_m CMD, R532: [16:16], WO. -/
def R.HUB_I2C_CMD_STOP : Fld := ⟨653, 1, .wo, .const 0, .any⟩
/-- HUB_I2C_m CMD, R532: [18:17], WO. -/
def R.HUB_I2C_CMD_KIND : Fld := ⟨654, 2, .wo, .const 0, .range 0 2⟩
/-- HUB_I2C_m CMD, R532: [26:19], WO. -/
def R.HUB_I2C_CMD_CCC : Fld := ⟨655, 8, .wo, .const 0, .any⟩
/-- HUB_I2C_m DATA, R532: [7:0], RW. -/
def R.HUB_I2C_DATA_BYTE : Fld := ⟨656, 8, .rw, .const 0, .any⟩
/-- HUB_I2C_m DATA, R532: [8:8], RO. -/
def R.HUB_I2C_DATA_VALID : Fld := ⟨657, 1, .ro, .const 0, .any⟩
/-- HUB_I2C_m STATUS, R532: [0:0], RO. -/
def R.HUB_I2C_STATUS_BUSY : Fld := ⟨658, 1, .ro, .const 0, .any⟩
/-- HUB_I2C_m STATUS, R532: [1:1], W1C. -/
def R.HUB_I2C_STATUS_DONE : Fld := ⟨659, 1, .w1c, .const 0, .any⟩
/-- HUB_I2C_m STATUS, R532: [2:2], W1C. -/
def R.HUB_I2C_STATUS_NACK : Fld := ⟨660, 1, .w1c, .const 0, .any⟩
/-- HUB_I2C_m STATUS, R532: [3:3], W1C. -/
def R.HUB_I2C_STATUS_STUCK : Fld := ⟨661, 1, .w1c, .const 0, .any⟩
/-- HUB_I2C_m STATUS, R532: [4:4], W1C. -/
def R.HUB_I2C_STATUS_IBI : Fld := ⟨662, 1, .w1c, .const 0, .any⟩
/-- HUB_I2C_m STATUS, R532: [11:5], RO. -/
def R.HUB_I2C_STATUS_IBI_ADDR : Fld := ⟨663, 7, .ro, .const 0, .any⟩
/-- HUB_I2C_m STATUS, R532: [18:12], RO. -/
def R.HUB_I2C_STATUS_RX_LEVEL : Fld := ⟨664, 7, .ro, .const 0, .any⟩
/-- HUB_ETH_n CTL, R524: [0:0], RW. -/
def R.HUB_ETH_CTL_EN : Fld := ⟨665, 1, .rw, .const 0, .any⟩
/-- HUB_ETH_n CTL, R524: [1:1], RW. -/
def R.HUB_ETH_CTL_FEC : Fld := ⟨666, 1, .rw, .const 1, .any⟩
/-- HUB_ETH_n CTL, R524: [2:2], RW. -/
def R.HUB_ETH_CTL_PTP : Fld := ⟨667, 1, .rw, .const 0, .any⟩
/-- HUB_ETH_n CTL, R524: [3:3], RW. -/
def R.HUB_ETH_CTL_REQ_EN : Fld := ⟨668, 1, .rw, .const 0, .any⟩
/-- HUB_ETH_n CTL, R524: [31:16], RW. -/
def R.HUB_ETH_CTL_MGMT_ETYPE : Fld := ⟨669, 16, .rw, .const 0, .any⟩
/-- HUB_ETH_n RX_BASE, R524: [63:11], RW. -/
def R.HUB_ETH_RX_BASE_ADDR : Fld := ⟨670, 53, .rw, .const 0, .any⟩
/-- HUB_ETH_n TX_BASE, R524: [63:11], RW. -/
def R.HUB_ETH_TX_BASE_ADDR : Fld := ⟨671, 53, .rw, .const 0, .any⟩
/-- HUB_ETH_n RX_PTR, R524: [7:0], RO. -/
def R.HUB_ETH_RX_PTR_HEAD : Fld := ⟨672, 8, .ro, .const 0, .any⟩
/-- HUB_ETH_n RX_PTR, R524: [15:8], RW. -/
def R.HUB_ETH_RX_PTR_TAIL : Fld := ⟨673, 8, .rw, .const 0, .any⟩
/-- HUB_ETH_n TX_PTR, R524: [7:0], RO. -/
def R.HUB_ETH_TX_PTR_HEAD : Fld := ⟨674, 8, .ro, .const 0, .any⟩
/-- HUB_ETH_n TX_PTR, R524: [15:8], RW. -/
def R.HUB_ETH_TX_PTR_TAIL : Fld := ⟨675, 8, .rw, .const 0, .any⟩
/-- HUB_ETH_n REQ, R524: [15:0], RW. -/
def R.HUB_ETH_REQ_ETYPE : Fld := ⟨676, 16, .rw, .const 0, .any⟩
/-- HUB_ETH_n REQ, R524: [30:16], RW. -/
def R.HUB_ETH_REQ_QUEUE : Fld := ⟨677, 15, .rw, .const 0, .any⟩
/-- HUB_ETH_n DROP, R524: [31:0], RC. -/
def R.HUB_ETH_DROP_COUNT : Fld := ⟨678, 32, .rc, .const 0, .any⟩
/-- HUB_ETH_n IRQ, R524: [10:0], RW. -/
def R.HUB_ETH_IRQ_VECTOR : Fld := ⟨679, 11, .rw, .const 0, .any⟩
/-- HUB_ETH_n IRQ, R524: [11:11], RW. -/
def R.HUB_ETH_IRQ_EN : Fld := ⟨680, 1, .rw, .const 0, .any⟩

/-- Registers of the HUB_ block, part 0 (offsets within the block). -/
def regsHub0 : List RegDef :=
  [
  ⟨"HUB_RCV_CTL", 0x80000, 0x0, 1, 1,
    [⟨R.HUB_RCV_CTL_STALL_EN, 0, 1, 0⟩, ⟨R.HUB_RCV_CTL_CYCLE_EN, 1, 1, 0⟩]⟩,
  ⟨"HUB_RCV_CFG", 0x80004, 0x0, 1, 1,
    [⟨R.HUB_RCV_CFG_STALL, 0, 1, 0⟩, ⟨R.HUB_RCV_CFG_PROBE, 16, 1, 0⟩]⟩,
  ⟨"HUB_RCV_CYCLE", 0x80008, 0x0, 1, 1,
    [⟨R.HUB_RCV_CYCLE_CONFIRM, 0, 1, 0⟩]⟩,
  ⟨"HUB_RCV_PART", 0x8000c, 0x0, 1, 1,
    [⟨R.HUB_RCV_PART_REPLAY_EN, 0, 1, 0⟩]⟩,
  ⟨"HUB_RCV_EVENT", 0x80010, 0x0, 1, 1,
    [⟨R.HUB_RCV_EVENT_HANG, 0, 1, 0⟩, ⟨R.HUB_RCV_EVENT_CYCLE, 1, 1, 0⟩, ⟨R.HUB_RCV_EVENT_GUILTY, 2, 1, 0⟩, ⟨R.HUB_RCV_EVENT_NOT_REPRODUCED, 3, 1, 0⟩, ⟨R.HUB_RCV_EVENT_ESCALATED, 4, 1, 0⟩, ⟨R.HUB_RCV_EVENT_RESET_DONE, 5, 1, 0⟩]⟩,
  ⟨"HUB_RCV_EVENT_MASK", 0x80014, 0x0, 1, 1,
    [⟨R.HUB_RCV_EVENT_MASK_EN, 0, 1, 0⟩, ⟨R.HUB_RCV_EVENT_MASK_VECTOR, 16, 1, 0⟩]⟩,
  ⟨"HUB_RCV_ACTIVE", 0x80018, 0x0, 1, 2,
    [⟨R.HUB_RCV_ACTIVE_CORES, 0, 1, 0⟩]⟩,
  ⟨"HUB_RCV_LAST", 0x80020, 0x0, 1, 1,
    [⟨R.HUB_RCV_LAST_CORE, 0, 1, 0⟩, ⟨R.HUB_RCV_LAST_KIND, 6, 1, 0⟩, ⟨R.HUB_RCV_LAST_CTX, 8, 1, 0⟩, ⟨R.HUB_RCV_LAST_VALID, 31, 1, 0⟩]⟩,
  ⟨"HUB_RCV_HANGS", 0x80030, 0x0, 1, 1,
    [⟨R.HUB_RCV_HANGS_COUNT, 0, 1, 0⟩]⟩,
  ⟨"HUB_RCV_GUILTY", 0x80034, 0x0, 1, 1,
    [⟨R.HUB_RCV_GUILTY_COUNT, 0, 1, 0⟩]⟩,
  ⟨"HUB_RCV_UNREPRO", 0x80038, 0x0, 1, 1,
    [⟨R.HUB_RCV_UNREPRO_COUNT, 0, 1, 0⟩]⟩,
  ⟨"HUB_RCV_ESCALATE", 0x8003c, 0x0, 1, 1,
    [⟨R.HUB_RCV_ESCALATE_COUNT, 0, 1, 0⟩]⟩ ]

/-- Registers of the HUB_ block, part 1 (offsets within the block). -/
def regsHub1 : List RegDef :=
  [
  ⟨"HUB_RESET_CMD", 0x80040, 0x0, 1, 1,
    [⟨R.HUB_RESET_CMD_DOMAIN, 0, 1, 0⟩, ⟨R.HUB_RESET_CMD_INDEX, 8, 1, 0⟩]⟩,
  ⟨"HUB_RESET_STATUS", 0x80044, 0x0, 1, 1,
    [⟨R.HUB_RESET_STATUS_BUSY, 0, 1, 0⟩, ⟨R.HUB_RESET_STATUS_DONE, 1, 1, 0⟩, ⟨R.HUB_RESET_STATUS_FAILED, 2, 1, 0⟩, ⟨R.HUB_RESET_STATUS_DRAM_LOST, 3, 1, 0⟩]⟩,
  ⟨"HUB_WAY", 0x90000, 0x4, 16, 1,
    [⟨R.HUB_WAY_MODE, 0, 1, 0⟩, ⟨R.HUB_WAY_PART, 1, 1, 0⟩, ⟨R.HUB_WAY_PART_VALID, 5, 1, 0⟩, ⟨R.HUB_WAY_BUSY, 6, 1, 0⟩]⟩,
  ⟨"HUB_ID", 0x0, 0x0, 1, 1,
    [⟨R.HUB_ID_PART, 0, 1, 0⟩, ⟨R.HUB_ID_STEPPING, 16, 1, 0⟩]⟩,
  ⟨"HUB_UID", 0x10, 0x4, 4, 1,
    [⟨R.HUB_UID_UID, 0, 1, 0⟩]⟩,
  ⟨"HUB_BOOT", 0x100, 0x0, 1, 1,
    [⟨R.HUB_BOOT_STAGE, 0, 1, 0⟩, ⟨R.HUB_BOOT_ERR, 4, 1, 0⟩, ⟨R.HUB_BOOT_RATE, 8, 1, 0⟩, ⟨R.HUB_BOOT_DIE_OK, 10, 1, 0⟩]⟩,
  ⟨"HUB_VF_CFG", 0x10000, 0x20, 16, 1,
    [⟨R.HUB_VF_CFG_VEC_BASE, 0, 1, 0⟩, ⟨R.HUB_VF_CFG_VEC_COUNT, 12, 1, 0⟩]⟩,
  ⟨"HUB_VF_MEM", 0x10004, 0x20, 16, 1,
    [⟨R.HUB_VF_MEM_CTX, 0, 1, 0⟩, ⟨R.HUB_VF_MEM_EN, 12, 1, 0⟩]⟩,
  ⟨"HUB_VF_MEM_BASE", 0x10008, 0x20, 16, 2,
    [⟨R.HUB_VF_MEM_BASE_ADDR, 16, 1, 0⟩]⟩,
  ⟨"HUB_MSI_DROP", 0x20000, 0x0, 1, 1,
    [⟨R.HUB_MSI_DROP_COUNT, 0, 1, 0⟩]⟩,
  ⟨"HUB_FAB_IRQ", 0x20004, 0x0, 1, 1,
    [⟨R.HUB_FAB_IRQ_VECTOR, 0, 1, 0⟩]⟩,
  ⟨"HUB_UART_CFG", 0xa0000, 0x0, 1, 1,
    [⟨R.HUB_UART_CFG_BAUD, 0, 1, 0⟩, ⟨R.HUB_UART_CFG_EN, 22, 1, 0⟩]⟩ ]

/-- Registers of the HUB_ block, part 2 (offsets within the block). -/
def regsHub2 : List RegDef :=
  [
  ⟨"HUB_UART_STATUS", 0xa0004, 0x0, 1, 1,
    [⟨R.HUB_UART_STATUS_RX_LEVEL, 0, 1, 0⟩, ⟨R.HUB_UART_STATUS_TX_LEVEL, 8, 1, 0⟩, ⟨R.HUB_UART_STATUS_TX_BUSY, 15, 1, 0⟩]⟩,
  ⟨"HUB_UART_DATA", 0xa0008, 0x0, 1, 1,
    [⟨R.HUB_UART_DATA_BYTE, 0, 1, 0⟩, ⟨R.HUB_UART_DATA_VALID, 8, 1, 0⟩]⟩,
  ⟨"HUB_UART_ERRS", 0xa000c, 0x0, 1, 1,
    [⟨R.HUB_UART_ERRS_FRAMING, 0, 1, 0⟩, ⟨R.HUB_UART_ERRS_NOISE, 10, 1, 0⟩, ⟨R.HUB_UART_ERRS_OVERRUN, 20, 1, 0⟩]⟩,
  ⟨"HUB_I2C_CFG", 0xb0000, 0x100, 2, 1,
    [⟨R.HUB_I2C_CFG_EN, 0, 1, 0⟩, ⟨R.HUB_I2C_CFG_SPEED, 1, 1, 0⟩, ⟨R.HUB_I2C_CFG_STUCK_MS, 8, 1, 0⟩]⟩,
  ⟨"HUB_I2C_CMD", 0xb0004, 0x100, 2, 1,
    [⟨R.HUB_I2C_CMD_ADDR, 0, 1, 0⟩, ⟨R.HUB_I2C_CMD_READ, 7, 1, 0⟩, ⟨R.HUB_I2C_CMD_LEN, 8, 1, 0⟩, ⟨R.HUB_I2C_CMD_STOP, 16, 1, 0⟩, ⟨R.HUB_I2C_CMD_KIND, 17, 1, 0⟩, ⟨R.HUB_I2C_CMD_CCC, 19, 1, 0⟩]⟩,
  ⟨"HUB_I2C_DATA", 0xb0008, 0x100, 2, 1,
    [⟨R.HUB_I2C_DATA_BYTE, 0, 1, 0⟩, ⟨R.HUB_I2C_DATA_VALID, 8, 1, 0⟩]⟩,
  ⟨"HUB_I2C_STATUS", 0xb000c, 0x100, 2, 1,
    [⟨R.HUB_I2C_STATUS_BUSY, 0, 1, 0⟩, ⟨R.HUB_I2C_STATUS_DONE, 1, 1, 0⟩, ⟨R.HUB_I2C_STATUS_NACK, 2, 1, 0⟩, ⟨R.HUB_I2C_STATUS_STUCK, 3, 1, 0⟩, ⟨R.HUB_I2C_STATUS_IBI, 4, 1, 0⟩, ⟨R.HUB_I2C_STATUS_IBI_ADDR, 5, 1, 0⟩, ⟨R.HUB_I2C_STATUS_RX_LEVEL, 12, 1, 0⟩]⟩,
  ⟨"HUB_ETH_CTL", 0xc0000, 0x100, 2, 1,
    [⟨R.HUB_ETH_CTL_EN, 0, 1, 0⟩, ⟨R.HUB_ETH_CTL_FEC, 1, 1, 0⟩, ⟨R.HUB_ETH_CTL_PTP, 2, 1, 0⟩, ⟨R.HUB_ETH_CTL_REQ_EN, 3, 1, 0⟩, ⟨R.HUB_ETH_CTL_MGMT_ETYPE, 16, 1, 0⟩]⟩,
  ⟨"HUB_ETH_RX_BASE", 0xc0008, 0x100, 2, 2,
    [⟨R.HUB_ETH_RX_BASE_ADDR, 11, 1, 0⟩]⟩,
  ⟨"HUB_ETH_TX_BASE", 0xc0010, 0x100, 2, 2,
    [⟨R.HUB_ETH_TX_BASE_ADDR, 11, 1, 0⟩]⟩,
  ⟨"HUB_ETH_RX_PTR", 0xc0018, 0x100, 2, 1,
    [⟨R.HUB_ETH_RX_PTR_HEAD, 0, 1, 0⟩, ⟨R.HUB_ETH_RX_PTR_TAIL, 8, 1, 0⟩]⟩,
  ⟨"HUB_ETH_TX_PTR", 0xc001c, 0x100, 2, 1,
    [⟨R.HUB_ETH_TX_PTR_HEAD, 0, 1, 0⟩, ⟨R.HUB_ETH_TX_PTR_TAIL, 8, 1, 0⟩]⟩ ]

/-- Registers of the HUB_ block, part 3 (offsets within the block). -/
def regsHub3 : List RegDef :=
  [
  ⟨"HUB_ETH_REQ", 0xc0020, 0x100, 2, 1,
    [⟨R.HUB_ETH_REQ_ETYPE, 0, 1, 0⟩, ⟨R.HUB_ETH_REQ_QUEUE, 16, 1, 0⟩]⟩,
  ⟨"HUB_ETH_DROP", 0xc0024, 0x100, 2, 1,
    [⟨R.HUB_ETH_DROP_COUNT, 0, 1, 0⟩]⟩,
  ⟨"HUB_ETH_IRQ", 0xc0028, 0x100, 2, 1,
    [⟨R.HUB_ETH_IRQ_VECTOR, 0, 1, 0⟩, ⟨R.HUB_ETH_IRQ_EN, 11, 1, 0⟩]⟩ ]

/-- The registers of the HUB_ block. -/
def regsHub : List RegDef := regsHub0 ++ regsHub1 ++ regsHub2 ++ regsHub3

end Sys2Proof.Machine
end

