-- ==== Sys2Proof/Machine/RegsInp.lean ====
section
/-! DEFINITION. The fields and registers of the INP_ block, from the field tables and offset tables of R444. -/

namespace Sys2Proof.Machine

/-- INP_CTL, R444: [0:0], RW. -/
def R.INP_CTL_EN : Fld := ⟨681, 1, .rw, .const 0, .any⟩
/-- INP_PIPE_n CFG, R444: [0:0], RW. -/
def R.INP_PIPE_CFG_EN : Fld := ⟨682, 1, .rw, .const 0, .any⟩
/-- INP_PIPE_n CFG, R444: [1:1], RW. -/
def R.INP_PIPE_CFG_AUDIO : Fld := ⟨683, 1, .rw, .const 0, .any⟩
/-- INP_PIPE_n CFG, R444: [7:2], RW. -/
def R.INP_PIPE_CFG_SRC : Fld := ⟨684, 6, .rw, .const 0, .any⟩
/-- INP_PIPE_n CFG, R444: [11:8], RW. -/
def R.INP_PIPE_CFG_NCH_M1 : Fld := ⟨685, 4, .rw, .const 0, .any⟩
/-- INP_PIPE_n CFG, R444: [23:12], RW. -/
def R.INP_PIPE_CFG_CTX : Fld := ⟨686, 12, .rw, .const 0, .any⟩
/-- INP_PIPE_n CFG, R444: [25:24], RW. -/
def R.INP_PIPE_CFG_POLICY : Fld := ⟨687, 2, .rw, .const 0, .range 0 2⟩
/-- INP_PIPE_n CFG, R444: [27:26], RW. -/
def R.INP_PIPE_CFG_AUG_MODE : Fld := ⟨688, 2, .rw, .const 0, .range 0 2⟩
/-- INP_PIPE_n CFG, R444: [28:28], RW. -/
def R.INP_PIPE_CFG_ROI : Fld := ⟨689, 1, .rw, .const 0, .any⟩
/-- INP_PIPE_n CFG, R444: [29:29], RW. -/
def R.INP_PIPE_CFG_LUMA : Fld := ⟨690, 1, .rw, .const 0, .any⟩
/-- INP_PIPE_n OUT, R444: [3:0], RW. -/
def R.INP_PIPE_OUT_FMT : Fld := ⟨691, 4, .rw, .const 1, .oneOf [1, 3, 4, 5, 6]⟩
/-- INP_PIPE_n OUT, R444: [15:4], RW. -/
def R.INP_PIPE_OUT_OUT_W : Fld := ⟨692, 12, .rw, .const 16, .range 16 4095⟩
/-- INP_PIPE_n OUT, R444: [27:16], RW. -/
def R.INP_PIPE_OUT_OUT_H : Fld := ⟨693, 12, .rw, .const 16, .any⟩
/-- INP_PIPE_n DEST, R444: [63:0], RW. -/
def R.INP_PIPE_DEST_ADDR : Fld := ⟨694, 64, .rw, .const 0, .mult 512⟩
/-- INP_PIPE_n BATCH, R444: [4:0], RW. -/
def R.INP_PIPE_BATCH_BATCH : Fld := ⟨695, 5, .rw, .const 1, .range 1 28⟩
/-- INP_PIPE_n BATCH, R444: [12:6], RW. -/
def R.INP_PIPE_BATCH_DEPTH : Fld := ⟨696, 7, .rw, .const 1, .range 1 64⟩
/-- INP_PIPE_n BATCH, R444: [19:14], RW. -/
def R.INP_PIPE_BATCH_LOW : Fld := ⟨697, 6, .rw, .const 1, .any⟩
/-- INP_PIPE_n STRIDE, R444: [31:0], RW. -/
def R.INP_PIPE_STRIDE_BYTES : Fld := ⟨698, 32, .rw, .const 0, .mult 512⟩
/-- INP_PIPE_n SEM, R444: [13:0], RW. -/
def R.INP_PIPE_SEM_READY : Fld := ⟨699, 14, .rw, .const 0, .any⟩
/-- INP_PIPE_n SEM, R444: [29:16], RW. -/
def R.INP_PIPE_SEM_FREE : Fld := ⟨700, 14, .rw, .const 0, .any⟩
/-- INP_PIPE_n MASK, R444: [11:0], RW. -/
def R.INP_PIPE_MASK_FRAME_BITS : Fld := ⟨701, 12, .rw, .const 255, .any⟩
/-- INP_PIPE_n MASK, R444: [14:12], RW. -/
def R.INP_PIPE_MASK_AUDIO_BITS : Fld := ⟨702, 3, .rw, .const 7, .any⟩
/-- INP_PIPE_n MASK, R444: [31:16], RW. -/
def R.INP_PIPE_MASK_FILL : Fld := ⟨703, 16, .rw, .const 0, .any⟩
/-- INP_PIPE_n ROI_ADDR, R444: [63:0], RW. -/
def R.INP_PIPE_ROI_ADDR_ADDR : Fld := ⟨704, 64, .rw, .const 0, .mult 64⟩
/-- INP_PIPE_n AUG_ADDR, R444: [63:0], RW. -/
def R.INP_PIPE_AUG_ADDR_ADDR : Fld := ⟨705, 64, .rw, .const 0, .mult 64⟩
/-- INP_PIPE_n AUG_SEED, R444: [63:0], RW. -/
def R.INP_PIPE_AUG_SEED_SEED : Fld := ⟨706, 64, .rw, .const 0, .any⟩
/-- INP_PIPE_n JITTER, R444: [7:0], RW. -/
def R.INP_PIPE_JITTER_PIXELS : Fld := ⟨707, 8, .rw, .const 0, .range 0 127⟩
/-- INP_PIPE_n NORM_0, R444: [31:0], RW. -/
def R.INP_PIPE_NORM_VALUE : Fld := ⟨708, 32, .rw, .norm, .any⟩
/-- INP_PIPE_n STATUS, R444: [0:0], RO. -/
def R.INP_PIPE_STATUS_ACTIVE : Fld := ⟨709, 1, .ro, .const 0, .any⟩
/-- INP_PIPE_n STATUS, R444: [1:1], W1C. -/
def R.INP_PIPE_STATUS_LOW_WATER : Fld := ⟨710, 1, .w1c, .const 0, .any⟩
/-- INP_PIPE_n STATUS, R444: [2:2], W1C. -/
def R.INP_PIPE_STATUS_ERR : Fld := ⟨711, 1, .w1c, .const 0, .any⟩
/-- INP_PIPE_n STATUS, R444: [6:3], RO. -/
def R.INP_PIPE_STATUS_CLASS : Fld := ⟨712, 4, .ro, .const 0, .any⟩
/-- INP_PIPE_n BATCHES, R444: [31:0], RC. -/
def R.INP_PIPE_BATCHES_COUNT : Fld := ⟨713, 32, .rc, .const 0, .any⟩
/-- INP_PIPE_n SKIPPED, R444: [31:0], RC. -/
def R.INP_PIPE_SKIPPED_COUNT : Fld := ⟨714, 32, .rc, .const 0, .any⟩
/-- INP_PIPE_n REPLACED, R444: [31:0], RC. -/
def R.INP_PIPE_REPLACED_COUNT : Fld := ⟨715, 32, .rc, .const 0, .any⟩
/-- INP_PIPE_n FILLED, R444: [31:0], RC. -/
def R.INP_PIPE_FILLED_COUNT : Fld := ⟨716, 32, .rc, .const 0, .any⟩
/-- INP_PIPE_n ROI_STALE, R444: [31:0], RC. -/
def R.INP_PIPE_ROI_STALE_COUNT : Fld := ⟨717, 32, .rc, .const 0, .any⟩
/-- INP_PIPE_n ROI_CLIP, R444: [31:0], RC. -/
def R.INP_PIPE_ROI_CLIP_COUNT : Fld := ⟨718, 32, .rc, .const 0, .any⟩
/-- INP_PIPE_n AUG_MISS, R444: [31:0], RC. -/
def R.INP_PIPE_AUG_MISS_COUNT : Fld := ⟨719, 32, .rc, .const 0, .any⟩
/-- INP_PIPE_n DROPPED, R444: [31:0], RC. -/
def R.INP_PIPE_DROPPED_COUNT : Fld := ⟨720, 32, .rc, .const 0, .any⟩
/-- INP_PIPE_n IRQ, R444: [10:0], RW. -/
def R.INP_PIPE_IRQ_VECTOR : Fld := ⟨721, 11, .rw, .const 0, .any⟩
/-- INP_PIPE_n IRQ, R444: [11:11], RW. -/
def R.INP_PIPE_IRQ_EN : Fld := ⟨722, 1, .rw, .const 0, .any⟩

/-- Registers of the INP_ block, part 0 (offsets within the block). -/
def regsInp0 : List RegDef :=
  [
  ⟨"INP_CTL", 0x0, 0x0, 1, 1,
    [⟨R.INP_CTL_EN, 0, 1, 0⟩]⟩,
  ⟨"INP_PIPE_CFG", 0x1000, 0x100, 16, 1,
    [⟨R.INP_PIPE_CFG_EN, 0, 1, 0⟩, ⟨R.INP_PIPE_CFG_AUDIO, 1, 1, 0⟩, ⟨R.INP_PIPE_CFG_SRC, 2, 1, 0⟩, ⟨R.INP_PIPE_CFG_NCH_M1, 8, 1, 0⟩, ⟨R.INP_PIPE_CFG_CTX, 12, 1, 0⟩, ⟨R.INP_PIPE_CFG_POLICY, 24, 1, 0⟩, ⟨R.INP_PIPE_CFG_AUG_MODE, 26, 1, 0⟩, ⟨R.INP_PIPE_CFG_ROI, 28, 1, 0⟩, ⟨R.INP_PIPE_CFG_LUMA, 29, 1, 0⟩]⟩,
  ⟨"INP_PIPE_OUT", 0x1004, 0x100, 16, 1,
    [⟨R.INP_PIPE_OUT_FMT, 0, 1, 0⟩, ⟨R.INP_PIPE_OUT_OUT_W, 4, 1, 0⟩, ⟨R.INP_PIPE_OUT_OUT_H, 16, 1, 0⟩]⟩,
  ⟨"INP_PIPE_DEST", 0x1008, 0x100, 16, 2,
    [⟨R.INP_PIPE_DEST_ADDR, 0, 1, 0⟩]⟩,
  ⟨"INP_PIPE_BATCH", 0x1010, 0x100, 16, 1,
    [⟨R.INP_PIPE_BATCH_BATCH, 0, 1, 0⟩, ⟨R.INP_PIPE_BATCH_DEPTH, 6, 1, 0⟩, ⟨R.INP_PIPE_BATCH_LOW, 14, 1, 0⟩]⟩,
  ⟨"INP_PIPE_STRIDE", 0x1014, 0x100, 16, 1,
    [⟨R.INP_PIPE_STRIDE_BYTES, 0, 1, 0⟩]⟩,
  ⟨"INP_PIPE_SEM", 0x1018, 0x100, 16, 1,
    [⟨R.INP_PIPE_SEM_READY, 0, 1, 0⟩, ⟨R.INP_PIPE_SEM_FREE, 16, 1, 0⟩]⟩,
  ⟨"INP_PIPE_MASK", 0x101c, 0x100, 16, 1,
    [⟨R.INP_PIPE_MASK_FRAME_BITS, 0, 1, 0⟩, ⟨R.INP_PIPE_MASK_AUDIO_BITS, 12, 1, 0⟩, ⟨R.INP_PIPE_MASK_FILL, 16, 1, 0⟩]⟩,
  ⟨"INP_PIPE_ROI_ADDR", 0x1020, 0x100, 16, 2,
    [⟨R.INP_PIPE_ROI_ADDR_ADDR, 0, 1, 0⟩]⟩,
  ⟨"INP_PIPE_AUG_ADDR", 0x1028, 0x100, 16, 2,
    [⟨R.INP_PIPE_AUG_ADDR_ADDR, 0, 1, 0⟩]⟩,
  ⟨"INP_PIPE_AUG_SEED", 0x1030, 0x100, 16, 2,
    [⟨R.INP_PIPE_AUG_SEED_SEED, 0, 1, 0⟩]⟩,
  ⟨"INP_PIPE_JITTER", 0x1038, 0x100, 16, 1,
    [⟨R.INP_PIPE_JITTER_PIXELS, 0, 1, 0⟩]⟩ ]

/-- Registers of the INP_ block, part 1 (offsets within the block). -/
def regsInp1 : List RegDef :=
  [
  ⟨"INP_PIPE_NORM_0", 0x1040, 0x100, 16, 1,
    [⟨R.INP_PIPE_NORM_VALUE, 0, 8, 0⟩]⟩,
  ⟨"INP_PIPE_NORM_1", 0x1044, 0x100, 16, 1,
    [⟨R.INP_PIPE_NORM_VALUE, 0, 8, 1⟩]⟩,
  ⟨"INP_PIPE_NORM_2", 0x1048, 0x100, 16, 1,
    [⟨R.INP_PIPE_NORM_VALUE, 0, 8, 2⟩]⟩,
  ⟨"INP_PIPE_NORM_3", 0x104c, 0x100, 16, 1,
    [⟨R.INP_PIPE_NORM_VALUE, 0, 8, 3⟩]⟩,
  ⟨"INP_PIPE_NORM_4", 0x1050, 0x100, 16, 1,
    [⟨R.INP_PIPE_NORM_VALUE, 0, 8, 4⟩]⟩,
  ⟨"INP_PIPE_NORM_5", 0x1054, 0x100, 16, 1,
    [⟨R.INP_PIPE_NORM_VALUE, 0, 8, 5⟩]⟩,
  ⟨"INP_PIPE_NORM_6", 0x1058, 0x100, 16, 1,
    [⟨R.INP_PIPE_NORM_VALUE, 0, 8, 6⟩]⟩,
  ⟨"INP_PIPE_NORM_7", 0x105c, 0x100, 16, 1,
    [⟨R.INP_PIPE_NORM_VALUE, 0, 8, 7⟩]⟩,
  ⟨"INP_PIPE_STATUS", 0x1060, 0x100, 16, 1,
    [⟨R.INP_PIPE_STATUS_ACTIVE, 0, 1, 0⟩, ⟨R.INP_PIPE_STATUS_LOW_WATER, 1, 1, 0⟩, ⟨R.INP_PIPE_STATUS_ERR, 2, 1, 0⟩, ⟨R.INP_PIPE_STATUS_CLASS, 3, 1, 0⟩]⟩,
  ⟨"INP_PIPE_BATCHES", 0x1064, 0x100, 16, 1,
    [⟨R.INP_PIPE_BATCHES_COUNT, 0, 1, 0⟩]⟩,
  ⟨"INP_PIPE_SKIPPED", 0x1068, 0x100, 16, 1,
    [⟨R.INP_PIPE_SKIPPED_COUNT, 0, 1, 0⟩]⟩,
  ⟨"INP_PIPE_REPLACED", 0x106c, 0x100, 16, 1,
    [⟨R.INP_PIPE_REPLACED_COUNT, 0, 1, 0⟩]⟩ ]

/-- Registers of the INP_ block, part 2 (offsets within the block). -/
def regsInp2 : List RegDef :=
  [
  ⟨"INP_PIPE_FILLED", 0x1070, 0x100, 16, 1,
    [⟨R.INP_PIPE_FILLED_COUNT, 0, 1, 0⟩]⟩,
  ⟨"INP_PIPE_ROI_STALE", 0x1074, 0x100, 16, 1,
    [⟨R.INP_PIPE_ROI_STALE_COUNT, 0, 1, 0⟩]⟩,
  ⟨"INP_PIPE_ROI_CLIP", 0x1078, 0x100, 16, 1,
    [⟨R.INP_PIPE_ROI_CLIP_COUNT, 0, 1, 0⟩]⟩,
  ⟨"INP_PIPE_AUG_MISS", 0x107c, 0x100, 16, 1,
    [⟨R.INP_PIPE_AUG_MISS_COUNT, 0, 1, 0⟩]⟩,
  ⟨"INP_PIPE_DROPPED", 0x1080, 0x100, 16, 1,
    [⟨R.INP_PIPE_DROPPED_COUNT, 0, 1, 0⟩]⟩,
  ⟨"INP_PIPE_IRQ", 0x1084, 0x100, 16, 1,
    [⟨R.INP_PIPE_IRQ_VECTOR, 0, 1, 0⟩, ⟨R.INP_PIPE_IRQ_EN, 11, 1, 0⟩]⟩ ]

/-- The registers of the INP_ block. -/
def regsInp : List RegDef := regsInp0 ++ regsInp1 ++ regsInp2

end Sys2Proof.Machine
end

