-- ==== Sys2Proof/Machine/RegsIsp.lean ====
section
/-! DEFINITION. The fields and registers of the ISP_ block, from the field tables and offset tables of R421, R422, R423, R424. -/

namespace Sys2Proof.Machine

/-- ISP_CTL, R422: [0:0], RW. -/
def R.ISP_CTL_EN : Fld := ⟨402, 1, .rw, .const 0, .any⟩
/-- ISP_EVENT, R422: [0:0], W1C. -/
def R.ISP_EVENT_SW_FAULT : Fld := ⟨403, 1, .w1c, .const 0, .any⟩
/-- ISP_EVENT, R422: [1:1], W1C. -/
def R.ISP_EVENT_FRAME_ERR : Fld := ⟨404, 1, .w1c, .const 0, .any⟩
/-- ISP_EVENT, R422: [2:2], W1C. -/
def R.ISP_EVENT_PSET_ERR : Fld := ⟨405, 1, .w1c, .const 0, .any⟩
/-- ISP_EVENT, R422: [3:3], W1C. -/
def R.ISP_EVENT_OVERFLOW : Fld := ⟨406, 1, .w1c, .const 0, .any⟩
/-- ISP_EVENT, R422: [4:4], W1C. -/
def R.ISP_EVENT_FLICKER_CHANGE : Fld := ⟨407, 1, .w1c, .const 0, .any⟩
/-- ISP_EVENT_MASK, R422: [4:0], RW. -/
def R.ISP_EVENT_MASK_EN : Fld := ⟨408, 5, .rw, .const 0, .any⟩
/-- ISP_EVENT_MASK, R422: [26:16], RW. -/
def R.ISP_EVENT_MASK_VECTOR : Fld := ⟨409, 11, .rw, .const 0, .any⟩
/-- ISP_PORT_n CFG, R422: [0:0], RW. -/
def R.ISP_PORT_CFG_EN : Fld := ⟨410, 1, .rw, .const 0, .any⟩
/-- ISP_PORT_n CFG, R422: [2:1], RW. -/
def R.ISP_PORT_CFG_LANES : Fld := ⟨411, 2, .rw, .const 2, .range 0 2⟩
/-- ISP_PORT_n CFG, R422: [6:3], RW. -/
def R.ISP_PORT_CFG_PART : Fld := ⟨412, 4, .rw, .const 0, .any⟩
/-- ISP_PORT_n CFG, R422: [7:7], RW. -/
def R.ISP_PORT_CFG_PART_VALID : Fld := ⟨413, 1, .rw, .const 0, .any⟩
/-- ISP_PORT_n CFG, R422: [9:8], RW. -/
def R.ISP_PORT_CFG_SW_MAP : Fld := ⟨414, 2, .rw, .const 0, .any⟩
/-- ISP_PORT_n STATUS, R422: [0:0], RO. -/
def R.ISP_PORT_STATUS_LOCK : Fld := ⟨415, 1, .ro, .const 0, .any⟩
/-- ISP_PORT_n STATUS, R422: [1:1], RO. -/
def R.ISP_PORT_STATUS_ULPS : Fld := ⟨416, 1, .ro, .const 0, .any⟩
/-- ISP_PORT_n STATUS, R422: [2:2], W1C. -/
def R.ISP_PORT_STATUS_OVERFLOW : Fld := ⟨417, 1, .w1c, .const 0, .any⟩
/-- ISP_PORT_n ECC_FIX, R422: [31:0], RC. -/
def R.ISP_PORT_ECC_FIX_COUNT : Fld := ⟨418, 32, .rc, .const 0, .any⟩
/-- ISP_PORT_n ECC_DROP, R422: [31:0], RC. -/
def R.ISP_PORT_ECC_DROP_COUNT : Fld := ⟨419, 32, .rc, .const 0, .any⟩
/-- ISP_PORT_n CRC, R422: [31:0], RC. -/
def R.ISP_PORT_CRC_COUNT : Fld := ⟨420, 32, .rc, .const 0, .any⟩
/-- ISP_PORT_n DISCARD_DT, R422: [31:0], RC. -/
def R.ISP_PORT_DISCARD_DT_COUNT : Fld := ⟨421, 32, .rc, .const 0, .any⟩
/-- ISP_STRM_s CFG, R423: [0:0], RW. -/
def R.ISP_STRM_CFG_EN : Fld := ⟨422, 1, .rw, .const 0, .any⟩
/-- ISP_STRM_s CFG, R423: [2:1], RW. -/
def R.ISP_STRM_CFG_PORT : Fld := ⟨423, 2, .rw, .const 0, .any⟩
/-- ISP_STRM_s CFG, R423: [6:3], RW. -/
def R.ISP_STRM_CFG_VC : Fld := ⟨424, 4, .rw, .const 0, .any⟩
/-- ISP_STRM_s CFG, R423: [9:7], RW. -/
def R.ISP_STRM_CFG_DT : Fld := ⟨425, 3, .rw, .const 0, .range 0 5⟩
/-- ISP_STRM_s CFG, R423: [11:10], RW. -/
def R.ISP_STRM_CFG_CFA : Fld := ⟨426, 2, .rw, .const 0, .any⟩
/-- ISP_STRM_s CFG, R423: [12:12], RW. -/
def R.ISP_STRM_CFG_FRAME_POLICY : Fld := ⟨427, 1, .rw, .const 0, .any⟩
/-- ISP_STRM_s CFG, R423: [15:13], RW. -/
def R.ISP_STRM_CFG_DELAY : Fld := ⟨428, 3, .rw, .const 0, .any⟩
/-- ISP_STRM_s CFG, R423: [16:16], RW. -/
def R.ISP_STRM_CFG_FNUM_MODE : Fld := ⟨429, 1, .rw, .const 0, .any⟩
/-- ISP_STRM_s CFG, R423: [28:17], RW. -/
def R.ISP_STRM_CFG_CTX : Fld := ⟨430, 12, .rw, .const 0, .any⟩
/-- ISP_STRM_s SIZE, R423: [13:0], RW. -/
def R.ISP_STRM_SIZE_W_EXP : Fld := ⟨431, 14, .rw, .const 16, .range 16 8192⟩
/-- ISP_STRM_s SIZE, R423: [29:16], RW. -/
def R.ISP_STRM_SIZE_H_EXP : Fld := ⟨432, 14, .rw, .const 16, .range 16 8192⟩
/-- ISP_STRM_s TIMING, R423: [19:0], RW. -/
def R.ISP_STRM_TIMING_FE_TIMEOUT_US : Fld := ⟨433, 20, .rw, .const 100000, .range 1 1048575⟩
/-- ISP_STRM_s FILL, R423: [13:0], RW. -/
def R.ISP_STRM_FILL_PAD : Fld := ⟨434, 14, .rw, .const 0, .any⟩
/-- ISP_STRM_s FILL, R423: [31:16], RW. -/
def R.ISP_STRM_FILL_FNUM_MAX : Fld := ⟨435, 16, .rw, .const 65535, .range 1 65535⟩
/-- ISP_STRM_s STATS_BASE, R423: [47:16], RW. -/
def R.ISP_STRM_STATS_BASE_ADDR : Fld := ⟨436, 32, .rw, .const 0, .any⟩
/-- ISP_STRM_s PSET_ADDR, R423: [47:9], RW. -/
def R.ISP_STRM_PSET_ADDR_ADDR : Fld := ⟨437, 39, .rw, .const 0, .any⟩
/-- ISP_STRM_s PSET_COMMIT, R423: [0:0], WO. -/
def R.ISP_STRM_PSET_COMMIT_COMMIT : Fld := ⟨438, 1, .wo, .const 0, .any⟩
/-- ISP_STRM_s STATUS, R423: [0:0], RO. -/
def R.ISP_STRM_STATUS_IN_FRAME : Fld := ⟨439, 1, .ro, .const 0, .any⟩
/-- ISP_STRM_s STATUS, R423: [2:1], RO. -/
def R.ISP_STRM_STATUS_PENDING : Fld := ⟨440, 2, .ro, .const 0, .any⟩
/-- ISP_STRM_s STATUS, R423: [3:3], W1C. -/
def R.ISP_STRM_STATUS_COMMIT_REJ : Fld := ⟨441, 1, .w1c, .const 0, .any⟩
/-- ISP_STRM_s STATUS, R423: [4:4], W1C. -/
def R.ISP_STRM_STATUS_PSET_FAULT : Fld := ⟨442, 1, .w1c, .const 0, .any⟩
/-- ISP_STRM_s STATUS, R423: [5:5], W1C. -/
def R.ISP_STRM_STATUS_PSET_LATE : Fld := ⟨443, 1, .w1c, .const 0, .any⟩
/-- ISP_STRM_s STATUS, R423: [6:6], W1C. -/
def R.ISP_STRM_STATUS_STATS_FAULT : Fld := ⟨444, 1, .w1c, .const 0, .any⟩
/-- ISP_STRM_s FRAME, R423: [31:0], RO. -/
def R.ISP_STRM_FRAME_FRAME : Fld := ⟨445, 32, .ro, .const 0, .any⟩
/-- ISP_STRM_s ACTIVE_TAG, R423: [31:0], RO. -/
def R.ISP_STRM_ACTIVE_TAG_TAG : Fld := ⟨446, 32, .ro, .const 0, .any⟩
/-- ISP_STRM_s FRAMES, R423: [31:0], RC. -/
def R.ISP_STRM_FRAMES_COUNT : Fld := ⟨447, 32, .rc, .const 0, .any⟩
/-- ISP_STRM_s BAD_FRAMES, R423: [31:0], RC. -/
def R.ISP_STRM_BAD_FRAMES_COUNT : Fld := ⟨448, 32, .rc, .const 0, .any⟩
/-- ISP_STRM_s LINE_ERR, R423: [31:0], RC. -/
def R.ISP_STRM_LINE_ERR_COUNT : Fld := ⟨449, 32, .rc, .const 0, .any⟩
/-- ISP_STRM_s ORPHAN, R423: [31:0], RC. -/
def R.ISP_STRM_ORPHAN_COUNT : Fld := ⟨450, 32, .rc, .const 0, .any⟩
/-- ISP_STRM_s FLICKER, R423: [1:0], RO. -/
def R.ISP_STRM_FLICKER_FREQ : Fld := ⟨451, 2, .ro, .const 0, .any⟩
/-- ISP_STRM_s FLICKER, R423: [15:8], RO. -/
def R.ISP_STRM_FLICKER_CONF : Fld := ⟨452, 8, .ro, .const 0, .any⟩
/-- ISP_STRM_s FLICKER, R423: [31:16], RO. -/
def R.ISP_STRM_FLICKER_PHASE : Fld := ⟨453, 16, .ro, .const 0, .any⟩
/-- ISP_SW_k CTL, R424: [0:0], RW. -/
def R.ISP_SW_CTL_EN : Fld := ⟨454, 1, .rw, .const 0, .any⟩
/-- ISP_SW_k CTL, R424: [1:1], WO. -/
def R.ISP_SW_CTL_CLR : Fld := ⟨455, 1, .wo, .const 0, .any⟩
/-- ISP_SW_k STATUS, R424: [2:0], RO. -/
def R.ISP_SW_STATUS_STATE : Fld := ⟨456, 3, .ro, .const 0, .any⟩
/-- ISP_SW_k STATUS, R424: [4:3], RO. -/
def R.ISP_SW_STATUS_CAUSE : Fld := ⟨457, 2, .ro, .const 0, .any⟩
/-- ISP_SW_k FAULTS, R424: [31:0], RC. -/
def R.ISP_SW_FAULTS_COUNT : Fld := ⟨458, 32, .rc, .const 0, .any⟩

/-- Registers of the ISP_ block, part 0 (offsets within the block). -/
def regsIsp0 : List RegDef :=
  [
  ⟨"ISP_CTL", 0x0, 0x0, 1, 1,
    [⟨R.ISP_CTL_EN, 0, 1, 0⟩]⟩,
  ⟨"ISP_EVENT", 0x4, 0x0, 1, 1,
    [⟨R.ISP_EVENT_SW_FAULT, 0, 1, 0⟩, ⟨R.ISP_EVENT_FRAME_ERR, 1, 1, 0⟩, ⟨R.ISP_EVENT_PSET_ERR, 2, 1, 0⟩, ⟨R.ISP_EVENT_OVERFLOW, 3, 1, 0⟩, ⟨R.ISP_EVENT_FLICKER_CHANGE, 4, 1, 0⟩]⟩,
  ⟨"ISP_EVENT_MASK", 0x8, 0x0, 1, 1,
    [⟨R.ISP_EVENT_MASK_EN, 0, 1, 0⟩, ⟨R.ISP_EVENT_MASK_VECTOR, 16, 1, 0⟩]⟩,
  ⟨"ISP_PORT_CFG", 0x100, 0x40, 4, 1,
    [⟨R.ISP_PORT_CFG_EN, 0, 1, 0⟩, ⟨R.ISP_PORT_CFG_LANES, 1, 1, 0⟩, ⟨R.ISP_PORT_CFG_PART, 3, 1, 0⟩, ⟨R.ISP_PORT_CFG_PART_VALID, 7, 1, 0⟩, ⟨R.ISP_PORT_CFG_SW_MAP, 8, 1, 0⟩]⟩,
  ⟨"ISP_PORT_STATUS", 0x104, 0x40, 4, 1,
    [⟨R.ISP_PORT_STATUS_LOCK, 0, 1, 0⟩, ⟨R.ISP_PORT_STATUS_ULPS, 1, 1, 0⟩, ⟨R.ISP_PORT_STATUS_OVERFLOW, 2, 1, 0⟩]⟩,
  ⟨"ISP_PORT_ECC_FIX", 0x108, 0x40, 4, 1,
    [⟨R.ISP_PORT_ECC_FIX_COUNT, 0, 1, 0⟩]⟩,
  ⟨"ISP_PORT_ECC_DROP", 0x10c, 0x40, 4, 1,
    [⟨R.ISP_PORT_ECC_DROP_COUNT, 0, 1, 0⟩]⟩,
  ⟨"ISP_PORT_CRC", 0x110, 0x40, 4, 1,
    [⟨R.ISP_PORT_CRC_COUNT, 0, 1, 0⟩]⟩,
  ⟨"ISP_PORT_DISCARD_DT", 0x114, 0x40, 4, 1,
    [⟨R.ISP_PORT_DISCARD_DT_COUNT, 0, 1, 0⟩]⟩,
  ⟨"ISP_STRM_CFG", 0x1000, 0x100, 8, 1,
    [⟨R.ISP_STRM_CFG_EN, 0, 1, 0⟩, ⟨R.ISP_STRM_CFG_PORT, 1, 1, 0⟩, ⟨R.ISP_STRM_CFG_VC, 3, 1, 0⟩, ⟨R.ISP_STRM_CFG_DT, 7, 1, 0⟩, ⟨R.ISP_STRM_CFG_CFA, 10, 1, 0⟩, ⟨R.ISP_STRM_CFG_FRAME_POLICY, 12, 1, 0⟩, ⟨R.ISP_STRM_CFG_DELAY, 13, 1, 0⟩, ⟨R.ISP_STRM_CFG_FNUM_MODE, 16, 1, 0⟩, ⟨R.ISP_STRM_CFG_CTX, 17, 1, 0⟩]⟩,
  ⟨"ISP_STRM_SIZE", 0x1004, 0x100, 8, 1,
    [⟨R.ISP_STRM_SIZE_W_EXP, 0, 1, 0⟩, ⟨R.ISP_STRM_SIZE_H_EXP, 16, 1, 0⟩]⟩,
  ⟨"ISP_STRM_TIMING", 0x1008, 0x100, 8, 1,
    [⟨R.ISP_STRM_TIMING_FE_TIMEOUT_US, 0, 1, 0⟩]⟩ ]

/-- Registers of the ISP_ block, part 1 (offsets within the block). -/
def regsIsp1 : List RegDef :=
  [
  ⟨"ISP_STRM_FILL", 0x100c, 0x100, 8, 1,
    [⟨R.ISP_STRM_FILL_PAD, 0, 1, 0⟩, ⟨R.ISP_STRM_FILL_FNUM_MAX, 16, 1, 0⟩]⟩,
  ⟨"ISP_STRM_STATS_BASE", 0x1010, 0x100, 8, 2,
    [⟨R.ISP_STRM_STATS_BASE_ADDR, 16, 1, 0⟩]⟩,
  ⟨"ISP_STRM_PSET_ADDR", 0x1018, 0x100, 8, 2,
    [⟨R.ISP_STRM_PSET_ADDR_ADDR, 9, 1, 0⟩]⟩,
  ⟨"ISP_STRM_PSET_COMMIT", 0x1020, 0x100, 8, 1,
    [⟨R.ISP_STRM_PSET_COMMIT_COMMIT, 0, 1, 0⟩]⟩,
  ⟨"ISP_STRM_STATUS", 0x1024, 0x100, 8, 1,
    [⟨R.ISP_STRM_STATUS_IN_FRAME, 0, 1, 0⟩, ⟨R.ISP_STRM_STATUS_PENDING, 1, 1, 0⟩, ⟨R.ISP_STRM_STATUS_COMMIT_REJ, 3, 1, 0⟩, ⟨R.ISP_STRM_STATUS_PSET_FAULT, 4, 1, 0⟩, ⟨R.ISP_STRM_STATUS_PSET_LATE, 5, 1, 0⟩, ⟨R.ISP_STRM_STATUS_STATS_FAULT, 6, 1, 0⟩]⟩,
  ⟨"ISP_STRM_FRAME", 0x1028, 0x100, 8, 1,
    [⟨R.ISP_STRM_FRAME_FRAME, 0, 1, 0⟩]⟩,
  ⟨"ISP_STRM_ACTIVE_TAG", 0x102c, 0x100, 8, 1,
    [⟨R.ISP_STRM_ACTIVE_TAG_TAG, 0, 1, 0⟩]⟩,
  ⟨"ISP_STRM_FRAMES", 0x1030, 0x100, 8, 1,
    [⟨R.ISP_STRM_FRAMES_COUNT, 0, 1, 0⟩]⟩,
  ⟨"ISP_STRM_BAD_FRAMES", 0x1034, 0x100, 8, 1,
    [⟨R.ISP_STRM_BAD_FRAMES_COUNT, 0, 1, 0⟩]⟩,
  ⟨"ISP_STRM_LINE_ERR", 0x1038, 0x100, 8, 1,
    [⟨R.ISP_STRM_LINE_ERR_COUNT, 0, 1, 0⟩]⟩,
  ⟨"ISP_STRM_ORPHAN", 0x103c, 0x100, 8, 1,
    [⟨R.ISP_STRM_ORPHAN_COUNT, 0, 1, 0⟩]⟩,
  ⟨"ISP_STRM_FLICKER", 0x1040, 0x100, 8, 1,
    [⟨R.ISP_STRM_FLICKER_FREQ, 0, 1, 0⟩, ⟨R.ISP_STRM_FLICKER_CONF, 8, 1, 0⟩, ⟨R.ISP_STRM_FLICKER_PHASE, 16, 1, 0⟩]⟩ ]

/-- Registers of the ISP_ block, part 2 (offsets within the block). -/
def regsIsp2 : List RegDef :=
  [
  ⟨"ISP_SW_CTL", 0x2000, 0x20, 2, 1,
    [⟨R.ISP_SW_CTL_EN, 0, 1, 0⟩, ⟨R.ISP_SW_CTL_CLR, 1, 1, 0⟩]⟩,
  ⟨"ISP_SW_STATUS", 0x2004, 0x20, 2, 1,
    [⟨R.ISP_SW_STATUS_STATE, 0, 1, 0⟩, ⟨R.ISP_SW_STATUS_CAUSE, 3, 1, 0⟩]⟩,
  ⟨"ISP_SW_FAULTS", 0x2008, 0x20, 2, 1,
    [⟨R.ISP_SW_FAULTS_COUNT, 0, 1, 0⟩]⟩ ]

/-- The registers of the ISP_ block. -/
def regsIsp : List RegDef := regsIsp0 ++ regsIsp1 ++ regsIsp2

end Sys2Proof.Machine
end

