-- ==== Sys2Proof/Machine/RegsLog.lean ====
section
/-! DEFINITION. The fields and registers of the LOG_ block, from the field tables and offset tables of R401, R402. -/

namespace Sys2Proof.Machine

/-- LOG_CTL, R402: [12:1], RW. -/
def R.LOG_CTL_MASK : Fld := ⟨393, 12, .rw, .const 4095, .any⟩
/-- LOG_HEAD, R402: [31:0], RO. -/
def R.LOG_HEAD_COUNT : Fld := ⟨394, 32, .ro, .const 0, .any⟩
/-- LOG_TAIL, R402: [31:0], RW. -/
def R.LOG_TAIL_CONSUMED : Fld := ⟨395, 32, .rw, .const 0, .any⟩
/-- LOG_BOOT, R402: [15:0], RO. -/
def R.LOG_BOOT_BOOT : Fld := ⟨396, 16, .ro, .const 0, .any⟩
/-- LOG_LOST, R402: [31:0], RC. -/
def R.LOG_LOST_COUNT : Fld := ⟨397, 32, .rc, .const 0, .any⟩
/-- LOG_OVERRUN, R402: [31:0], RC. -/
def R.LOG_OVERRUN_COUNT : Fld := ⟨398, 32, .rc, .const 0, .any⟩
/-- LOG_IRQ, R402: [10:0], RW. -/
def R.LOG_IRQ_VECTOR : Fld := ⟨399, 11, .rw, .const 0, .any⟩
/-- LOG_IRQ, R402: [11:11], RW. -/
def R.LOG_IRQ_EN : Fld := ⟨400, 1, .rw, .const 0, .any⟩
/-- LOG_IRQ, R402: [22:12], RW. -/
def R.LOG_IRQ_LEVEL : Fld := ⟨401, 11, .rw, .const 1, .range 1 2047⟩

/-- Registers of the LOG_ block, part 0 (offsets within the block). -/
def regsLog0 : List RegDef :=
  [
  ⟨"LOG_CTL", 0x0, 0x0, 1, 1,
    [⟨R.LOG_CTL_MASK, 1, 1, 0⟩]⟩,
  ⟨"LOG_HEAD", 0x4, 0x0, 1, 1,
    [⟨R.LOG_HEAD_COUNT, 0, 1, 0⟩]⟩,
  ⟨"LOG_TAIL", 0x8, 0x0, 1, 1,
    [⟨R.LOG_TAIL_CONSUMED, 0, 1, 0⟩]⟩,
  ⟨"LOG_BOOT", 0xc, 0x0, 1, 1,
    [⟨R.LOG_BOOT_BOOT, 0, 1, 0⟩]⟩,
  ⟨"LOG_LOST", 0x10, 0x0, 1, 1,
    [⟨R.LOG_LOST_COUNT, 0, 1, 0⟩]⟩,
  ⟨"LOG_OVERRUN", 0x14, 0x0, 1, 1,
    [⟨R.LOG_OVERRUN_COUNT, 0, 1, 0⟩]⟩,
  ⟨"LOG_IRQ", 0x18, 0x0, 1, 1,
    [⟨R.LOG_IRQ_VECTOR, 0, 1, 0⟩, ⟨R.LOG_IRQ_EN, 11, 1, 0⟩, ⟨R.LOG_IRQ_LEVEL, 12, 1, 0⟩]⟩ ]

/-- The registers of the LOG_ block. -/
def regsLog : List RegDef := regsLog0

end Sys2Proof.Machine
end

