-- ==== Sys2Proof/Machine/RegsPwr.lean ====
section
/-! DEFINITION. The fields and registers of the PWR_ block, from the field tables and offset tables of R464, R465. -/

namespace Sys2Proof.Machine

/-- PWR_PKG_REQ, R465: [2:0], WO. -/
def R.PWR_PKG_REQ_STATE : Fld := ⟨503, 3, .wo, .const 0, .oneOf [0, 3, 4]⟩
/-- PWR_DIE_REQ, R465: 3 bits, 4 times, RW. -/
def R.PWR_DIE_REQ_STATE : Fld := ⟨504, 3, .rw, .const 0, .oneOf [0, 2, 3]⟩
/-- PWR_STATE, R465: 3 bits, 4 times, RO. -/
def R.PWR_STATE_DIE : Fld := ⟨505, 3, .ro, .const 0, .any⟩
/-- PWR_STATE, R465: 1 bits, 4 times, RO. -/
def R.PWR_STATE_BUSY : Fld := ⟨506, 1, .ro, .const 0, .any⟩
/-- PWR_STATE, R465: [18:16], RO. -/
def R.PWR_STATE_HUB : Fld := ⟨507, 3, .ro, .const 0, .any⟩
/-- PWR_STATE, R465: [19:19], RO. -/
def R.PWR_STATE_HUB_BUSY : Fld := ⟨508, 1, .ro, .const 0, .any⟩
/-- PWR_WAKE_SRC, R465: [0:0], RW. -/
def R.PWR_WAKE_SRC_PIN : Fld := ⟨509, 1, .rw, .const 1, .any⟩
/-- PWR_WAKE_SRC, R465: [1:1], RW. -/
def R.PWR_WAKE_SRC_ACOUSTIC : Fld := ⟨510, 1, .rw, .const 0, .any⟩
/-- PWR_WAKE_SRC, R465: [2:2], RW. -/
def R.PWR_WAKE_SRC_TIMER : Fld := ⟨511, 1, .rw, .const 0, .any⟩
/-- PWR_EVENT, R465: [0:0], W1C. -/
def R.PWR_EVENT_STATE_CHANGE : Fld := ⟨512, 1, .w1c, .const 0, .any⟩
/-- PWR_EVENT, R465: [1:1], W1C. -/
def R.PWR_EVENT_REFUSED : Fld := ⟨513, 1, .w1c, .const 0, .any⟩
/-- PWR_EVENT, R465: [2:2], W1C. -/
def R.PWR_EVENT_ABORTED : Fld := ⟨514, 1, .w1c, .const 0, .any⟩
/-- PWR_EVENT, R465: [3:3], W1C. -/
def R.PWR_EVENT_THROTTLE : Fld := ⟨515, 1, .w1c, .const 0, .any⟩
/-- PWR_EVENT, R465: [4:4], W1C. -/
def R.PWR_EVENT_HOT : Fld := ⟨516, 1, .w1c, .const 0, .any⟩
/-- PWR_EVENT, R465: [5:5], W1C. -/
def R.PWR_EVENT_IMAGE_ERR : Fld := ⟨517, 1, .w1c, .const 0, .any⟩
/-- PWR_EVENT, R465: [6:6], W1C. -/
def R.PWR_EVENT_HOLD_LOW : Fld := ⟨518, 1, .w1c, .const 0, .any⟩
/-- PWR_EVENT, R465: [7:7], W1C. -/
def R.PWR_EVENT_SAG_RECORD : Fld := ⟨519, 1, .w1c, .const 0, .any⟩
/-- PWR_EVENT_MASK, R465: [7:0], RW. -/
def R.PWR_EVENT_MASK_EN : Fld := ⟨520, 8, .rw, .const 0, .any⟩
/-- PWR_EVENT_MASK, R465: [26:16], RW. -/
def R.PWR_EVENT_MASK_VECTOR : Fld := ⟨521, 11, .rw, .const 0, .any⟩
/-- PWR_ENTRY_ABORTS, R465: [31:0], RC. -/
def R.PWR_ENTRY_ABORTS_COUNT : Fld := ⟨522, 32, .rc, .const 0, .any⟩
/-- PWR_WAKE_AT, R465: [63:0], RW. -/
def R.PWR_WAKE_AT_COUNT : Fld := ⟨523, 64, .rw, .const 0, .any⟩
/-- PWR_OFF_TIMER, R465: [23:0], RW. -/
def R.PWR_OFF_TIMER_SECONDS : Fld := ⟨524, 24, .rw, .const 0, .any⟩
/-- PWR_CAP, R465: [5:0], RW. -/
def R.PWR_CAP_LIMIT : Fld := ⟨525, 6, .rw, .const 33, .range 12 33⟩
/-- PWR_CAP, R465: [15:8], RW. -/
def R.PWR_CAP_WINDOW_MS : Fld := ⟨526, 8, .rw, .const 10, .range 1 255⟩
/-- PWR_CAP, R465: [21:16], RW. -/
def R.PWR_CAP_HOT_LIMIT : Fld := ⟨527, 6, .rw, .const 20, .range 12 33⟩
/-- PWR_CAP_STATUS, R465: [3:0], RO. -/
def R.PWR_CAP_STATUS_LEVEL : Fld := ⟨528, 4, .ro, .const 0, .any⟩
/-- PWR_CAP_STATUS, R465: [25:16], RO. -/
def R.PWR_CAP_STATUS_AVG_W : Fld := ⟨529, 10, .ro, .const 0, .any⟩
/-- PWR_THROTTLE_MS, R465: [31:0], RC. -/
def R.PWR_THROTTLE_MS_COUNT : Fld := ⟨530, 32, .rc, .const 0, .any⟩
/-- PWR_THERM, R465: [7:0], RW. -/
def R.PWR_THERM_HOT_C : Fld := ⟨531, 8, .rw, .const 95, .range 60 104⟩
/-- PWR_THERM, R465: [15:8], RO. -/
def R.PWR_THERM_TEMP_C : Fld := ⟨532, 8, .ro, .const 0, .any⟩
/-- PWR_THERM, R465: [16:16], RO. -/
def R.PWR_THERM_HOT : Fld := ⟨533, 1, .ro, .const 0, .any⟩
/-- PWR_SAG_CFG, R465: [6:0], RW. -/
def R.PWR_SAG_CFG_THRESH : Fld := ⟨534, 7, .rw, .const 85, .range 70 95⟩
/-- PWR_SAG_CFG, R465: [15:8], RW. -/
def R.PWR_SAG_CFG_FILTER : Fld := ⟨535, 8, .rw, .const 25, .range 1 255⟩
/-- PWR_SAG_CFG, R465: [23:16], RW. -/
def R.PWR_SAG_CFG_RECOVER_MS : Fld := ⟨536, 8, .rw, .const 100, .range 1 255⟩
/-- PWR_SAG_CFG, R465: [24:24], RW. -/
def R.PWR_SAG_CFG_EN : Fld := ⟨537, 1, .rw, .const 1, .any⟩
/-- PWR_SAG_STATUS, R465: [0:0], RO. -/
def R.PWR_SAG_STATUS_HOLD_OK : Fld := ⟨538, 1, .ro, .const 0, .any⟩
/-- PWR_SAG_STATUS, R465: [1:1], RO. -/
def R.PWR_SAG_STATUS_VALID : Fld := ⟨539, 1, .ro, .const 0, .any⟩
/-- PWR_SAG_STATUS, R465: [2:2], RO. -/
def R.PWR_SAG_STATUS_LOADED : Fld := ⟨540, 1, .ro, .const 0, .any⟩
/-- PWR_SAG_STATUS, R465: [3:3], RO. -/
def R.PWR_SAG_STATUS_Q_OVERFLOW : Fld := ⟨541, 1, .ro, .const 0, .any⟩
/-- PWR_SAG_STATUS, R465: [4:4], RO. -/
def R.PWR_SAG_STATUS_THERMAL : Fld := ⟨542, 1, .ro, .const 0, .any⟩
/-- PWR_SAG_STATUS, R465: [5:5], RO. -/
def R.PWR_SAG_STATUS_HOLD_LOW : Fld := ⟨543, 1, .ro, .const 0, .any⟩
/-- PWR_SAG_STATUS, R465: [18:6], RO. -/
def R.PWR_SAG_STATUS_ENTRIES : Fld := ⟨544, 13, .ro, .const 0, .any⟩
/-- PWR_SAG_RATE, R465: [39:0], RO. -/
def R.PWR_SAG_RATE_RATE : Fld := ⟨545, 40, .ro, .const 0, .any⟩
/-- PWR_SAG_TIME, R465: [127:0], RO. -/
def R.PWR_SAG_TIME_TIME : Fld := ⟨546, 128, .ro, .const 0, .any⟩

/-- Registers of the PWR_ block, part 0 (offsets within the block). -/
def regsPwr0 : List RegDef :=
  [
  ⟨"PWR_PKG_REQ", 0x0, 0x0, 1, 1,
    [⟨R.PWR_PKG_REQ_STATE, 0, 1, 0⟩]⟩,
  ⟨"PWR_DIE_REQ", 0x4, 0x0, 1, 1,
    [⟨R.PWR_DIE_REQ_STATE, 0, 4, 0⟩, ⟨R.PWR_DIE_REQ_STATE, 4, 4, 1⟩, ⟨R.PWR_DIE_REQ_STATE, 8, 4, 2⟩, ⟨R.PWR_DIE_REQ_STATE, 12, 4, 3⟩]⟩,
  ⟨"PWR_STATE", 0x8, 0x0, 1, 1,
    [⟨R.PWR_STATE_DIE, 0, 4, 0⟩, ⟨R.PWR_STATE_DIE, 4, 4, 1⟩, ⟨R.PWR_STATE_DIE, 8, 4, 2⟩, ⟨R.PWR_STATE_DIE, 12, 4, 3⟩, ⟨R.PWR_STATE_BUSY, 3, 4, 0⟩, ⟨R.PWR_STATE_BUSY, 7, 4, 1⟩, ⟨R.PWR_STATE_BUSY, 11, 4, 2⟩, ⟨R.PWR_STATE_BUSY, 15, 4, 3⟩, ⟨R.PWR_STATE_HUB, 16, 1, 0⟩, ⟨R.PWR_STATE_HUB_BUSY, 19, 1, 0⟩]⟩,
  ⟨"PWR_WAKE_SRC", 0xc, 0x0, 1, 1,
    [⟨R.PWR_WAKE_SRC_PIN, 0, 1, 0⟩, ⟨R.PWR_WAKE_SRC_ACOUSTIC, 1, 1, 0⟩, ⟨R.PWR_WAKE_SRC_TIMER, 2, 1, 0⟩]⟩,
  ⟨"PWR_EVENT", 0x10, 0x0, 1, 1,
    [⟨R.PWR_EVENT_STATE_CHANGE, 0, 1, 0⟩, ⟨R.PWR_EVENT_REFUSED, 1, 1, 0⟩, ⟨R.PWR_EVENT_ABORTED, 2, 1, 0⟩, ⟨R.PWR_EVENT_THROTTLE, 3, 1, 0⟩, ⟨R.PWR_EVENT_HOT, 4, 1, 0⟩, ⟨R.PWR_EVENT_IMAGE_ERR, 5, 1, 0⟩, ⟨R.PWR_EVENT_HOLD_LOW, 6, 1, 0⟩, ⟨R.PWR_EVENT_SAG_RECORD, 7, 1, 0⟩]⟩,
  ⟨"PWR_EVENT_MASK", 0x14, 0x0, 1, 1,
    [⟨R.PWR_EVENT_MASK_EN, 0, 1, 0⟩, ⟨R.PWR_EVENT_MASK_VECTOR, 16, 1, 0⟩]⟩,
  ⟨"PWR_ENTRY_ABORTS", 0x18, 0x0, 1, 1,
    [⟨R.PWR_ENTRY_ABORTS_COUNT, 0, 1, 0⟩]⟩,
  ⟨"PWR_WAKE_AT", 0x20, 0x0, 1, 2,
    [⟨R.PWR_WAKE_AT_COUNT, 0, 1, 0⟩]⟩,
  ⟨"PWR_OFF_TIMER", 0x28, 0x0, 1, 1,
    [⟨R.PWR_OFF_TIMER_SECONDS, 0, 1, 0⟩]⟩,
  ⟨"PWR_CAP", 0x30, 0x0, 1, 1,
    [⟨R.PWR_CAP_LIMIT, 0, 1, 0⟩, ⟨R.PWR_CAP_WINDOW_MS, 8, 1, 0⟩, ⟨R.PWR_CAP_HOT_LIMIT, 16, 1, 0⟩]⟩,
  ⟨"PWR_CAP_STATUS", 0x34, 0x0, 1, 1,
    [⟨R.PWR_CAP_STATUS_LEVEL, 0, 1, 0⟩, ⟨R.PWR_CAP_STATUS_AVG_W, 16, 1, 0⟩]⟩,
  ⟨"PWR_THROTTLE_MS", 0x38, 0x0, 1, 1,
    [⟨R.PWR_THROTTLE_MS_COUNT, 0, 1, 0⟩]⟩ ]

/-- Registers of the PWR_ block, part 1 (offsets within the block). -/
def regsPwr1 : List RegDef :=
  [
  ⟨"PWR_THERM", 0x3c, 0x0, 1, 1,
    [⟨R.PWR_THERM_HOT_C, 0, 1, 0⟩, ⟨R.PWR_THERM_TEMP_C, 8, 1, 0⟩, ⟨R.PWR_THERM_HOT, 16, 1, 0⟩]⟩,
  ⟨"PWR_SAG_CFG", 0x40, 0x0, 1, 1,
    [⟨R.PWR_SAG_CFG_THRESH, 0, 1, 0⟩, ⟨R.PWR_SAG_CFG_FILTER, 8, 1, 0⟩, ⟨R.PWR_SAG_CFG_RECOVER_MS, 16, 1, 0⟩, ⟨R.PWR_SAG_CFG_EN, 24, 1, 0⟩]⟩,
  ⟨"PWR_SAG_STATUS", 0x44, 0x0, 1, 1,
    [⟨R.PWR_SAG_STATUS_HOLD_OK, 0, 1, 0⟩, ⟨R.PWR_SAG_STATUS_VALID, 1, 1, 0⟩, ⟨R.PWR_SAG_STATUS_LOADED, 2, 1, 0⟩, ⟨R.PWR_SAG_STATUS_Q_OVERFLOW, 3, 1, 0⟩, ⟨R.PWR_SAG_STATUS_THERMAL, 4, 1, 0⟩, ⟨R.PWR_SAG_STATUS_HOLD_LOW, 5, 1, 0⟩, ⟨R.PWR_SAG_STATUS_ENTRIES, 6, 1, 0⟩]⟩,
  ⟨"PWR_SAG_RATE", 0x48, 0x0, 1, 2,
    [⟨R.PWR_SAG_RATE_RATE, 0, 1, 0⟩]⟩,
  ⟨"PWR_SAG_TIME", 0x50, 0x0, 1, 4,
    [⟨R.PWR_SAG_TIME_TIME, 0, 1, 0⟩]⟩ ]

/-- The registers of the PWR_ block. -/
def regsPwr : List RegDef := regsPwr0 ++ regsPwr1

end Sys2Proof.Machine
end

