-- ==== Sys2Proof/Machine/RegsQue.lean ====
section
/-! DEFINITION. The fields and registers of the QUE_ block, from the field tables and offset tables of R287, R288, R289, R290, R291, R292, R293. -/

namespace Sys2Proof.Machine

/-- QUE_CTL, R288: [0:0], RW. -/
def R.QUE_CTL_ENABLE : Fld := ⟨168, 1, .rw, .const 0, .any⟩
/-- QUE_STATUS, R288: [0:0], RO. -/
def R.QUE_STATUS_BUSY : Fld := ⟨169, 1, .ro, .const 0, .any⟩
/-- QUE_STATUS, R288: [1:1], W1C. -/
def R.QUE_STATUS_DONE : Fld := ⟨170, 1, .w1c, .const 0, .any⟩
/-- QUE_CMD, R288: [12:0], RW. -/
def R.QUE_CMD_QUEUE : Fld := ⟨171, 13, .rw, .const 0, .any⟩
/-- QUE_CMD, R288: [15:14], WO. -/
def R.QUE_CMD_OP : Fld := ⟨172, 2, .wo, .const 0, .range 0 2⟩
/-- QUE_OPS, R288: [12:0], RO. -/
def R.QUE_OPS_INFLIGHT : Fld := ⟨173, 13, .ro, .const 0, .any⟩
/-- QUE_OPS, R288: [28:16], RC. -/
def R.QUE_OPS_PEAK : Fld := ⟨174, 13, .rc, .const 0, .any⟩
/-- QUE_SIG_LOST, R288: [31:0], RC. -/
def R.QUE_SIG_LOST_COUNT : Fld := ⟨175, 32, .rc, .const 0, .any⟩
/-- QUE_DOORBELL_BAD, R288: [31:0], RC. -/
def R.QUE_DOORBELL_BAD_COUNT : Fld := ⟨176, 32, .rc, .const 0, .any⟩
/-- QUE_PART_OPS_p, R289: [12:0], RW. -/
def R.QUE_PART_OPS_LIMIT : Fld := ⟨177, 13, .rw, .const 4096, .range 1 4096⟩
/-- QUE_PART_OPS_p, R289: [28:16], RO. -/
def R.QUE_PART_OPS_INFLIGHT : Fld := ⟨178, 13, .ro, .const 0, .any⟩
/-- QUE_SEM_n w0, R293: [0:0], RW. -/
def R.QUE_SEM_W0_VALID : Fld := ⟨179, 1, .rw, .const 0, .any⟩
/-- QUE_SEM_n w0, R293: [1:1], RW. -/
def R.QUE_SEM_W0_KIND : Fld := ⟨180, 1, .rw, .const 0, .any⟩
/-- QUE_SEM_n w0, R293: [5:2], RW. -/
def R.QUE_SEM_W0_PART : Fld := ⟨181, 4, .rw, .const 0, .any⟩
/-- QUE_SEM_n w0, R293: [6:6], RO. -/
def R.QUE_SEM_W0_HELD : Fld := ⟨182, 1, .ro, .const 0, .any⟩
/-- QUE_SEM_n w0, R293: [7:7], RO. -/
def R.QUE_SEM_W0_SUSPENDED : Fld := ⟨183, 1, .ro, .const 0, .any⟩
/-- QUE_SEM_n w0, R293: [13:8], RO. -/
def R.QUE_SEM_W0_HOLDER : Fld := ⟨184, 6, .ro, .const 0, .any⟩
/-- QUE_SEM_n w0, R293: [31:16], RW. -/
def R.QUE_SEM_W0_COUNT : Fld := ⟨185, 16, .rw, .const 0, .any⟩
/-- QUE_SEM_n w1, R293: [15:0], WO. -/
def R.QUE_SEM_W1_SIGNAL : Fld := ⟨186, 16, .wo, .const 0, .any⟩
/-- QUE_SEM_n w1, R293: [22:16], RO. -/
def R.QUE_SEM_W1_WAITERS : Fld := ⟨187, 7, .ro, .const 0, .any⟩
/-- QCFG, R291: [0:0], RW. -/
def R.QUE_QCFG_ENABLE : Fld := ⟨188, 1, .rw, .const 0, .any⟩
/-- QCFG, R291: [2:1], RW. -/
def R.QUE_QCFG_KIND : Fld := ⟨189, 2, .rw, .const 0, .range 0 2⟩
/-- QCFG, R291: [3:3], RW. -/
def R.QUE_QCFG_PRODUCER : Fld := ⟨190, 1, .rw, .const 0, .any⟩
/-- QCFG, R291: [8:4], RW. -/
def R.QUE_QCFG_LOG2_DEPTH : Fld := ⟨191, 5, .rw, .const 4, .range 4 16⟩
/-- QCFG, R291: [12:9], RW. -/
def R.QUE_QCFG_PART : Fld := ⟨192, 4, .rw, .const 0, .any⟩
/-- QCFG, R291: [24:13], RW. -/
def R.QUE_QCFG_CTX : Fld := ⟨193, 12, .rw, .const 0, .any⟩
/-- QCFG, R291: [27:25], RW. -/
def R.QUE_QCFG_INFLIGHT_LOG2 : Fld := ⟨194, 3, .rw, .const 4, .range 0 6⟩
/-- QCFG, R291: [28:28], RW. -/
def R.QUE_QCFG_CQ_EN : Fld := ⟨195, 1, .rw, .const 0, .any⟩
/-- QCFG, R291: [29:29], RW. -/
def R.QUE_QCFG_CQ_HOST : Fld := ⟨196, 1, .rw, .const 0, .any⟩
/-- QSTATE, R291: [0:0], RO. -/
def R.QUE_QSTATE_ACTIVE : Fld := ⟨197, 1, .ro, .const 0, .any⟩
/-- QSTATE, R291: [1:1], RO. -/
def R.QUE_QSTATE_ERROR : Fld := ⟨198, 1, .ro, .const 0, .any⟩
/-- QSTATE, R291: [2:2], RO. -/
def R.QUE_QSTATE_DRAINING : Fld := ⟨199, 1, .ro, .const 0, .any⟩
/-- QSTATE, R291: [3:3], RO. -/
def R.QUE_QSTATE_CQ_FULL : Fld := ⟨200, 1, .ro, .const 0, .any⟩
/-- QSTATE, R291: [10:4], RO. -/
def R.QUE_QSTATE_INFLIGHT : Fld := ⟨201, 7, .ro, .const 0, .any⟩
/-- RING_BASE, R292: [47:12], RW. -/
def R.QUE_RING_BASE_ADDR : Fld := ⟨202, 36, .rw, .const 0, .any⟩
/-- CQ_BASE, R292: [63:9], RW. -/
def R.QUE_CQ_BASE_ADDR : Fld := ⟨203, 55, .rw, .const 0, .any⟩
/-- TAIL, R292: [31:0], RW. -/
def R.QUE_TAIL_TAIL : Fld := ⟨204, 32, .rw, .const 0, .any⟩
/-- HEAD, R292: [31:0], RO. -/
def R.QUE_HEAD_HEAD : Fld := ⟨205, 32, .ro, .const 0, .any⟩
/-- DONE, R292: [63:0], RO. -/
def R.QUE_DONE_COUNT : Fld := ⟨206, 64, .ro, .const 0, .any⟩
/-- CQ_HEAD, R292: [31:0], RW. -/
def R.QUE_CQ_HEAD_CONSUMED : Fld := ⟨207, 32, .rw, .const 0, .any⟩
/-- IRQ, R292: [10:0], RW. -/
def R.QUE_IRQ_VECTOR : Fld := ⟨208, 11, .rw, .const 0, .any⟩
/-- IRQ, R292: [11:11], RW. -/
def R.QUE_IRQ_EN : Fld := ⟨209, 1, .rw, .const 0, .any⟩
/-- IRQ, R292: [19:12], RW. -/
def R.QUE_IRQ_COUNT : Fld := ⟨210, 8, .rw, .const 1, .range 1 255⟩
/-- IRQ, R292: [31:20], RW. -/
def R.QUE_IRQ_TIME : Fld := ⟨211, 12, .rw, .const 0, .any⟩
/-- ERR, R292: [3:0], RO. -/
def R.QUE_ERR_CODE : Fld := ⟨212, 4, .ro, .const 0, .any⟩
/-- ERR, R292: [7:4], RO. -/
def R.QUE_ERR_CLASS : Fld := ⟨213, 4, .ro, .const 0, .any⟩
/-- ERR, R292: [31:31], W1C. -/
def R.QUE_ERR_VALID : Fld := ⟨214, 1, .w1c, .const 0, .any⟩

/-- Registers of the QUE_ block, part 0 (offsets within the block). -/
def regsQue0 : List RegDef :=
  [
  ⟨"QUE_CTL", 0x0, 0x0, 1, 1,
    [⟨R.QUE_CTL_ENABLE, 0, 1, 0⟩]⟩,
  ⟨"QUE_STATUS", 0x4, 0x0, 1, 1,
    [⟨R.QUE_STATUS_BUSY, 0, 1, 0⟩, ⟨R.QUE_STATUS_DONE, 1, 1, 0⟩]⟩,
  ⟨"QUE_CMD", 0x8, 0x0, 1, 1,
    [⟨R.QUE_CMD_QUEUE, 0, 1, 0⟩, ⟨R.QUE_CMD_OP, 14, 1, 0⟩]⟩,
  ⟨"QUE_OPS", 0xc, 0x0, 1, 1,
    [⟨R.QUE_OPS_INFLIGHT, 0, 1, 0⟩, ⟨R.QUE_OPS_PEAK, 16, 1, 0⟩]⟩,
  ⟨"QUE_SIG_LOST", 0x10, 0x0, 1, 1,
    [⟨R.QUE_SIG_LOST_COUNT, 0, 1, 0⟩]⟩,
  ⟨"QUE_DOORBELL_BAD", 0x14, 0x0, 1, 1,
    [⟨R.QUE_DOORBELL_BAD_COUNT, 0, 1, 0⟩]⟩,
  ⟨"QUE_PART_OPS", 0x40, 0x4, 16, 1,
    [⟨R.QUE_PART_OPS_LIMIT, 0, 1, 0⟩, ⟨R.QUE_PART_OPS_INFLIGHT, 16, 1, 0⟩]⟩,
  ⟨"QUE_SEM_W0", 0x10000, 0x8, 4096, 1,
    [⟨R.QUE_SEM_W0_VALID, 0, 1, 0⟩, ⟨R.QUE_SEM_W0_KIND, 1, 1, 0⟩, ⟨R.QUE_SEM_W0_PART, 2, 1, 0⟩, ⟨R.QUE_SEM_W0_HELD, 6, 1, 0⟩, ⟨R.QUE_SEM_W0_SUSPENDED, 7, 1, 0⟩, ⟨R.QUE_SEM_W0_HOLDER, 8, 1, 0⟩, ⟨R.QUE_SEM_W0_COUNT, 16, 1, 0⟩]⟩,
  ⟨"QUE_SEM_W1", 0x10004, 0x8, 4096, 1,
    [⟨R.QUE_SEM_W1_SIGNAL, 0, 1, 0⟩, ⟨R.QUE_SEM_W1_WAITERS, 16, 1, 0⟩]⟩,
  ⟨"QUE_QCFG", 0x100000, 0x40, 8192, 1,
    [⟨R.QUE_QCFG_ENABLE, 0, 1, 0⟩, ⟨R.QUE_QCFG_KIND, 1, 1, 0⟩, ⟨R.QUE_QCFG_PRODUCER, 3, 1, 0⟩, ⟨R.QUE_QCFG_LOG2_DEPTH, 4, 1, 0⟩, ⟨R.QUE_QCFG_PART, 9, 1, 0⟩, ⟨R.QUE_QCFG_CTX, 13, 1, 0⟩, ⟨R.QUE_QCFG_INFLIGHT_LOG2, 25, 1, 0⟩, ⟨R.QUE_QCFG_CQ_EN, 28, 1, 0⟩, ⟨R.QUE_QCFG_CQ_HOST, 29, 1, 0⟩]⟩,
  ⟨"QUE_QSTATE", 0x100004, 0x40, 8192, 1,
    [⟨R.QUE_QSTATE_ACTIVE, 0, 1, 0⟩, ⟨R.QUE_QSTATE_ERROR, 1, 1, 0⟩, ⟨R.QUE_QSTATE_DRAINING, 2, 1, 0⟩, ⟨R.QUE_QSTATE_CQ_FULL, 3, 1, 0⟩, ⟨R.QUE_QSTATE_INFLIGHT, 4, 1, 0⟩]⟩,
  ⟨"QUE_RING_BASE", 0x100008, 0x40, 8192, 2,
    [⟨R.QUE_RING_BASE_ADDR, 12, 1, 0⟩]⟩ ]

/-- Registers of the QUE_ block, part 1 (offsets within the block). -/
def regsQue1 : List RegDef :=
  [
  ⟨"QUE_CQ_BASE", 0x100010, 0x40, 8192, 2,
    [⟨R.QUE_CQ_BASE_ADDR, 9, 1, 0⟩]⟩,
  ⟨"QUE_TAIL", 0x100018, 0x40, 8192, 1,
    [⟨R.QUE_TAIL_TAIL, 0, 1, 0⟩]⟩,
  ⟨"QUE_HEAD", 0x10001c, 0x40, 8192, 1,
    [⟨R.QUE_HEAD_HEAD, 0, 1, 0⟩]⟩,
  ⟨"QUE_DONE", 0x100020, 0x40, 8192, 2,
    [⟨R.QUE_DONE_COUNT, 0, 1, 0⟩]⟩,
  ⟨"QUE_CQ_HEAD", 0x100028, 0x40, 8192, 1,
    [⟨R.QUE_CQ_HEAD_CONSUMED, 0, 1, 0⟩]⟩,
  ⟨"QUE_IRQ", 0x10002c, 0x40, 8192, 1,
    [⟨R.QUE_IRQ_VECTOR, 0, 1, 0⟩, ⟨R.QUE_IRQ_EN, 11, 1, 0⟩, ⟨R.QUE_IRQ_COUNT, 12, 1, 0⟩, ⟨R.QUE_IRQ_TIME, 20, 1, 0⟩]⟩,
  ⟨"QUE_ERR", 0x100030, 0x40, 8192, 1,
    [⟨R.QUE_ERR_CODE, 0, 1, 0⟩, ⟨R.QUE_ERR_CLASS, 4, 1, 0⟩, ⟨R.QUE_ERR_VALID, 31, 1, 0⟩]⟩ ]

/-- The registers of the QUE_ block. -/
def regsQue : List RegDef := regsQue0 ++ regsQue1

end Sys2Proof.Machine
end

