-- ==== Sys2Proof/Machine/RegsSbp.lean ====
section
/-! DEFINITION. The fields and registers of the SBP_ block, from the field tables and offset tables of R528. -/

namespace Sys2Proof.Machine

/-- SBP_CTL, R528: [0:0], RW. -/
def R.SBP_CTL_WRITE_LOCK : Fld := ⟨723, 1, .rw, .const 0, .any⟩
/-- SBP_IND_ADDR, R528: [28:2], RW. -/
def R.SBP_IND_ADDR_OFFSET : Fld := ⟨724, 27, .rw, .const 0, .any⟩
/-- SBP_IND_DATA, R528: [31:0], RW. -/
def R.SBP_IND_DATA_DATA : Fld := ⟨725, 32, .rw, .const 0, .any⟩
/-- SBP_IND_CMD, R528: [1:0], WO. -/
def R.SBP_IND_CMD_OP : Fld := ⟨726, 2, .wo, .const 0, .range 0 2⟩
/-- SBP_IND_STATUS, R528: [0:0], RO. -/
def R.SBP_IND_STATUS_BUSY : Fld := ⟨727, 1, .ro, .const 0, .any⟩
/-- SBP_IND_STATUS, R528: [1:1], W1C. -/
def R.SBP_IND_STATUS_DONE : Fld := ⟨728, 1, .w1c, .const 0, .any⟩
/-- SBP_DISCARD, R528: [31:0], RC. -/
def R.SBP_DISCARD_COUNT : Fld := ⟨729, 32, .rc, .const 0, .any⟩

/-- Registers of the SBP_ block, part 0 (offsets within the block). -/
def regsSbp0 : List RegDef :=
  [
  ⟨"SBP_CTL", 0x0, 0x0, 1, 1,
    [⟨R.SBP_CTL_WRITE_LOCK, 0, 1, 0⟩]⟩,
  ⟨"SBP_IND_ADDR", 0x4, 0x0, 1, 1,
    [⟨R.SBP_IND_ADDR_OFFSET, 2, 1, 0⟩]⟩,
  ⟨"SBP_IND_DATA", 0x8, 0x0, 1, 1,
    [⟨R.SBP_IND_DATA_DATA, 0, 1, 0⟩]⟩,
  ⟨"SBP_IND_CMD", 0xc, 0x0, 1, 1,
    [⟨R.SBP_IND_CMD_OP, 0, 1, 0⟩]⟩,
  ⟨"SBP_IND_STATUS", 0x10, 0x0, 1, 1,
    [⟨R.SBP_IND_STATUS_BUSY, 0, 1, 0⟩, ⟨R.SBP_IND_STATUS_DONE, 1, 1, 0⟩]⟩,
  ⟨"SBP_DISCARD", 0x14, 0x0, 1, 1,
    [⟨R.SBP_DISCARD_COUNT, 0, 1, 0⟩]⟩ ]

/-- The registers of the SBP_ block. -/
def regsSbp : List RegDef := regsSbp0

end Sys2Proof.Machine
end

