-- ==== Sys2Proof/Machine/RegsSec.lean ====
section
/-! DEFINITION. The fields and registers of the SEC_ block, from the field tables and offset tables of R508, R509, R510. -/

namespace Sys2Proof.Machine

/-- SEC_STATUS, R509: [1:0], RO. -/
def R.SEC_STATUS_LIFE : Fld := ⟨576, 2, .ro, .fusedLife, .any⟩
/-- SEC_STATUS, R509: [4:2], RO. -/
def R.SEC_STATUS_BOOT : Fld := ⟨577, 3, .ro, .const 0, .any⟩
/-- SEC_STATUS, R509: [13:8], RO. -/
def R.SEC_STATUS_ROLLBACK : Fld := ⟨578, 6, .ro, .fusedRollback, .any⟩
/-- SEC_STATUS, R509: [19:16], RO. -/
def R.SEC_STATUS_REVOKED : Fld := ⟨579, 4, .ro, .fusedRevoked, .any⟩
/-- SEC_KEY_CMD, R509: [1:0], WO. -/
def R.SEC_KEY_CMD_OP : Fld := ⟨580, 2, .wo, .const 0, .any⟩
/-- SEC_KEY_CMD, R509: [7:2], RW. -/
def R.SEC_KEY_CMD_SLOT : Fld := ⟨581, 6, .rw, .const 0, .any⟩
/-- SEC_KEY_CMD, R509: [11:8], RW. -/
def R.SEC_KEY_CMD_PART : Fld := ⟨582, 4, .rw, .const 0, .any⟩
/-- SEC_KEY_STATUS, R509: [0:0], RO. -/
def R.SEC_KEY_STATUS_BUSY : Fld := ⟨583, 1, .ro, .const 0, .any⟩
/-- SEC_KEY_STATUS, R509: [1:1], W1C. -/
def R.SEC_KEY_STATUS_DONE : Fld := ⟨584, 1, .w1c, .const 0, .any⟩
/-- SEC_KEY_STATUS, R509: [5:2], RO. -/
def R.SEC_KEY_STATUS_CODE : Fld := ⟨585, 4, .ro, .const 0, .any⟩
/-- SEC_KEY_DATA_i, R509: [31:0], WO. -/
def R.SEC_KEY_DATA_DATA : Fld := ⟨586, 32, .wo, .const 0, .any⟩
/-- SEC_KEY_SLOT_k, R509: [1:0], RO. -/
def R.SEC_KEY_SLOT_STATE : Fld := ⟨587, 2, .ro, .const 0, .any⟩
/-- SEC_KEY_SLOT_k, R509: [5:2], RO. -/
def R.SEC_KEY_SLOT_OWNER : Fld := ⟨588, 4, .ro, .const 0, .any⟩
/-- SEC_KEY_SLOT_k, R509: [6:6], RO. -/
def R.SEC_KEY_SLOT_GEN : Fld := ⟨589, 1, .ro, .const 0, .any⟩
/-- SEC_PART_p CORES, R509: [63:0], RW. -/
def R.SEC_PART_CORES_CORES : Fld := ⟨590, 64, .rw, .const 0, .any⟩
/-- SEC_PART_p CFG, R509: [4:0], RW. -/
def R.SEC_PART_CFG_VF : Fld := ⟨591, 5, .rw, .const 0, .range 0 16⟩
/-- SEC_KILL_CMD, R510: [11:0], RW. -/
def R.SEC_KILL_CMD_CTX : Fld := ⟨592, 12, .rw, .const 0, .any⟩
/-- SEC_KILL_CMD, R510: [12:12], WO. -/
def R.SEC_KILL_CMD_GO : Fld := ⟨593, 1, .wo, .const 0, .any⟩
/-- SEC_KILL_STATUS, R510: [0:0], RO. -/
def R.SEC_KILL_STATUS_BUSY : Fld := ⟨594, 1, .ro, .const 0, .any⟩
/-- SEC_KILL_STATUS, R510: [1:1], W1C. -/
def R.SEC_KILL_STATUS_DONE : Fld := ⟨595, 1, .w1c, .const 0, .any⟩
/-- SEC_KILL_STATUS, R510: [13:2], RO. -/
def R.SEC_KILL_STATUS_CTX : Fld := ⟨596, 12, .ro, .const 0, .any⟩
/-- SEC_KILL_STATUS, R510: [14:14], W1C. -/
def R.SEC_KILL_STATUS_CUT : Fld := ⟨597, 1, .w1c, .const 0, .any⟩
/-- SEC_KILL_CFG, R510: [23:0], RW. -/
def R.SEC_KILL_CFG_WAIT : Fld := ⟨598, 24, .rw, .const 25000, .range 1 16777215⟩
/-- SEC_KILL_COUNT, R510: [31:0], RC. -/
def R.SEC_KILL_COUNT_COUNT : Fld := ⟨599, 32, .rc, .const 0, .any⟩
/-- SEC_DBG_CTL, R510: [2:0], RW. -/
def R.SEC_DBG_CTL_SCOPE : Fld := ⟨600, 3, .rw, .const 0, .any⟩
/-- SEC_DBG_CTL, R510: [3:3], WO. -/
def R.SEC_DBG_CTL_CHALLENGE : Fld := ⟨601, 1, .wo, .const 0, .any⟩
/-- SEC_DBG_CTL, R510: [4:4], WO. -/
def R.SEC_DBG_CTL_SUBMIT : Fld := ⟨602, 1, .wo, .const 0, .any⟩
/-- SEC_DBG_CTL, R510: [5:5], WO. -/
def R.SEC_DBG_CTL_PASSWORD : Fld := ⟨603, 1, .wo, .const 0, .any⟩
/-- SEC_DBG_CTL, R510: [6:6], WO. -/
def R.SEC_DBG_CTL_END : Fld := ⟨604, 1, .wo, .const 0, .any⟩
/-- SEC_DBG_CTL, R510: [14:8], RW. -/
def R.SEC_DBG_CTL_PWD_LEN : Fld := ⟨605, 7, .rw, .const 16, .range 16 64⟩
/-- SEC_DBG_CTL, R510: [23:16], RW. -/
def R.SEC_DBG_CTL_MINUTES : Fld := ⟨606, 8, .rw, .const 30, .range 1 255⟩
/-- SEC_DBG_STATUS, R510: [0:0], RO. -/
def R.SEC_DBG_STATUS_OPEN : Fld := ⟨607, 1, .ro, .const 0, .any⟩
/-- SEC_DBG_STATUS, R510: [3:1], RO. -/
def R.SEC_DBG_STATUS_GRANTED : Fld := ⟨608, 3, .ro, .const 0, .any⟩
/-- SEC_DBG_STATUS, R510: [4:4], RO. -/
def R.SEC_DBG_STATUS_LOCKOUT : Fld := ⟨609, 1, .ro, .const 0, .any⟩
/-- SEC_DBG_STATUS, R510: [8:5], RO. -/
def R.SEC_DBG_STATUS_CODE : Fld := ⟨610, 4, .ro, .const 0, .any⟩
/-- SEC_DBG_STATUS, R510: [9:9], W1C. -/
def R.SEC_DBG_STATUS_DONE : Fld := ⟨611, 1, .w1c, .const 0, .any⟩
/-- SEC_DBG_STATUS, R510: [23:16], RO. -/
def R.SEC_DBG_STATUS_MINUTES_LEFT : Fld := ⟨612, 8, .ro, .const 0, .any⟩
/-- SEC_DBG_FAILS, R510: [3:0], RO. -/
def R.SEC_DBG_FAILS_RUN : Fld := ⟨613, 4, .ro, .const 0, .any⟩
/-- SEC_DBG_FAILS, R510: [31:16], RC. -/
def R.SEC_DBG_FAILS_TOTAL : Fld := ⟨614, 16, .rc, .const 0, .any⟩
/-- SEC_DBG_CHAL_i, R510: [31:0], RO. -/
def R.SEC_DBG_CHAL_DATA : Fld := ⟨615, 32, .ro, .const 0, .any⟩
/-- SEC_DBG_RESP_i, R510: [31:0], WO. -/
def R.SEC_DBG_RESP_DATA : Fld := ⟨616, 32, .wo, .const 0, .any⟩
/-- SEC_DBG_PWD_i, R510: [31:0], WO. -/
def R.SEC_DBG_PWD_DATA : Fld := ⟨617, 32, .wo, .const 0, .any⟩
/-- SEC_MEASURE_i, R510: [31:0], RO. -/
def R.SEC_MEASURE_BYTES : Fld := ⟨618, 32, .ro, .const 0, .any⟩

/-- Registers of the SEC_ block, part 0 (offsets within the block). -/
def regsSec0 : List RegDef :=
  [
  ⟨"SEC_STATUS", 0x0, 0x0, 1, 1,
    [⟨R.SEC_STATUS_LIFE, 0, 1, 0⟩, ⟨R.SEC_STATUS_BOOT, 2, 1, 0⟩, ⟨R.SEC_STATUS_ROLLBACK, 8, 1, 0⟩, ⟨R.SEC_STATUS_REVOKED, 16, 1, 0⟩]⟩,
  ⟨"SEC_KEY_CMD", 0x4, 0x0, 1, 1,
    [⟨R.SEC_KEY_CMD_OP, 0, 1, 0⟩, ⟨R.SEC_KEY_CMD_SLOT, 2, 1, 0⟩, ⟨R.SEC_KEY_CMD_PART, 8, 1, 0⟩]⟩,
  ⟨"SEC_KEY_STATUS", 0x8, 0x0, 1, 1,
    [⟨R.SEC_KEY_STATUS_BUSY, 0, 1, 0⟩, ⟨R.SEC_KEY_STATUS_DONE, 1, 1, 0⟩, ⟨R.SEC_KEY_STATUS_CODE, 2, 1, 0⟩]⟩,
  ⟨"SEC_KEY_DATA", 0x10, 0x4, 10, 1,
    [⟨R.SEC_KEY_DATA_DATA, 0, 1, 0⟩]⟩,
  ⟨"SEC_KEY_SLOT", 0x40, 0x4, 64, 1,
    [⟨R.SEC_KEY_SLOT_STATE, 0, 1, 0⟩, ⟨R.SEC_KEY_SLOT_OWNER, 2, 1, 0⟩, ⟨R.SEC_KEY_SLOT_GEN, 6, 1, 0⟩]⟩,
  ⟨"SEC_PART_CORES", 0x200, 0x10, 16, 2,
    [⟨R.SEC_PART_CORES_CORES, 0, 1, 0⟩]⟩,
  ⟨"SEC_PART_CFG", 0x208, 0x10, 16, 1,
    [⟨R.SEC_PART_CFG_VF, 0, 1, 0⟩]⟩,
  ⟨"SEC_KILL_CMD", 0x400, 0x0, 1, 1,
    [⟨R.SEC_KILL_CMD_CTX, 0, 1, 0⟩, ⟨R.SEC_KILL_CMD_GO, 12, 1, 0⟩]⟩,
  ⟨"SEC_KILL_STATUS", 0x404, 0x0, 1, 1,
    [⟨R.SEC_KILL_STATUS_BUSY, 0, 1, 0⟩, ⟨R.SEC_KILL_STATUS_DONE, 1, 1, 0⟩, ⟨R.SEC_KILL_STATUS_CTX, 2, 1, 0⟩, ⟨R.SEC_KILL_STATUS_CUT, 14, 1, 0⟩]⟩,
  ⟨"SEC_KILL_CFG", 0x408, 0x0, 1, 1,
    [⟨R.SEC_KILL_CFG_WAIT, 0, 1, 0⟩]⟩,
  ⟨"SEC_KILL_COUNT", 0x40c, 0x0, 1, 1,
    [⟨R.SEC_KILL_COUNT_COUNT, 0, 1, 0⟩]⟩,
  ⟨"SEC_DBG_CTL", 0x500, 0x0, 1, 1,
    [⟨R.SEC_DBG_CTL_SCOPE, 0, 1, 0⟩, ⟨R.SEC_DBG_CTL_CHALLENGE, 3, 1, 0⟩, ⟨R.SEC_DBG_CTL_SUBMIT, 4, 1, 0⟩, ⟨R.SEC_DBG_CTL_PASSWORD, 5, 1, 0⟩, ⟨R.SEC_DBG_CTL_END, 6, 1, 0⟩, ⟨R.SEC_DBG_CTL_PWD_LEN, 8, 1, 0⟩, ⟨R.SEC_DBG_CTL_MINUTES, 16, 1, 0⟩]⟩ ]

/-- Registers of the SEC_ block, part 1 (offsets within the block). -/
def regsSec1 : List RegDef :=
  [
  ⟨"SEC_DBG_STATUS", 0x504, 0x0, 1, 1,
    [⟨R.SEC_DBG_STATUS_OPEN, 0, 1, 0⟩, ⟨R.SEC_DBG_STATUS_GRANTED, 1, 1, 0⟩, ⟨R.SEC_DBG_STATUS_LOCKOUT, 4, 1, 0⟩, ⟨R.SEC_DBG_STATUS_CODE, 5, 1, 0⟩, ⟨R.SEC_DBG_STATUS_DONE, 9, 1, 0⟩, ⟨R.SEC_DBG_STATUS_MINUTES_LEFT, 16, 1, 0⟩]⟩,
  ⟨"SEC_DBG_FAILS", 0x508, 0x0, 1, 1,
    [⟨R.SEC_DBG_FAILS_RUN, 0, 1, 0⟩, ⟨R.SEC_DBG_FAILS_TOTAL, 16, 1, 0⟩]⟩,
  ⟨"SEC_DBG_CHAL", 0x540, 0x4, 16, 1,
    [⟨R.SEC_DBG_CHAL_DATA, 0, 1, 0⟩]⟩,
  ⟨"SEC_DBG_RESP", 0x580, 0x4, 34, 1,
    [⟨R.SEC_DBG_RESP_DATA, 0, 1, 0⟩]⟩,
  ⟨"SEC_DBG_PWD", 0x640, 0x4, 16, 1,
    [⟨R.SEC_DBG_PWD_DATA, 0, 1, 0⟩]⟩,
  ⟨"SEC_MEASURE", 0x700, 0x4, 8, 1,
    [⟨R.SEC_MEASURE_BYTES, 0, 1, 0⟩]⟩ ]

/-- The registers of the SEC_ block. -/
def regsSec : List RegDef := regsSec0 ++ regsSec1

end Sys2Proof.Machine
end

