-- ==== Sys2Proof/Machine/RegsSeq.lean ====
section
/-! DEFINITION. The fields and registers of the SEQ_ block, from the field tables and offset tables of R184, R196, R197, R198, R199, R333, R334, R335. -/

namespace Sys2Proof.Machine

/-- SEQ_KV_POOL_BASE_p, R197: [47:0], RW. -/
def R.SEQ_KV_POOL_BASE_ADDR : Fld := ⟨54, 48, .rw, .const 0, .mult 65536⟩
/-- SEQ_KV_POOL_CFG_p, R197: [19:0], RW. -/
def R.SEQ_KV_POOL_CFG_BLOCKS : Fld := ⟨55, 20, .rw, .const 0, .any⟩
/-- SEQ_KV_POOL_CFG_p, R197: [22:20], RW. -/
def R.SEQ_KV_POOL_CFG_FMT : Fld := ⟨56, 3, .rw, .const 0, .range 0 3⟩
/-- SEQ_KV_POOL_CFG_p, R197: [23:23], RW. -/
def R.SEQ_KV_POOL_CFG_SFMT : Fld := ⟨57, 1, .rw, .const 0, .any⟩
/-- SEQ_KV_POOL_CFG_p, R197: [31:31], RW. -/
def R.SEQ_KV_POOL_CFG_ENABLE : Fld := ⟨58, 1, .rw, .const 0, .any⟩
/-- SEQ_KV_SHAPE_p, R197: [7:0], RW. -/
def R.SEQ_KV_SHAPE_LAYERS : Fld := ⟨59, 8, .rw, .const 1, .range 1 255⟩
/-- SEQ_KV_SHAPE_p, R197: [12:8], RW. -/
def R.SEQ_KV_SHAPE_KV_HEADS : Fld := ⟨60, 5, .rw, .const 1, .range 1 16⟩
/-- SEQ_KV_SHAPE_p, R197: [18:16], RW. -/
def R.SEQ_KV_SHAPE_PANELS : Fld := ⟨61, 3, .rw, .const 2, .range 1 4⟩
/-- SEQ_KV_SCALE_BASE_p, R197: [47:0], RW. -/
def R.SEQ_KV_SCALE_BASE_ADDR : Fld := ⟨62, 48, .rw, .const 0, .mult 65536⟩
/-- SEQ_KV_TABLE_BASE_p, R197: [47:0], RW. -/
def R.SEQ_KV_TABLE_BASE_ADDR : Fld := ⟨63, 48, .rw, .const 0, .mult 65536⟩
/-- SEQ_KV_FREE_p, R197: [19:0], RO. -/
def R.SEQ_KV_FREE_FREE : Fld := ⟨64, 20, .ro, .const 0, .any⟩
/-- SEQ_KV_STALL_p, R197: [31:0], RC. -/
def R.SEQ_KV_STALL_COUNT : Fld := ⟨65, 32, .rc, .const 0, .any⟩
/-- SEQ_PART_TUNE_p, R198: [0:0], RW. -/
def R.SEQ_PART_TUNE_TUNE : Fld := ⟨66, 1, .rw, .const 0, .any⟩
/-- SEQ_PART_TUNE_p, R198: [1:1], RW. -/
def R.SEQ_PART_TUNE_YIELD : Fld := ⟨67, 1, .rw, .const 1, .any⟩
/-- SEQ_PART_TUNE_p, R198: [2:2], W1C. -/
def R.SEQ_PART_TUNE_FALLBACK : Fld := ⟨68, 1, .w1c, .const 0, .any⟩
/-- SEQ_PART_TUNE_p, R198: [5:4], RO. -/
def R.SEQ_PART_TUNE_CAUSE : Fld := ⟨69, 2, .ro, .const 0, .any⟩
/-- SEQ_ATT_CFG, R198: [2:0], RW. -/
def R.SEQ_ATT_CFG_HEADS_PER_CORE : Fld := ⟨70, 3, .rw, .const 4, .range 1 4⟩
/-- SEQ_ATT_CFG, R198: [12:8], RW. -/
def R.SEQ_ATT_CFG_SPLIT_MIN : Fld := ⟨71, 5, .rw, .const 17, .range 8 17⟩
/-- SEQ_ATT_CFG, R198: [19:16], RW. -/
def R.SEQ_ATT_CFG_STALL_LIMIT : Fld := ⟨72, 4, .rw, .const 4, .range 1 15⟩
/-- SEQ_BUCKET_k, R198: [13:0], RO. -/
def R.SEQ_BUCKET_SEQUENCES : Fld := ⟨73, 14, .ro, .const 0, .any⟩
/-- SEQ_STREAM_XADDR, R199: [47:0], RW. -/
def R.SEQ_STREAM_XADDR_ADDR : Fld := ⟨74, 48, .rw, .const 0, .mult 64⟩
/-- SEQ_STREAM_XCMD, R199: [15:0], RW. -/
def R.SEQ_STREAM_XCMD_STREAM : Fld := ⟨75, 16, .rw, .const 0, .any⟩
/-- SEQ_STREAM_XCMD, R199: [16:16], RW. -/
def R.SEQ_STREAM_XCMD_KEEP : Fld := ⟨76, 1, .rw, .const 0, .any⟩
/-- SEQ_STREAM_XCMD, R199: [29:28], WO. -/
def R.SEQ_STREAM_XCMD_OP : Fld := ⟨77, 2, .wo, .const 0, .range 0 2⟩
/-- SEQ_STREAM_XSTATUS, R199: [0:0], RO. -/
def R.SEQ_STREAM_XSTATUS_BUSY : Fld := ⟨78, 1, .ro, .const 0, .any⟩
/-- SEQ_STREAM_XSTATUS, R199: [1:1], W1C. -/
def R.SEQ_STREAM_XSTATUS_DONE : Fld := ⟨79, 1, .w1c, .const 0, .any⟩
/-- SEQ_STREAM_XSTATUS, R199: [2:2], RO. -/
def R.SEQ_STREAM_XSTATUS_WAITING : Fld := ⟨80, 1, .ro, .const 0, .any⟩
/-- SEQ_STREAM_XSTATUS, R199: [7:4], RO. -/
def R.SEQ_STREAM_XSTATUS_CODE : Fld := ⟨81, 4, .ro, .const 0, .any⟩
/-- SEQ_STREAM_TABLE, R184: [47:0], RW. -/
def R.SEQ_STREAM_TABLE_STATE_ADDR : Fld := ⟨82, 48, .rw, .const 0, .mult 64⟩
/-- SEQ_STREAM_TABLE, R184: [48:48], RW. -/
def R.SEQ_STREAM_TABLE_VALID : Fld := ⟨83, 1, .rw, .const 0, .any⟩
/-- SEQ_STREAM_TABLE, R184: [49:49], RW. -/
def R.SEQ_STREAM_TABLE_RESET : Fld := ⟨84, 1, .rw, .const 0, .any⟩
/-- SEQ_STREAM_TABLE, R184: [51:50], RW. -/
def R.SEQ_STREAM_TABLE_FMT : Fld := ⟨85, 2, .rw, .const 0, .range 0 2⟩
/-- SEQ_STREAM_TABLE, R184: [55:52], RW. -/
def R.SEQ_STREAM_TABLE_PART : Fld := ⟨86, 4, .rw, .const 0, .any⟩
/-- SEQ_STREAM_TABLE, R184: [62:56], RW. -/
def R.SEQ_STREAM_TABLE_LEN : Fld := ⟨87, 7, .rw, .const 1, .range 1 64⟩
/-- SEQ_STREAM_TABLE, R184: [64:64], RO. -/
def R.SEQ_STREAM_TABLE_RESIDENT : Fld := ⟨88, 1, .ro, .const 0, .any⟩
/-- SEQ_STREAM_TABLE, R184: [65:65], RO. -/
def R.SEQ_STREAM_TABLE_DIRTY : Fld := ⟨89, 1, .ro, .const 0, .any⟩
/-- SEQ_STREAM_TABLE, R184: [66:66], RO. -/
def R.SEQ_STREAM_TABLE_PINNED : Fld := ⟨90, 1, .ro, .const 0, .any⟩
/-- SEQ_STREAM_TABLE, R184: [67:67], W1C. -/
def R.SEQ_STREAM_TABLE_STALE : Fld := ⟨91, 1, .w1c, .const 0, .any⟩
/-- SEQ_STREAM_TABLE, R184: [68:68], W1C. -/
def R.SEQ_STREAM_TABLE_ERR : Fld := ⟨92, 1, .w1c, .const 0, .any⟩
/-- SEQ_STREAM_TABLE, R184: [77:72], RO. -/
def R.SEQ_STREAM_TABLE_CORE : Fld := ⟨93, 6, .ro, .const 0, .any⟩
/-- SEQ_STREAM_TABLE, R184: [87:80], RO. -/
def R.SEQ_STREAM_TABLE_FRAME : Fld := ⟨94, 8, .ro, .const 0, .any⟩
/-- SEQ_STREAM_TABLE, R184: [191:128], RO. -/
def R.SEQ_STREAM_TABLE_LAST_STEP : Fld := ⟨95, 64, .ro, .const 0, .any⟩
/-- SEQ_STREAM_TABLE, R184: [223:192], RO. -/
def R.SEQ_STREAM_TABLE_CLAUSE_COUNT : Fld := ⟨96, 32, .ro, .const 0, .any⟩
/-- SEQ_SCHED_p, R334: [23:0], RW. -/
def R.SEQ_SCHED_SLICE : Fld := ⟨228, 24, .rw, .const 500000, .range 1 16777215⟩
/-- SEQ_SCHED_p, R334: [24:24], RW. -/
def R.SEQ_SCHED_PREEMPT : Fld := ⟨229, 1, .rw, .const 1, .any⟩
/-- SEQ_AGE_p, R334: [23:0], RW. -/
def R.SEQ_AGE_AGE_LIMIT : Fld := ⟨230, 24, .rw, .const 5000000, .any⟩
/-- SEQ_PROG_BASE_p, R334: [38:12], RW. -/
def R.SEQ_PROG_BASE_PA : Fld := ⟨231, 27, .rw, .const 0, .any⟩
/-- SEQ_PROG_CFG_p, R334: [12:0], RW. -/
def R.SEQ_PROG_CFG_ENTRIES : Fld := ⟨232, 13, .rw, .const 0, .range 0 4096⟩
/-- SEQ_BATCH_CFG_p, R334: [0:0], RW. -/
def R.SEQ_BATCH_CFG_ENABLE : Fld := ⟨233, 1, .rw, .const 0, .any⟩
/-- SEQ_BATCH_CFG_p, R334: [12:1], RW. -/
def R.SEQ_BATCH_CFG_CTX : Fld := ⟨234, 12, .rw, .const 0, .any⟩
/-- SEQ_BATCH_CFG_p, R334: [14:13], RW. -/
def R.SEQ_BATCH_CFG_POLICY : Fld := ⟨235, 2, .rw, .const 1, .range 0 2⟩
/-- SEQ_BATCH_CFG_p, R334: [17:15], RW. -/
def R.SEQ_BATCH_CFG_REPLAYS : Fld := ⟨236, 3, .rw, .const 0, .any⟩
/-- SEQ_PLAN_BASE_p, R334: [47:6], RW. -/
def R.SEQ_PLAN_BASE_ADDR : Fld := ⟨237, 42, .rw, .const 0, .any⟩
/-- SEQ_WORK_BASE_p, R334: [47:16], RW. -/
def R.SEQ_WORK_BASE_ADDR : Fld := ⟨238, 32, .rw, .const 0, .any⟩
/-- SEQ_BATCH_LIM_p, R334: [13:0], RW. -/
def R.SEQ_BATCH_LIM_MAX_SEQ : Fld := ⟨239, 14, .rw, .const 256, .range 1 8192⟩
/-- SEQ_BATCH_LIM_p, R334: [31:16], RW. -/
def R.SEQ_BATCH_LIM_CHUNK : Fld := ⟨240, 16, .rw, .const 512, .range 1 65535⟩
/-- SEQ_BATCH_BUDGET_p, R334: [16:0], RW. -/
def R.SEQ_BATCH_BUDGET_BUDGET : Fld := ⟨241, 17, .rw, .const 2048, .range 1 131071⟩
/-- SEQ_WORK_CFG_p, R334: [15:0], RW. -/
def R.SEQ_WORK_CFG_ROWS : Fld := ⟨242, 16, .rw, .const 4096, .range 1 65535⟩
/-- SEQ_STEP_STATUS_p, R335: [1:0], RO. -/
def R.SEQ_STEP_STATUS_STATE : Fld := ⟨243, 2, .ro, .const 0, .any⟩
/-- SEQ_STEP_STATUS_p, R335: [2:2], W1C. -/
def R.SEQ_STEP_STATUS_ERR : Fld := ⟨244, 1, .w1c, .const 0, .any⟩
/-- SEQ_STEP_STATUS_p, R335: [7:4], RO. -/
def R.SEQ_STEP_STATUS_ERR_CODE : Fld := ⟨245, 4, .ro, .const 0, .any⟩
/-- SEQ_STEP_STATUS_p, R335: [21:8], RO. -/
def R.SEQ_STEP_STATUS_ACTIVE : Fld := ⟨246, 14, .ro, .const 0, .any⟩
/-- SEQ_STEP_NUM_p, R335: [31:0], RO. -/
def R.SEQ_STEP_NUM_STEP : Fld := ⟨247, 32, .ro, .const 0, .any⟩
/-- SEQ_DL_MISS_p, R335: [31:0], RC. -/
def R.SEQ_DL_MISS_COUNT : Fld := ⟨248, 32, .rc, .const 0, .any⟩
/-- SEQ_PREEMPT_p, R335: [31:0], RC. -/
def R.SEQ_PREEMPT_COUNT : Fld := ⟨249, 32, .rc, .const 0, .any⟩
/-- SEQ_PROMOTE_p, R335: [31:0], RC. -/
def R.SEQ_PROMOTE_COUNT : Fld := ⟨250, 32, .rc, .const 0, .any⟩
/-- SEQ_REPLAY_p, R335: [31:0], RC. -/
def R.SEQ_REPLAY_COUNT : Fld := ⟨251, 32, .rc, .const 0, .any⟩
/-- SEQ_BOOST_p, R335: [31:0], RC. -/
def R.SEQ_BOOST_COUNT : Fld := ⟨252, 32, .rc, .const 0, .any⟩
/-- SEQ_KICK_CFG, R334: [3:0], RW. -/
def R.SEQ_KICK_CFG_MAX : Fld := ⟨253, 4, .rw, .const 8, .range 1 8⟩
/-- SEQ_KICK_CFG, R334: [23:8], RW. -/
def R.SEQ_KICK_CFG_DRAIN : Fld := ⟨254, 16, .rw, .const 1500, .range 1 65535⟩

/-- Registers of the SEQ_ block, part 0 (offsets within the block). -/
def regsSeq0 : List RegDef :=
  [
  ⟨"SEQ_KV_POOL_BASE", 0x400000, 0x40, 16, 2,
    [⟨R.SEQ_KV_POOL_BASE_ADDR, 0, 1, 0⟩]⟩,
  ⟨"SEQ_KV_POOL_CFG", 0x400008, 0x40, 16, 1,
    [⟨R.SEQ_KV_POOL_CFG_BLOCKS, 0, 1, 0⟩, ⟨R.SEQ_KV_POOL_CFG_FMT, 20, 1, 0⟩, ⟨R.SEQ_KV_POOL_CFG_SFMT, 23, 1, 0⟩, ⟨R.SEQ_KV_POOL_CFG_ENABLE, 31, 1, 0⟩]⟩,
  ⟨"SEQ_KV_SHAPE", 0x40000c, 0x40, 16, 1,
    [⟨R.SEQ_KV_SHAPE_LAYERS, 0, 1, 0⟩, ⟨R.SEQ_KV_SHAPE_KV_HEADS, 8, 1, 0⟩, ⟨R.SEQ_KV_SHAPE_PANELS, 16, 1, 0⟩]⟩,
  ⟨"SEQ_KV_SCALE_BASE", 0x400010, 0x40, 16, 2,
    [⟨R.SEQ_KV_SCALE_BASE_ADDR, 0, 1, 0⟩]⟩,
  ⟨"SEQ_KV_TABLE_BASE", 0x400018, 0x40, 16, 2,
    [⟨R.SEQ_KV_TABLE_BASE_ADDR, 0, 1, 0⟩]⟩,
  ⟨"SEQ_KV_FREE", 0x400020, 0x40, 16, 1,
    [⟨R.SEQ_KV_FREE_FREE, 0, 1, 0⟩]⟩,
  ⟨"SEQ_KV_STALL", 0x400024, 0x40, 16, 1,
    [⟨R.SEQ_KV_STALL_COUNT, 0, 1, 0⟩]⟩,
  ⟨"SEQ_PART_TUNE", 0x400028, 0x40, 16, 1,
    [⟨R.SEQ_PART_TUNE_TUNE, 0, 1, 0⟩, ⟨R.SEQ_PART_TUNE_YIELD, 1, 1, 0⟩, ⟨R.SEQ_PART_TUNE_FALLBACK, 2, 1, 0⟩, ⟨R.SEQ_PART_TUNE_CAUSE, 4, 1, 0⟩]⟩,
  ⟨"SEQ_ATT_CFG", 0x410000, 0x0, 1, 1,
    [⟨R.SEQ_ATT_CFG_HEADS_PER_CORE, 0, 1, 0⟩, ⟨R.SEQ_ATT_CFG_SPLIT_MIN, 8, 1, 0⟩, ⟨R.SEQ_ATT_CFG_STALL_LIMIT, 16, 1, 0⟩]⟩,
  ⟨"SEQ_BUCKET", 0x410010, 0x4, 13, 1,
    [⟨R.SEQ_BUCKET_SEQUENCES, 0, 1, 0⟩]⟩,
  ⟨"SEQ_STREAM_XADDR", 0x420000, 0x0, 1, 2,
    [⟨R.SEQ_STREAM_XADDR_ADDR, 0, 1, 0⟩]⟩,
  ⟨"SEQ_STREAM_XCMD", 0x420008, 0x0, 1, 1,
    [⟨R.SEQ_STREAM_XCMD_STREAM, 0, 1, 0⟩, ⟨R.SEQ_STREAM_XCMD_KEEP, 16, 1, 0⟩, ⟨R.SEQ_STREAM_XCMD_OP, 28, 1, 0⟩]⟩ ]

/-- Registers of the SEQ_ block, part 1 (offsets within the block). -/
def regsSeq1 : List RegDef :=
  [
  ⟨"SEQ_STREAM_XSTATUS", 0x42000c, 0x0, 1, 1,
    [⟨R.SEQ_STREAM_XSTATUS_BUSY, 0, 1, 0⟩, ⟨R.SEQ_STREAM_XSTATUS_DONE, 1, 1, 0⟩, ⟨R.SEQ_STREAM_XSTATUS_WAITING, 2, 1, 0⟩, ⟨R.SEQ_STREAM_XSTATUS_CODE, 4, 1, 0⟩]⟩,
  ⟨"SEQ_STREAM_TABLE", 0x800000, 0x20, 65536, 8,
    [⟨R.SEQ_STREAM_TABLE_STATE_ADDR, 0, 1, 0⟩, ⟨R.SEQ_STREAM_TABLE_VALID, 48, 1, 0⟩, ⟨R.SEQ_STREAM_TABLE_RESET, 49, 1, 0⟩, ⟨R.SEQ_STREAM_TABLE_FMT, 50, 1, 0⟩, ⟨R.SEQ_STREAM_TABLE_PART, 52, 1, 0⟩, ⟨R.SEQ_STREAM_TABLE_LEN, 56, 1, 0⟩, ⟨R.SEQ_STREAM_TABLE_RESIDENT, 64, 1, 0⟩, ⟨R.SEQ_STREAM_TABLE_DIRTY, 65, 1, 0⟩, ⟨R.SEQ_STREAM_TABLE_PINNED, 66, 1, 0⟩, ⟨R.SEQ_STREAM_TABLE_STALE, 67, 1, 0⟩, ⟨R.SEQ_STREAM_TABLE_ERR, 68, 1, 0⟩, ⟨R.SEQ_STREAM_TABLE_CORE, 72, 1, 0⟩, ⟨R.SEQ_STREAM_TABLE_FRAME, 80, 1, 0⟩, ⟨R.SEQ_STREAM_TABLE_LAST_STEP, 128, 1, 0⟩, ⟨R.SEQ_STREAM_TABLE_CLAUSE_COUNT, 192, 1, 0⟩]⟩,
  ⟨"SEQ_SCHED", 0x0, 0x100, 16, 1,
    [⟨R.SEQ_SCHED_SLICE, 0, 1, 0⟩, ⟨R.SEQ_SCHED_PREEMPT, 24, 1, 0⟩]⟩,
  ⟨"SEQ_AGE", 0x4, 0x100, 16, 1,
    [⟨R.SEQ_AGE_AGE_LIMIT, 0, 1, 0⟩]⟩,
  ⟨"SEQ_PROG_BASE", 0x8, 0x100, 16, 2,
    [⟨R.SEQ_PROG_BASE_PA, 12, 1, 0⟩]⟩,
  ⟨"SEQ_PROG_CFG", 0x10, 0x100, 16, 1,
    [⟨R.SEQ_PROG_CFG_ENTRIES, 0, 1, 0⟩]⟩,
  ⟨"SEQ_BATCH_CFG", 0x14, 0x100, 16, 1,
    [⟨R.SEQ_BATCH_CFG_ENABLE, 0, 1, 0⟩, ⟨R.SEQ_BATCH_CFG_CTX, 1, 1, 0⟩, ⟨R.SEQ_BATCH_CFG_POLICY, 13, 1, 0⟩, ⟨R.SEQ_BATCH_CFG_REPLAYS, 15, 1, 0⟩]⟩,
  ⟨"SEQ_PLAN_BASE", 0x18, 0x100, 16, 2,
    [⟨R.SEQ_PLAN_BASE_ADDR, 6, 1, 0⟩]⟩,
  ⟨"SEQ_WORK_BASE", 0x20, 0x100, 16, 2,
    [⟨R.SEQ_WORK_BASE_ADDR, 16, 1, 0⟩]⟩,
  ⟨"SEQ_BATCH_LIM", 0x28, 0x100, 16, 1,
    [⟨R.SEQ_BATCH_LIM_MAX_SEQ, 0, 1, 0⟩, ⟨R.SEQ_BATCH_LIM_CHUNK, 16, 1, 0⟩]⟩,
  ⟨"SEQ_BATCH_BUDGET", 0x2c, 0x100, 16, 1,
    [⟨R.SEQ_BATCH_BUDGET_BUDGET, 0, 1, 0⟩]⟩,
  ⟨"SEQ_WORK_CFG", 0x30, 0x100, 16, 1,
    [⟨R.SEQ_WORK_CFG_ROWS, 0, 1, 0⟩]⟩ ]

/-- Registers of the SEQ_ block, part 2 (offsets within the block). -/
def regsSeq2 : List RegDef :=
  [
  ⟨"SEQ_STEP_STATUS", 0x34, 0x100, 16, 1,
    [⟨R.SEQ_STEP_STATUS_STATE, 0, 1, 0⟩, ⟨R.SEQ_STEP_STATUS_ERR, 2, 1, 0⟩, ⟨R.SEQ_STEP_STATUS_ERR_CODE, 4, 1, 0⟩, ⟨R.SEQ_STEP_STATUS_ACTIVE, 8, 1, 0⟩]⟩,
  ⟨"SEQ_STEP_NUM", 0x38, 0x100, 16, 1,
    [⟨R.SEQ_STEP_NUM_STEP, 0, 1, 0⟩]⟩,
  ⟨"SEQ_DL_MISS", 0x3c, 0x100, 16, 1,
    [⟨R.SEQ_DL_MISS_COUNT, 0, 1, 0⟩]⟩,
  ⟨"SEQ_PREEMPT", 0x40, 0x100, 16, 1,
    [⟨R.SEQ_PREEMPT_COUNT, 0, 1, 0⟩]⟩,
  ⟨"SEQ_PROMOTE", 0x44, 0x100, 16, 1,
    [⟨R.SEQ_PROMOTE_COUNT, 0, 1, 0⟩]⟩,
  ⟨"SEQ_REPLAY", 0x48, 0x100, 16, 1,
    [⟨R.SEQ_REPLAY_COUNT, 0, 1, 0⟩]⟩,
  ⟨"SEQ_BOOST", 0x4c, 0x100, 16, 1,
    [⟨R.SEQ_BOOST_COUNT, 0, 1, 0⟩]⟩,
  ⟨"SEQ_KICK_CFG", 0x1000, 0x0, 1, 1,
    [⟨R.SEQ_KICK_CFG_MAX, 0, 1, 0⟩, ⟨R.SEQ_KICK_CFG_DRAIN, 8, 1, 0⟩]⟩ ]

/-- The registers of the SEQ_ block. -/
def regsSeq : List RegDef := regsSeq0 ++ regsSeq1 ++ regsSeq2

end Sys2Proof.Machine
end

