-- ==== Sys2Proof/Machine/RegsTime.lean ====
section
/-! DEFINITION. The fields and registers of the TIME_ block, from the field tables and offset tables of R397, R398, R399, R400. -/

namespace Sys2Proof.Machine

/-- TIME_CTL, R398: [0:0], WO. -/
def R.TIME_CTL_RATE : Fld := ⟨343, 1, .wo, .const 0, .any⟩
/-- TIME_CTL, R398: [1:1], WO. -/
def R.TIME_CTL_STEP : Fld := ⟨344, 1, .wo, .const 0, .any⟩
/-- TIME_CTL, R398: [2:2], WO. -/
def R.TIME_CTL_LOAD : Fld := ⟨345, 1, .wo, .const 0, .any⟩
/-- TIME_STATUS, R398: [0:0], RO. -/
def R.TIME_STATUS_PENDING : Fld := ⟨346, 1, .ro, .const 0, .any⟩
/-- TIME_STATUS, R398: [1:1], W1C. -/
def R.TIME_STATUS_BACKSTEP : Fld := ⟨347, 1, .w1c, .const 0, .any⟩
/-- TIME_COUNT, R398: [63:0], RO. -/
def R.TIME_COUNT_COUNT : Fld := ⟨348, 64, .ro, .const 0, .any⟩
/-- TIME_NOW, R397: [127:0], RO. -/
def R.TIME_NOW_TIME : Fld := ⟨349, 128, .ro, .const 0, .any⟩
/-- TIME_RATE, R398: [39:0], RO. -/
def R.TIME_RATE_RATE : Fld := ⟨350, 40, .ro, .const 8589934592, .any⟩
/-- TIME_RATE_NEW, R398: [39:0], RW. -/
def R.TIME_RATE_NEW_RATE : Fld := ⟨351, 40, .rw, .const 8589934592, .range 8585639625 8594229559⟩
/-- TIME_OFFSET, R398: [95:0], RO. -/
def R.TIME_OFFSET_OFFSET : Fld := ⟨352, 96, .ro, .const 0, .any⟩
/-- TIME_OFFSET_NEW, R398: [95:0], RW. -/
def R.TIME_OFFSET_NEW_OFFSET : Fld := ⟨353, 96, .rw, .const 0, .any⟩
/-- TIME_OFFSET_ADJ, R398: [63:0], RW. -/
def R.TIME_OFFSET_ADJ_ADJ : Fld := ⟨354, 64, .rw, .const 0, .any⟩
/-- TIME_APPLY_AT, R398: [63:0], RO. -/
def R.TIME_APPLY_AT_COUNT : Fld := ⟨355, 64, .ro, .const 0, .any⟩
/-- TIME_CONV_IN, R398: [63:0], RW. -/
def R.TIME_CONV_IN_COUNT : Fld := ⟨356, 64, .rw, .const 0, .any⟩
/-- TIME_CONV_OUT, R397: [127:0], RO. -/
def R.TIME_CONV_OUT_TIME : Fld := ⟨357, 128, .ro, .const 0, .any⟩
/-- TIME_DIE_SKEW_d, R398: [7:0], RO. -/
def R.TIME_DIE_SKEW_D : Fld := ⟨358, 8, .ro, .const 0, .any⟩
/-- TIME_DIE_SKEW_d, R398: [8:8], W1C. -/
def R.TIME_DIE_SKEW_OUT : Fld := ⟨359, 1, .w1c, .const 0, .any⟩
/-- TIME_DIE_SKEW_d, R398: [31:16], RC. -/
def R.TIME_DIE_SKEW_CORRECTIONS : Fld := ⟨360, 16, .rc, .const 0, .any⟩
/-- TIME_SNAP_CTL, R399: [0:0], WO. -/
def R.TIME_SNAP_CTL_ARM : Fld := ⟨361, 1, .wo, .const 0, .any⟩
/-- TIME_SNAP_CTL, R399: [1:1], RW. -/
def R.TIME_SNAP_CTL_FABRIC : Fld := ⟨362, 1, .rw, .const 0, .any⟩
/-- TIME_SNAP_CTL, R399: [2:2], RW. -/
def R.TIME_SNAP_CTL_REMOTE_EN : Fld := ⟨363, 1, .rw, .const 0, .any⟩
/-- TIME_SNAP_STATUS, R399: [0:0], RO. -/
def R.TIME_SNAP_STATUS_ARMED : Fld := ⟨364, 1, .ro, .const 0, .any⟩
/-- TIME_SNAP_STATUS, R399: [1:1], W1C. -/
def R.TIME_SNAP_STATUS_DONE : Fld := ⟨365, 1, .w1c, .const 0, .any⟩
/-- TIME_SNAP_STATUS, R399: [2:2], RO. -/
def R.TIME_SNAP_STATUS_LATE : Fld := ⟨366, 1, .ro, .const 0, .any⟩
/-- TIME_SNAP_STATUS, R399: [3:3], RO. -/
def R.TIME_SNAP_STATUS_REMOTE : Fld := ⟨367, 1, .ro, .const 0, .any⟩
/-- TIME_SNAP_STATUS, R399: [8:4], RO. -/
def R.TIME_SNAP_STATUS_MISSED : Fld := ⟨368, 5, .ro, .const 0, .any⟩
/-- TIME_SNAP_VIEW, R399: [0:0], RW. -/
def R.TIME_SNAP_VIEW_VIEW : Fld := ⟨369, 1, .rw, .const 0, .any⟩
/-- TIME_SNAP_AT, R399: [127:0], RW. -/
def R.TIME_SNAP_AT_TIME : Fld := ⟨370, 128, .rw, .const 0, .any⟩
/-- TIME_SNAP_TICK_d, R399: [63:0], RO. -/
def R.TIME_SNAP_TICK_COUNT : Fld := ⟨371, 64, .ro, .const 0, .any⟩
/-- TIME_SNAP_ACK, R399: [63:0], RO. -/
def R.TIME_SNAP_ACK_PEERS : Fld := ⟨372, 64, .ro, .const 0, .any⟩
/-- TIME_PTP_n CTL, R400: [0:0], RW. -/
def R.TIME_PTP_CTL_EN : Fld := ⟨373, 1, .rw, .const 0, .any⟩
/-- TIME_PTP_n CTL, R400: [1:1], RW. -/
def R.TIME_PTP_CTL_ONESTEP : Fld := ⟨374, 1, .rw, .const 0, .any⟩
/-- TIME_PTP_n CTL, R400: [2:2], RW. -/
def R.TIME_PTP_CTL_TC : Fld := ⟨375, 1, .rw, .const 0, .any⟩
/-- TIME_PTP_n CTL, R400: [3:3], RW. -/
def R.TIME_PTP_CTL_P2P : Fld := ⟨376, 1, .rw, .const 0, .any⟩
/-- TIME_PTP_n LAT, R400: [15:0], RW. -/
def R.TIME_PTP_LAT_INGRESS : Fld := ⟨377, 16, .rw, .const 0, .any⟩
/-- TIME_PTP_n LAT, R400: [31:16], RW. -/
def R.TIME_PTP_LAT_EGRESS : Fld := ⟨378, 16, .rw, .const 0, .any⟩
/-- TIME_PTP_n LINK_DELAY, R400: [31:0], RW. -/
def R.TIME_PTP_LINK_DELAY_U : Fld := ⟨379, 32, .rw, .const 0, .any⟩
/-- TIME_PTP_n TXTS, R400: [127:0], RO. -/
def R.TIME_PTP_TXTS_TIME : Fld := ⟨380, 128, .ro, .const 0, .any⟩
/-- TIME_PTP_n TXSEQ, R400: [15:0], RO. -/
def R.TIME_PTP_TXSEQ_SEQUENCE_ID : Fld := ⟨381, 16, .ro, .const 0, .any⟩
/-- TIME_PTP_n TXSEQ, R400: [19:16], RO. -/
def R.TIME_PTP_TXSEQ_MSGTYPE : Fld := ⟨382, 4, .ro, .const 0, .any⟩
/-- TIME_PTP_n TXSEQ, R400: [31:31], W1C. -/
def R.TIME_PTP_TXSEQ_VALID : Fld := ⟨383, 1, .w1c, .const 0, .any⟩
/-- TIME_PTP_n UNCORRECTED, R400: [31:0], RC. -/
def R.TIME_PTP_UNCORRECTED_COUNT : Fld := ⟨384, 32, .rc, .const 0, .any⟩
/-- TIME_FAB_CTL, R400: [0:0], RW. -/
def R.TIME_FAB_CTL_EN : Fld := ⟨385, 1, .rw, .const 0, .any⟩
/-- TIME_FAB_CTL, R400: [1:1], RW. -/
def R.TIME_FAB_CTL_MASTER : Fld := ⟨386, 1, .rw, .const 0, .any⟩
/-- TIME_FAB_CTL, R400: [15:8], RW. -/
def R.TIME_FAB_CTL_SYNC_MS : Fld := ⟨387, 8, .rw, .const 10, .range 1 255⟩
/-- TIME_FAB_CTL, R400: [23:16], RW. -/
def R.TIME_FAB_CTL_PDELAY_MS : Fld := ⟨388, 8, .rw, .const 100, .range 1 255⟩
/-- TIME_FAB_OFFSET, R400: [63:0], RO. -/
def R.TIME_FAB_OFFSET_U : Fld := ⟨389, 64, .ro, .const 0, .any⟩
/-- TIME_FAB_AT, R400: [63:0], RO. -/
def R.TIME_FAB_AT_COUNT : Fld := ⟨390, 64, .ro, .const 0, .any⟩
/-- TIME_FAB_SEQ, R400: [31:0], RO. -/
def R.TIME_FAB_SEQ_SYNC_SEQ : Fld := ⟨391, 32, .ro, .const 0, .any⟩
/-- TIME_FAB_PDELAY_m, R400: [31:0], RO. -/
def R.TIME_FAB_PDELAY_U : Fld := ⟨392, 32, .ro, .const 0, .any⟩

/-- Registers of the TIME_ block, part 0 (offsets within the block). -/
def regsTime0 : List RegDef :=
  [
  ⟨"TIME_CTL", 0x0, 0x0, 1, 1,
    [⟨R.TIME_CTL_RATE, 0, 1, 0⟩, ⟨R.TIME_CTL_STEP, 1, 1, 0⟩, ⟨R.TIME_CTL_LOAD, 2, 1, 0⟩]⟩,
  ⟨"TIME_STATUS", 0x4, 0x0, 1, 1,
    [⟨R.TIME_STATUS_PENDING, 0, 1, 0⟩, ⟨R.TIME_STATUS_BACKSTEP, 1, 1, 0⟩]⟩,
  ⟨"TIME_COUNT", 0x8, 0x0, 1, 2,
    [⟨R.TIME_COUNT_COUNT, 0, 1, 0⟩]⟩,
  ⟨"TIME_NOW", 0x10, 0x0, 1, 4,
    [⟨R.TIME_NOW_TIME, 0, 1, 0⟩]⟩,
  ⟨"TIME_RATE", 0x20, 0x0, 1, 2,
    [⟨R.TIME_RATE_RATE, 0, 1, 0⟩]⟩,
  ⟨"TIME_RATE_NEW", 0x28, 0x0, 1, 2,
    [⟨R.TIME_RATE_NEW_RATE, 0, 1, 0⟩]⟩,
  ⟨"TIME_OFFSET", 0x30, 0x0, 1, 4,
    [⟨R.TIME_OFFSET_OFFSET, 0, 1, 0⟩]⟩,
  ⟨"TIME_OFFSET_NEW", 0x40, 0x0, 1, 4,
    [⟨R.TIME_OFFSET_NEW_OFFSET, 0, 1, 0⟩]⟩,
  ⟨"TIME_OFFSET_ADJ", 0x50, 0x0, 1, 2,
    [⟨R.TIME_OFFSET_ADJ_ADJ, 0, 1, 0⟩]⟩,
  ⟨"TIME_APPLY_AT", 0x58, 0x0, 1, 2,
    [⟨R.TIME_APPLY_AT_COUNT, 0, 1, 0⟩]⟩,
  ⟨"TIME_CONV_IN", 0x60, 0x0, 1, 2,
    [⟨R.TIME_CONV_IN_COUNT, 0, 1, 0⟩]⟩,
  ⟨"TIME_CONV_OUT", 0x70, 0x0, 1, 4,
    [⟨R.TIME_CONV_OUT_TIME, 0, 1, 0⟩]⟩ ]

/-- Registers of the TIME_ block, part 1 (offsets within the block). -/
def regsTime1 : List RegDef :=
  [
  ⟨"TIME_DIE_SKEW", 0x80, 0x4, 4, 1,
    [⟨R.TIME_DIE_SKEW_D, 0, 1, 0⟩, ⟨R.TIME_DIE_SKEW_OUT, 8, 1, 0⟩, ⟨R.TIME_DIE_SKEW_CORRECTIONS, 16, 1, 0⟩]⟩,
  ⟨"TIME_SNAP_CTL", 0x100, 0x0, 1, 1,
    [⟨R.TIME_SNAP_CTL_ARM, 0, 1, 0⟩, ⟨R.TIME_SNAP_CTL_FABRIC, 1, 1, 0⟩, ⟨R.TIME_SNAP_CTL_REMOTE_EN, 2, 1, 0⟩]⟩,
  ⟨"TIME_SNAP_STATUS", 0x104, 0x0, 1, 1,
    [⟨R.TIME_SNAP_STATUS_ARMED, 0, 1, 0⟩, ⟨R.TIME_SNAP_STATUS_DONE, 1, 1, 0⟩, ⟨R.TIME_SNAP_STATUS_LATE, 2, 1, 0⟩, ⟨R.TIME_SNAP_STATUS_REMOTE, 3, 1, 0⟩, ⟨R.TIME_SNAP_STATUS_MISSED, 4, 1, 0⟩]⟩,
  ⟨"TIME_SNAP_VIEW", 0x108, 0x0, 1, 1,
    [⟨R.TIME_SNAP_VIEW_VIEW, 0, 1, 0⟩]⟩,
  ⟨"TIME_SNAP_AT", 0x110, 0x0, 1, 4,
    [⟨R.TIME_SNAP_AT_TIME, 0, 1, 0⟩]⟩,
  ⟨"TIME_SNAP_TICK", 0x120, 0x8, 5, 2,
    [⟨R.TIME_SNAP_TICK_COUNT, 0, 1, 0⟩]⟩,
  ⟨"TIME_SNAP_ACK", 0x148, 0x0, 1, 2,
    [⟨R.TIME_SNAP_ACK_PEERS, 0, 1, 0⟩]⟩,
  ⟨"TIME_PTP_CTL", 0x200, 0x40, 2, 1,
    [⟨R.TIME_PTP_CTL_EN, 0, 1, 0⟩, ⟨R.TIME_PTP_CTL_ONESTEP, 1, 1, 0⟩, ⟨R.TIME_PTP_CTL_TC, 2, 1, 0⟩, ⟨R.TIME_PTP_CTL_P2P, 3, 1, 0⟩]⟩,
  ⟨"TIME_PTP_LAT", 0x204, 0x40, 2, 1,
    [⟨R.TIME_PTP_LAT_INGRESS, 0, 1, 0⟩, ⟨R.TIME_PTP_LAT_EGRESS, 16, 1, 0⟩]⟩,
  ⟨"TIME_PTP_LINK_DELAY", 0x208, 0x40, 2, 1,
    [⟨R.TIME_PTP_LINK_DELAY_U, 0, 1, 0⟩]⟩,
  ⟨"TIME_PTP_TXTS", 0x210, 0x40, 2, 4,
    [⟨R.TIME_PTP_TXTS_TIME, 0, 1, 0⟩]⟩,
  ⟨"TIME_PTP_TXSEQ", 0x220, 0x40, 2, 1,
    [⟨R.TIME_PTP_TXSEQ_SEQUENCE_ID, 0, 1, 0⟩, ⟨R.TIME_PTP_TXSEQ_MSGTYPE, 16, 1, 0⟩, ⟨R.TIME_PTP_TXSEQ_VALID, 31, 1, 0⟩]⟩ ]

/-- Registers of the TIME_ block, part 2 (offsets within the block). -/
def regsTime2 : List RegDef :=
  [
  ⟨"TIME_PTP_UNCORRECTED", 0x224, 0x40, 2, 1,
    [⟨R.TIME_PTP_UNCORRECTED_COUNT, 0, 1, 0⟩]⟩,
  ⟨"TIME_FAB_CTL", 0x300, 0x0, 1, 1,
    [⟨R.TIME_FAB_CTL_EN, 0, 1, 0⟩, ⟨R.TIME_FAB_CTL_MASTER, 1, 1, 0⟩, ⟨R.TIME_FAB_CTL_SYNC_MS, 8, 1, 0⟩, ⟨R.TIME_FAB_CTL_PDELAY_MS, 16, 1, 0⟩]⟩,
  ⟨"TIME_FAB_OFFSET", 0x308, 0x0, 1, 2,
    [⟨R.TIME_FAB_OFFSET_U, 0, 1, 0⟩]⟩,
  ⟨"TIME_FAB_AT", 0x310, 0x0, 1, 2,
    [⟨R.TIME_FAB_AT_COUNT, 0, 1, 0⟩]⟩,
  ⟨"TIME_FAB_SEQ", 0x318, 0x0, 1, 1,
    [⟨R.TIME_FAB_SEQ_SYNC_SEQ, 0, 1, 0⟩]⟩,
  ⟨"TIME_FAB_PDELAY", 0x320, 0x4, 6, 1,
    [⟨R.TIME_FAB_PDELAY_U, 0, 1, 0⟩]⟩ ]

/-- The registers of the TIME_ block. -/
def regsTime : List RegDef := regsTime0 ++ regsTime1 ++ regsTime2

end Sys2Proof.Machine
end

