-- ==== Sys2Proof/Machine/RegsXlt.lean ====
section
/-! DEFINITION. The fields and registers of the XLT_ block, from the field tables and offset tables of R252, R253, R254, R255. -/

namespace Sys2Proof.Machine

/-- XLT_CTL, R253: [0:0], RW. -/
def R.XLT_CTL_ENABLE : Fld := ⟨135, 1, .rw, .const 0, .any⟩
/-- XLT_CTL, R253: [1:1], RW. -/
def R.XLT_CTL_MIG_ENABLE : Fld := ⟨136, 1, .rw, .const 0, .any⟩
/-- XLT_CTL, R253: [2:2], RO. -/
def R.XLT_CTL_SWEEP_DONE : Fld := ⟨137, 1, .ro, .const 0, .any⟩
/-- XLT_CTL, R253: [8:4], RO. -/
def R.XLT_CTL_MIG_ACTIVE : Fld := ⟨138, 5, .ro, .const 0, .any⟩
/-- XLT_CTX_BASE, R253: [38:16], RW. -/
def R.XLT_CTX_BASE_PA : Fld := ⟨139, 23, .rw, .const 0, .any⟩
/-- XLT_INV_CMD, R253: [1:0], WO. -/
def R.XLT_INV_CMD_SCOPE : Fld := ⟨140, 2, .wo, .const 0, .any⟩
/-- XLT_INV_CMD, R253: [13:2], RW. -/
def R.XLT_INV_CMD_CTX : Fld := ⟨141, 12, .rw, .const 0, .any⟩
/-- XLT_INV_CMD, R253: [29:14], RW. -/
def R.XLT_INV_CMD_PAGES : Fld := ⟨142, 16, .rw, .const 1, .range 1 65535⟩
/-- XLT_INV_STATUS, R253: [0:0], RO. -/
def R.XLT_INV_STATUS_BUSY : Fld := ⟨143, 1, .ro, .const 0, .any⟩
/-- XLT_INV_STATUS, R253: [1:1], W1C. -/
def R.XLT_INV_STATUS_DONE : Fld := ⟨144, 1, .w1c, .const 0, .any⟩
/-- XLT_INV_ADDR, R253: [46:16], RW. -/
def R.XLT_INV_ADDR_PAGE : Fld := ⟨145, 31, .rw, .const 0, .any⟩
/-- XLT_MIG_TIMEOUT, R254: [23:0], RW. -/
def R.XLT_MIG_TIMEOUT_US : Fld := ⟨146, 24, .rw, .const 10000, .range 1 16777215⟩
/-- XLT_MIG_DONE, R254: [31:0], RC. -/
def R.XLT_MIG_DONE_COUNT : Fld := ⟨147, 32, .rc, .const 0, .any⟩
/-- XLT_MIG_FAIL, R254: [31:0], RC. -/
def R.XLT_MIG_FAIL_COUNT : Fld := ⟨148, 32, .rc, .const 0, .any⟩
/-- XLT_EVICT, R254: [31:0], RC. -/
def R.XLT_EVICT_COUNT : Fld := ⟨149, 32, .rc, .const 0, .any⟩
/-- XLT_FAULT_INFO, R255: [3:0], RO. -/
def R.XLT_FAULT_INFO_CLASS : Fld := ⟨150, 4, .ro, .const 0, .any⟩
/-- XLT_FAULT_INFO, R255: [15:4], RO. -/
def R.XLT_FAULT_INFO_CTX : Fld := ⟨151, 12, .ro, .const 0, .any⟩
/-- XLT_FAULT_INFO, R255: [21:16], RO. -/
def R.XLT_FAULT_INFO_CORE : Fld := ⟨152, 6, .ro, .const 0, .any⟩
/-- XLT_FAULT_INFO, R255: [22:22], RO. -/
def R.XLT_FAULT_INFO_HUB : Fld := ⟨153, 1, .ro, .const 0, .any⟩
/-- XLT_FAULT_INFO, R255: [23:23], RO. -/
def R.XLT_FAULT_INFO_WRITE : Fld := ⟨154, 1, .ro, .const 0, .any⟩
/-- XLT_FAULT_INFO, R255: [24:24], RO. -/
def R.XLT_FAULT_INFO_DIE_AGENT : Fld := ⟨155, 1, .ro, .const 0, .any⟩
/-- XLT_FAULT_INFO, R255: [31:31], W1C. -/
def R.XLT_FAULT_INFO_VALID : Fld := ⟨156, 1, .w1c, .const 0, .any⟩
/-- XLT_FAULT_ADDR, R255: [47:0], RO. -/
def R.XLT_FAULT_ADDR_DA : Fld := ⟨157, 48, .ro, .const 0, .any⟩
/-- XLT_BULK_SRC_n CFG, R254: [0:0], RW. -/
def R.XLT_BULK_SRC_CFG_ENABLE : Fld := ⟨158, 1, .rw, .const 0, .any⟩
/-- XLT_BULK_SRC_n CFG, R254: [1:1], RW. -/
def R.XLT_BULK_SRC_CFG_KIND : Fld := ⟨159, 1, .rw, .const 0, .any⟩
/-- XLT_BULK_SRC_n CFG, R254: [2:2], RW. -/
def R.XLT_BULK_SRC_CFG_LBA4K : Fld := ⟨160, 1, .rw, .const 0, .any⟩
/-- XLT_BULK_SRC_n CFG, R254: [13:8], RW. -/
def R.XLT_BULK_SRC_CFG_DEPTH_M1 : Fld := ⟨161, 6, .rw, .const 15, .range 1 63⟩
/-- XLT_BULK_SRC_n NSID, R254: [31:0], RW. -/
def R.XLT_BULK_SRC_NSID_NSID : Fld := ⟨162, 32, .rw, .const 0, .any⟩
/-- XLT_BULK_SRC_n BASE, R254: [63:0], RW. -/
def R.XLT_BULK_SRC_BASE_BASE : Fld := ⟨163, 64, .rw, .const 0, .any⟩
/-- XLT_BULK_SRC_n DOORBELL, R254: [63:0], RW. -/
def R.XLT_BULK_SRC_DOORBELL_ADDR : Fld := ⟨164, 64, .rw, .const 0, .any⟩
/-- XLT_MIG_BASE_p, R254: [38:12], RW. -/
def R.XLT_MIG_BASE_PA : Fld := ⟨165, 27, .rw, .const 0, .any⟩
/-- XLT_MIG_CFG_p, R254: [15:0], RW. -/
def R.XLT_MIG_CFG_ENTRIES : Fld := ⟨166, 16, .rw, .const 0, .any⟩
/-- XLT_MIG_CFG_p, R254: [31:16], RO. -/
def R.XLT_MIG_CFG_HAND : Fld := ⟨167, 16, .ro, .const 0, .any⟩

/-- Registers of the XLT_ block, part 0 (offsets within the block). -/
def regsXlt0 : List RegDef :=
  [
  ⟨"XLT_CTL", 0x0, 0x0, 1, 1,
    [⟨R.XLT_CTL_ENABLE, 0, 1, 0⟩, ⟨R.XLT_CTL_MIG_ENABLE, 1, 1, 0⟩, ⟨R.XLT_CTL_SWEEP_DONE, 2, 1, 0⟩, ⟨R.XLT_CTL_MIG_ACTIVE, 4, 1, 0⟩]⟩,
  ⟨"XLT_CTX_BASE", 0x8, 0x0, 1, 2,
    [⟨R.XLT_CTX_BASE_PA, 16, 1, 0⟩]⟩,
  ⟨"XLT_INV_CMD", 0x10, 0x0, 1, 1,
    [⟨R.XLT_INV_CMD_SCOPE, 0, 1, 0⟩, ⟨R.XLT_INV_CMD_CTX, 2, 1, 0⟩, ⟨R.XLT_INV_CMD_PAGES, 14, 1, 0⟩]⟩,
  ⟨"XLT_INV_STATUS", 0x14, 0x0, 1, 1,
    [⟨R.XLT_INV_STATUS_BUSY, 0, 1, 0⟩, ⟨R.XLT_INV_STATUS_DONE, 1, 1, 0⟩]⟩,
  ⟨"XLT_INV_ADDR", 0x18, 0x0, 1, 2,
    [⟨R.XLT_INV_ADDR_PAGE, 16, 1, 0⟩]⟩,
  ⟨"XLT_MIG_TIMEOUT", 0x20, 0x0, 1, 1,
    [⟨R.XLT_MIG_TIMEOUT_US, 0, 1, 0⟩]⟩,
  ⟨"XLT_MIG_DONE", 0x24, 0x0, 1, 1,
    [⟨R.XLT_MIG_DONE_COUNT, 0, 1, 0⟩]⟩,
  ⟨"XLT_MIG_FAIL", 0x28, 0x0, 1, 1,
    [⟨R.XLT_MIG_FAIL_COUNT, 0, 1, 0⟩]⟩,
  ⟨"XLT_EVICT", 0x2c, 0x0, 1, 1,
    [⟨R.XLT_EVICT_COUNT, 0, 1, 0⟩]⟩,
  ⟨"XLT_FAULT_INFO", 0x30, 0x0, 1, 1,
    [⟨R.XLT_FAULT_INFO_CLASS, 0, 1, 0⟩, ⟨R.XLT_FAULT_INFO_CTX, 4, 1, 0⟩, ⟨R.XLT_FAULT_INFO_CORE, 16, 1, 0⟩, ⟨R.XLT_FAULT_INFO_HUB, 22, 1, 0⟩, ⟨R.XLT_FAULT_INFO_WRITE, 23, 1, 0⟩, ⟨R.XLT_FAULT_INFO_DIE_AGENT, 24, 1, 0⟩, ⟨R.XLT_FAULT_INFO_VALID, 31, 1, 0⟩]⟩,
  ⟨"XLT_FAULT_ADDR", 0x38, 0x0, 1, 2,
    [⟨R.XLT_FAULT_ADDR_DA, 0, 1, 0⟩]⟩,
  ⟨"XLT_BULK_SRC_CFG", 0x100, 0x20, 16, 1,
    [⟨R.XLT_BULK_SRC_CFG_ENABLE, 0, 1, 0⟩, ⟨R.XLT_BULK_SRC_CFG_KIND, 1, 1, 0⟩, ⟨R.XLT_BULK_SRC_CFG_LBA4K, 2, 1, 0⟩, ⟨R.XLT_BULK_SRC_CFG_DEPTH_M1, 8, 1, 0⟩]⟩ ]

/-- Registers of the XLT_ block, part 1 (offsets within the block). -/
def regsXlt1 : List RegDef :=
  [
  ⟨"XLT_BULK_SRC_NSID", 0x104, 0x20, 16, 1,
    [⟨R.XLT_BULK_SRC_NSID_NSID, 0, 1, 0⟩]⟩,
  ⟨"XLT_BULK_SRC_BASE", 0x108, 0x20, 16, 2,
    [⟨R.XLT_BULK_SRC_BASE_BASE, 0, 1, 0⟩]⟩,
  ⟨"XLT_BULK_SRC_DOORBELL", 0x110, 0x20, 16, 2,
    [⟨R.XLT_BULK_SRC_DOORBELL_ADDR, 0, 1, 0⟩]⟩,
  ⟨"XLT_MIG_BASE", 0x400, 0x10, 16, 2,
    [⟨R.XLT_MIG_BASE_PA, 12, 1, 0⟩]⟩,
  ⟨"XLT_MIG_CFG", 0x408, 0x10, 16, 1,
    [⟨R.XLT_MIG_CFG_ENTRIES, 0, 1, 0⟩, ⟨R.XLT_MIG_CFG_HAND, 16, 1, 0⟩]⟩ ]

/-- The registers of the XLT_ block. -/
def regsXlt : List RegDef := regsXlt0 ++ regsXlt1

end Sys2Proof.Machine
end

