-- ==== Sys2Proof/Machine/Ops.lean ====
section
/-! DEFINITION. The named operations every family uses: registers, clocks, the trouble log's input, MSI-X messages and
the objects of State. -/

namespace Sys2Proof.Machine

/-! ### Registers -/

/-- A field's value: what is stored, or its Reset column (R7). -/
def State.reg (s : State) (f : Fld) (i : Nat := 0) (j : Nat := 0) : Nat := mget (f.rst.value i j) s.regs (f.key i j)

/-- A one-bit field read as a truth value. -/
def State.bit (s : State) (f : Fld) (i : Nat := 0) (j : Nat := 0) : Bool := decide (s.reg f i j ≠ 0)

/-- A field takes a value. -/
def setR (f : Fld) (v : Nat) (i : Nat := 0) (j : Nat := 0) : Act := .put (.reg f i j v)

/-- A counter field counts up and stays at its greatest value. -/
def bump (f : Fld) (n : Nat := 1) (i : Nat := 0) (j : Nat := 0) : Act :=
  .get fun s => setR f (satAdd f.w (s.reg f i j) n) i j

/-- The identifier of the field a register-file key belongs to, and its instance. -/
def keyId (k : Nat) : Nat := k / 2 ^ 40
def keyI (k : Nat) : Nat := k / 2 ^ 20 % 2 ^ 20
def keyJ (k : Nat) : Nat := k % 2 ^ 20

/-! ### Clocks (R28–R30, R48, R376) -/

/-- Core-clock periods in a microsecond and a millisecond; the cadence tick is 3 of them, a hub cycle 2 (R29). -/
def usU : Nat := 1500
def msU : Nat := 1500000

/-- A die's cadence count (0–3 the compute dies, 4 the Hub die). -/
def State.count (s : State) (d : Nat) : Nat :=
  let c := mget DieClk.stopped s.clk d
  if c.run then (((s.t / 3 : Nat) : Int) + c.base).toNat % 2 ^ 64 else c.hold

/-- The die of a global core (R14). -/
def dieOf (core : Nat) : Nat := core / 16

/-- The state of a core. -/
def State.core (s : State) (c : Nat) : CoreS := mget CoreS.reset s.cores c

/-- CORE_CYCLE (R48, R74). -/
def State.cyc (s : State) (c : Nat) : Nat :=
  let k := s.core c
  if k.cycRun then ((s.t : Int) + k.cycBase).toNat % 2 ^ 64 else k.cycHold

/-- The cadence count of the die a core lies on. -/
def State.coreTick (s : State) (c : Nat) : Nat := s.count (dieOf c)

/-- Time passes before an event takes place. -/
def after (dt : Nat) (a : Act) : Act := .seq (.put (.tick dt)) a

/-- A free value: one the spec leaves open (Config.freeValue of a counter that has not been used before). -/
def freshV (k : Nat → Act) : Act := .get fun s => .seq (.put .fresh) (k (Config.freeValue s.freeCtr))

/-! ### The trouble log (R381, R392–R396) -/

/-- An entry arrives at the writer's FIFO, or is dropped and counted when the FIFO is full (R393). -/
def logPut (e : LogEnt) : Act :=
  .get fun s =>
    if s.log.fifo.length < 64 then .put (.log fun l => { l with fifo := l.fifo ++ [e] })
    else .seq (bump R.LOG_LOST_COUNT) (.put (.log fun l =>
      { l with lost := some (match l.lost with
          | none => (s.count 4, 1, s.count 4)
          | some (f, n, _) => (f, n + 1, s.count 4)) }))

/-- An event is logged, stamped with the cadence count of the die on which it takes place (R381). -/
def logEv (die source cls ev data : Nat) : Act :=
  .get fun s => logPut ⟨s.count die, die, source, cls * 256 + ev, data % 2 ^ 96⟩

/-- Sources of R395. -/
def srcDmc (d : Nat) : Nat := 0x100 + d
def srcQue (d : Nat) : Nat := 0x110 + d
def srcXlt (d : Nat) : Nat := 0x120 + d
def srcHub : Nat := 0x200
def srcPwr : Nat := 0x201
def srcTime : Nat := 0x202
def srcSec : Nat := 0x203
def srcLog : Nat := 0x204
def srcSbp : Nat := 0x205
def srcIsp : Nat := 0x210
def srcAud : Nat := 0x211
def srcInp : Nat := 0x212
def srcFab : Nat := 0x220
def srcChr : Nat := 0x221
def srcSeq : Nat := 0x230

/-! ### MSI-X (R519, R520) -/

/-- The function and table entry a global vector belongs to (R519): function 0 is the PF, v + 1 the VF of partition v. -/
def State.vecOwner (s : State) (x : Nat) : Nat × Nat :=
  match findUp (fun v => decide (s.reg R.HUB_VF_CFG_VEC_BASE 0 v ≤ x) && decide (x < s.reg R.HUB_VF_CFG_VEC_BASE 0 v + s.reg R.HUB_VF_CFG_VEC_COUNT 0 v)) 0 16 with
  | some v => (v + 1, x - s.reg R.HUB_VF_CFG_VEC_BASE 0 v)
  | none => (0, x)

/-- A message is sent, held pending while its entry is masked, or discarded while its VF is off (R519). -/
def msix (x : Nat) : Act :=
  .get fun s =>
    let o := s.vecOwner x
    if decide (0 < o.1) && mget true s.host.vfOff (o.1 - 1) then bump R.HUB_MSI_DROP_COUNT
    else if mget false s.host.unmask (o.1 * 2048 + o.2) then .put (.out (.msix o.1 o.2))
    else .put (.host fun h => { h with pend := mset false h.pend (o.1 * 2048 + o.2) true })

/-- An event bit is set; where it was 0 and its mask bit is 1, the block's vector is sent once (R520). `en` holds one
mask bit per event bit. -/
def raiseEv (ev : Fld) (en vec : Fld) (bit : Nat) : Act :=
  .get fun s =>
    if s.bit ev then .nop
    else .seq (setR ev 1) (whenA (bitOf (s.reg en) bit) (msix (s.reg vec)))

/-! ### Objects -/

def State.sem (s : State) (h : Nat) : SemS := mget SemS.none s.die.sems h
def State.queue (s : State) (q : Nat) : QueS := mget QueS.none s.die.queues q
def State.xfer (s : State) (x : Nat) : Option Xfer := mget none s.die.xfers x
def State.clause (s : State) (c : Nat) : Option ClauseS := mget none s.sch.clauses c
def State.batch (s : State) (p : Nat) : BatchS := mget BatchS.none s.sch.batches p

def updCore (c : Nat) (f : CoreS → CoreS) : Act := .put (.core c f)
/-- A core makes progress (R468). -/
def progress (c : Nat) : Act := .get fun s => updCore c fun k => { k with prog := s.coreTick c }

def updSem (h : Nat) (f : SemS → SemS) : Act := .put (.die fun d => { d with sems := mupd SemS.none d.sems h f })
def updQueue (q : Nat) (f : QueS → QueS) : Act := .put (.die fun d => { d with queues := mupd QueS.none d.queues q f })
def setXfer (x : Nat) (v : Option Xfer) : Act := .put (.die fun d => { d with xfers := mset none d.xfers x v })
def updXfer (x : Nat) (f : Xfer → Xfer) : Act := .get fun s => withA (s.xfer x) fun v => setXfer x (some (f v))
def setClause (c : Nat) (v : Option ClauseS) : Act := .put (.sch fun d => { d with clauses := mset none d.clauses c v })
def updClause (c : Nat) (f : ClauseS → ClauseS) : Act := .get fun s => withA (s.clause c) fun v => setClause c (some (f v))
def updBatch (p : Nat) (f : BatchS → BatchS) : Act := .put (.sch fun d => { d with batches := mupd BatchS.none d.batches p f })

/-- The partition of a core: PART_VALID and PARTITION of CORE_STATUS (R73). -/
def State.corePart (s : State) (c : Nat) : Option Nat :=
  if s.bit R.CORE_STATUS_PART_VALID c then some (s.reg R.CORE_STATUS_PARTITION c) else none

/-- Queue field of local queue q % 8,192 on its home die (R256). -/
def State.qf (s : State) (f : Fld) (q : Nat) : Nat := s.reg f (q / 8192) (q % 8192)
def setQ (f : Fld) (q v : Nat) : Act := setR f v (q / 8192) (q % 8192)

/-- Semaphore field of a handle (R105): bits [11:0] the index, [13:12] the home die. -/
def State.smf (s : State) (f : Fld) (h : Nat) : Nat := s.reg f (h / 4096) (h % 4096)
def setS (f : Fld) (h v : Nat) : Act := setR f v (h / 4096) (h % 4096)

end Sys2Proof.Machine
end

