-- ==== Sys2Proof/Machine/Mem.lean ====
section
/-! DEFINITION. DRAM, its groups, its errors and its encryption, and the translation of device addresses (spec/07,
R220–R242). -/

namespace Sys2Proof.Machine

/-! ### Groups and channels (R221–R223) -/

/-- Set bits of a mask below bit 16. -/
def maskBits (m : Nat) : List Nat := (List.range 16).filter (fun k => bitOf m k)

/-- Bytes of one channel, by the fit training found (R238, R248). -/
def State.chCap (s : State) (d : Nat) : Nat := if s.reg R.DMC_STATUS_FIT d = 2 then 8 * 2 ^ 30 else 4 * 2 ^ 30

/-- Bytes of DRAM of a die. -/
def State.dieCap (s : State) (d : Nat) : Nat := 16 * s.chCap d

/-- The range [base, limit) of a group's configuration (R222). -/
def State.grpRange (s : State) (d n : Nat) : Nat × Nat :=
  let b := s.reg R.DMC_GROUP_BASE d n * 2 ^ 27
  let size := (maskBits (s.reg R.DMC_GROUP_CHMASK d n)).length * s.chCap d
  (b, b + (if s.bit R.DMC_GROUP_ECC d n then size / 32 * 31 else size))

/-- The enabled group that holds an offset of a die. -/
def State.grpAt (s : State) (d o : Nat) : Option Nat :=
  findUp (fun n => s.bit R.DMC_GROUP_ENABLE d n && decide ((s.grpRange d n).1 ≤ o) && decide (o < (s.grpRange d n).2)) 0 16

/-- Home die and offset of a physical address (R221). -/
def paDie (pa : Nat) : Nat := pa / 2 ^ 37 % 4
def paOff (pa : Nat) : Nat := pa % 2 ^ 37

/-- The group of a physical address; none where the offset is absent (R221, R222). -/
def State.grp (s : State) (pa : Nat) : Option Nat :=
  if 2 ^ 39 ≤ pa || s.dieCap (paDie pa) ≤ paOff pa then none else s.grpAt (paDie pa) (paOff pa)

/-- The channel that holds a physical address (R222). -/
def State.chanOf (s : State) (pa : Nat) : Nat :=
  match s.grp pa with
  | none => 0
  | some n =>
    let d := paDie pa
    let cs := maskBits (s.reg R.DMC_GROUP_CHMASK d n)
    let g := 2 ^ (s.reg R.DMC_GROUP_GRAIN d n + 8)
    cs.getD ((paOff pa - (s.grpRange d n).1) / g % cs.length) 0

/-- A place lies in a group of partition `p` (R223). -/
def State.inPart (s : State) (pa p : Nat) : Bool :=
  match s.grp pa with
  | none => false
  | some n => s.bit R.DMC_GROUP_PART_VALID (paDie pa) n && decide (s.reg R.DMC_GROUP_PART (paDie pa) n = p)

/-- A table may lie in a group of the partition or in one of the physical function (R223). -/
def State.tableOk (s : State) (pa p : Nat) : Bool :=
  match s.grp pa with
  | none => false
  | some n => !s.bit R.DMC_GROUP_PART_VALID (paDie pa) n || decide (s.reg R.DMC_GROUP_PART (paDie pa) n = p)

/-! ### Stored bytes and encryption (R224, R242) -/

/-- What a unit's group stores it under: 1 in the clear, else two more than the key (R242). A unit that nothing has
written since power-up or its scrub is stored under whatever key its group has (R243). -/
def State.keyAt (s : State) (pa : Nat) : Nat :=
  match s.grp pa with
  | none => 1
  | some n =>
    let d := paDie pa
    if s.bit R.DMC_GROUP_ENC d n then mget 0 s.sec.keys (s.reg R.DMC_PART_KEY_SLOT d (s.reg R.DMC_GROUP_PART d n)) + 2 else 1

/-- A byte of DRAM as its home controller delivers it. -/
def State.dramByte (s : State) (a : Nat) : Nat :=
  let k := mget 0 s.die.sealed (a / 64)
  let c := s.keyAt a
  if k = 0 || k = c then (mget (0 : Byte) s.dram a).toNat else (Config.garbled k c a).toNat

/-- `n` bytes of DRAM from a physical address, little-endian (R5). -/
def State.dramGet (s : State) (pa : Nat) : Nat → Nat
  | 0 => 0
  | n + 1 => s.dramByte pa + 256 * State.dramGet s (pa + 1) n

/-- `n` bytes written: a unit stored under another key is first carried over to the key in force (R224, R242). -/
def dramPut (pa n v : Nat) : Act :=
  if n = 0 then .nop
  else
    .seq (forA ((List.range ((pa + n - 1) / 64 - pa / 64 + 1)).map (fun q => pa / 64 + q)) (fun u =>
        .get fun s =>
          if mget 0 s.die.sealed u = s.keyAt (64 * u) then .nop
          else .seq (whenA (decide (mget 0 s.die.sealed u ≠ 0)) (.put (.dram (64 * u) 64 (s.dramGet (64 * u) 64))))
            (.put (.die fun d => { d with sealed := mset 0 d.sealed u (s.keyAt (64 * u)) }))))
      (.put (.dram pa n v))

/-! ### Errors (R239–R241, R237) -/

/-- The units a range of bytes touches. -/
def unitsOf (pa n : Nat) : List Nat := if n = 0 then [] else (List.range ((pa + n - 1) / 64 - pa / 64 + 1)).map (fun q => pa / 64 + q)

/-- The range holds a unit with an uncorrectable error. -/
def State.badUnit (s : State) (pa n : Nat) : Option Nat := (unitsOf pa n).find? (fun u => decide (mget 0 s.die.errs u = 2))

/-- An error comes up in a unit: where the group has ECC it stands until it is corrected or overwritten, else the
stored bytes are no longer what was written (R239). `err` 1 correctable, 2 uncorrectable, 3 a link failure. -/
def injectErr (pa err : Nat) : Act :=
  .get fun s =>
    if err = 0 then .nop
    else match s.grp pa with
    | none => .nop
    | some n =>
      if err = 3 then .put (.die fun d => { d with errs := mset 0 d.errs (pa / 64) 2 })
      else if s.bit R.DMC_GROUP_ECC (paDie pa) n then .put (.die fun d => { d with errs := mset 0 d.errs (pa / 64) err })
      else freshV fun v => .put (.dram (pa / 64 * 64) 64 v)

/-- Cached translations taken from a level-2 entry are discarded on all dies. -/
def dropTlb (pte : Nat) : Act := .put (.die fun x => { x with tlb := x.tlb.filter (fun e => match e.2 with | some h => decide (h.pte ≠ pte) | none => true) })

/-- A frame-table entry of a retired frame is marked so; the bulk page it served is no longer resident (R237, R240). -/
def retireEntry (at_ fr : Nat) : Act :=
  .get fun s =>
    let w := s.dramGet at_ 8
    let pte := s.dramGet (at_ + 8) 8
    let e := s.dramGet pte 8
    if bits w 16 23 ≠ fr ∨ w % 4 = 3 then .nop
    else .seq (dramPut at_ 8 (setBits w 0 2 3))
      (whenA (decide (w % 4 = 2) && decide (bits e 0 2 = 3) && decide (bits e 8 23 = fr))
        (.seq (dramPut pte 8 (setBits (setBits e 0 5 2) 8 23 0)) (dropTlb pte)))

/-- A frame is on its die's list of retired frames (R240). -/
def State.retired (s : State) (d fr : Nat) : Bool := (findUp (fun i => s.bit R.DMC_RETIRE_VALID d i && decide (s.reg R.DMC_RETIRE_FRAME d i = fr)) 0 64).isSome

/-- A frame that is not listed yet is retired: the next free DMC_RETIRE entry of its home die takes it, and the home die's migration
engine marks the frame-table entries that name it (R240). -/
def retireFrame (pa : Nat) (isTable : Bool) (ctx : Nat) : Act :=
  .get fun s =>
    let d := paDie pa
    let fr := pa / 2 ^ 16
    let free := fun (s : State) => findUp (fun i => !s.bit R.DMC_RETIRE_VALID d i) 0 64
    whenA (!s.retired d fr) (many [
      withA (free s) fun i => many [setR R.DMC_RETIRE_VALID 1 d i, setR R.DMC_RETIRE_SOURCE (b2n isTable) d i, setR R.DMC_RETIRE_FRAME fr d i],
      .get fun s => whenA (free s).isNone (setR R.DMC_STATUS_RETIRE_FULL 1 d),
      logEv d (srcDmc d) 3 0x12 (fr * 2 ^ 16 + ctx * 2 ^ 64),
      forA (List.range 16) (fun p => .get fun s =>
        forA (List.range (s.reg R.XLT_MIG_CFG_ENTRIES d p)) (fun e => retireEntry (s.reg R.XLT_MIG_BASE_PA d p * 2 ^ 12 + 16 * e) fr)) ])

/-- What R240 does for the errors a read of a range meets: each correctable unit is corrected and written back, each
uncorrectable one counted, recorded, logged and its frame retired. -/
def readErrs (pa n : Nat) (isTable : Bool) (ctx : Nat) : Act :=
  forA (unitsOf pa n) (fun u => .get fun s =>
    let e := mget 0 s.die.errs u
    let d := paDie (64 * u)
    let c := s.chanOf (64 * u)
    if e = 0 then .nop
    else many [
      bump (if e = 1 then R.DMC_ECC_COUNT_CE else R.DMC_ECC_COUNT_UE) 1 d c,
      setR R.DMC_ERR_LAST_OFFSET (paOff (64 * u)) d, setR R.DMC_ERR_LAST_CHANNEL c d,
      setR R.DMC_ERR_LAST_UE (b2n (decide (e = 2))) d, setR R.DMC_ERR_LAST_VALID 1 d,
      logEv d (srcDmc d) 3 (if e = 1 then 0x10 else 0x11) (64 * u + ctx * 2 ^ 64),
      if e = 1 then .put (.die fun x => { x with errs := mset 0 x.errs u 0 }) else retireFrame (64 * u) isTable ctx ])

/-- A write of a range by a context: a unit covered in part is first read (R224), which corrects or finds its error (R240); a partial write to a unit
with an uncorrectable error is discarded there, a full one clears the error (R237). -/
def dramStore (pa n v : Nat) (ctx : Nat := 0) : Act :=
  forA (unitsOf pa n) (fun u => .get fun s =>
    let lo := max pa (64 * u)
    let hi := min (pa + n) (64 * u + 64)
    let part := v / 2 ^ (8 * (lo - pa)) % 2 ^ (8 * (hi - lo))
    let d := paDie (64 * u)
    .seq (whenA (decide (hi - lo < 64)) (readErrs (64 * u) 64 false ctx)) (
    if mget 0 s.die.errs u = 2 && decide (hi - lo < 64) then .nop
    else many [
      .put (.die fun x => { x with errs := mset 0 x.errs u 0 }),
      dramPut lo (hi - lo) part,
      (match s.grp (64 * u) with
       | some g => whenA (s.bit R.DMC_GROUP_ECC d g) (.put (.die fun x => { x with codeDirty := mset false x.codeDirty (16 * d + s.chanOf (64 * u)) true }))
       | none => .nop) ]))

/-! ### Translation (R220, R225–R228) -/

/-- Where an access goes: DRAM, a scratchpad row range, hub memory, a peer's window; a fault class of R227 with the unit
whose uncorrectable error caused it; or a bulk page that is not resident. -/
inductive TRes where
  | dram (pa : Nat) (pte entry : Nat)
  | spad (core off : Nat)
  | hub (off : Nat)
  | peer (off : Nat)
  | fault (cls : Nat) (bad : Option Nat)
  | mig (pte old : Nat)
  deriving DecidableEq, Repr

/-- The context-table entry's place (R225). -/
def State.ctxPa (s : State) (d ctx : Nat) : Nat := s.reg R.XLT_CTX_BASE_PA d * 2 ^ 16 + 16 * ctx

/-- Words 0 and 1 of a context entry: none where the entry cannot be read. -/
def State.ctxEntry (s : State) (d ctx : Nat) : Option (Nat × Nat) :=
  let pa := s.ctxPa d ctx
  if (s.grp pa).isNone || (s.badUnit pa 16).isSome then none else some (s.dramGet pa 8, s.dramGet (pa + 8) 8)

/-- The entry is VALID with every bit marked 0 at 0 (R225, R227). -/
def ctxOk (e : Nat × Nat) : Bool := bitOf e.1 0 && decide (bits e.1 6 6 = 0) && decide (bits e.1 39 25 = 0) && decide (bits e.2 16 48 = 0)

/-- The partition of a context, where its entry is readable and valid. -/
def State.ctxPart (s : State) (d ctx : Nat) : Option Nat :=
  match s.ctxEntry d ctx with
  | none => none
  | some e => if ctxOk e then some (bits e.1 2 4) else none

/-- A level-2 entry no table of R226 allows. -/
def leafReserved (e : Nat) : Bool :=
  decide (bits e 5 3 ≠ 0) || bitOf e 31 || (bitOf e 2 && decide (bits e 0 2 ≠ 1))

/-- The checks on a level-2 entry (R227, steps 4 to 8); `tabs` says that every table of the walk lies in an allowed group. -/
def State.leaf (s : State) (d p : Nat) (ce : Nat × Nat) (da : Nat) (write tabs : Bool) (pte e : Nat) : TRes :=
  let k := bits e 0 2
  let pa := bits e 8 23 * 2 ^ 16 + da % 2 ^ 16
  if leafReserved e then .fault 5 none
  else if k = 0 then .fault 1 none
  else if k ≠ 2 ∧ (s.grp pa).isNone = true then .fault 5 none
  else if !tabs || (decide (k ≠ 2) && !s.inPart pa p) then .fault 3 none
  else if write && !(decide (k = 1) && bitOf e 2) then .fault 2 none
  else if k = 2 then
    if bitOf ce.1 1 && bitOf ce.2 (bits e 32 4) && s.bit R.XLT_BULK_SRC_CFG_ENABLE d (bits e 32 4) then .mig pte e else .fault 6 none
  else .dram pa pte e

/-- The table a root or level-1 entry points to, or the fault where it cannot be read, is reserved or is invalid. -/
def State.dirEntry (s : State) (pa : Nat) : Nat ⊕ TRes :=
  if (s.grp pa).isNone then .inr (.fault 5 none)
  else match s.badUnit pa 8 with
  | some u => .inr (.fault 5 (some u))
  | none =>
    let e := s.dramGet pa 8
    if decide (1 < bits e 0 2) || decide (bits e 2 12 ≠ 0) || decide (bits e 39 25 ≠ 0) then .inr (.fault 5 none)
    else if bits e 0 2 = 0 then .inr (.fault 1 none)
    else .inl (bits e 14 25 * 2 ^ 14)

/-- The three-level walk of R226. Each read and each entry is judged before the groups the tables lie in (R227). -/
def State.walk (s : State) (d ctx p : Nat) (ce : Nat × Nat) (da : Nat) (write : Bool) : TRes :=
  let e0 := bits ce.1 12 27 * 2 ^ 12 + 8 * bits da 38 9
  match s.dirEntry e0 with
  | .inr f => f
  | .inl l1 =>
    let e1 := l1 + 8 * bits da 27 11
    match s.dirEntry e1 with
    | .inr f => f
    | .inl l2 =>
      let pte := l2 + 8 * bits da 16 11
      if (s.grp pte).isNone then .fault 5 none
      else match s.badUnit pte 8 with
      | some u => .fault 5 (some u)
      | none => s.leaf d p ce da write ([s.ctxPa d ctx, e0, e1, pte].all (fun a => s.tableOk a p)) pte (s.dramGet pte 8)

/-- The key of a cached translation: die, context, page. -/
def tlbKey (d ctx da : Nat) : Nat := (d * 4096 + ctx) * 2 ^ 32 + da / 2 ^ 16

/-- A device address of a context as an agent of die `d` sees it; `core` is the core whose DMA port makes the access
(R220, R227, R228). -/
def State.translate (s : State) (d ctx da : Nat) (write : Bool) (core : Option Nat) : TRes :=
  if da < 2 ^ 47 && !s.bit R.XLT_CTL_ENABLE d then .fault 4 none
  else match s.ctxEntry d ctx with
  | none => .fault 5 ((s.badUnit (s.ctxPa d ctx) 16))
  | some ce =>
    let p := bits ce.1 2 4
    if !ctxOk ce then .fault 4 none
    else if da < 2 ^ 47 then
      match mget none s.die.tlb (tlbKey d ctx da) with
      | some h => s.leaf d p ce da write true h.pte h.entry
      | none => s.walk d ctx p ce da write
    else if da < 0x800010000000 then
      let g := (da - 2 ^ 47) / 2 ^ 22
      if core = some g && s.corePart g = some p then .spad g (da % 2 ^ 22) else .fault 3 none
    else if da < 0x800012000000 then
      let o := da - 0x800010000000
      let w := o / 2 ^ 21
      if s.bit R.HUB_WAY_MODE 0 w && s.bit R.HUB_WAY_PART_VALID 0 w && decide (s.reg R.HUB_WAY_PART 0 w = p) then .hub o else .fault 3 none
    else if 0xC00000000000 ≤ da && da < 0xD00000000000 then .peer (da - 0xC00000000000)
    else .fault 1 none

/-! ### Wake events (R446, R451, R453) -/

/-- The entry of a die (4: the Hub die) that is in progress, and when its wake time began. -/
def State.entering (s : State) (d : Nat) : Option EntS := mget none s.pwr.ent d
def State.exitOf (s : State) (d : Nat) : Option Nat := mget none s.pwr.exits d

/-- BUSY of a die follows its entry and its exit. -/
def setBusy (d : Nat) (b : Bool) : Act := if d = 4 then setR R.PWR_STATE_HUB_BUSY (b2n b) else setR R.PWR_STATE_BUSY (b2n b) 0 d

/-- The state code of a die, or of the Hub die. -/
def State.pwrState (s : State) (d : Nat) : Nat := if d = 4 then s.reg R.PWR_STATE_HUB else s.reg R.PWR_STATE_DIE 0 d

/-- A wake event for a die: it abandons an entry at its next point, and begins the exit of a sleeping die (R446, R451). -/
def wakeDie (d : Nat) : Act :=
  .get fun s =>
    if (s.entering d).isSome then .put (.pwr fun p => { p with wake := mset false p.wake d true })
    else if s.pwrState d = 0 ∨ (s.exitOf d).isSome then .nop
    else .seq (.put (.pwr fun p => { p with exits := mset none p.exits d (some s.t) })) (setBusy d true)

/-- After a translation that reached DRAM: an access homed on a sleeping die wakes it (R453), the walk's entry is cached, and REF of a resident bulk page is set by an atomic
OR (R228). An entry with BUSY set is not cached. -/
def noteWalk (d ctx da : Nat) : TRes → Act
  | .dram pa pte e =>
    .seq (wakeDie (paDie pa)) (.get fun s =>
      if 2 ^ 47 ≤ da || (mget none s.die.tlb (tlbKey d ctx da)).isSome || bitOf e 3 then .nop
      else many [
        .put (.die fun x => { x with tlb := mset none x.tlb (tlbKey d ctx da) (some ⟨e, pte⟩) }),
        whenA (decide (bits e 0 2 = 3) && !bitOf e 4) (.get fun s => dramPut pte 8 (setBits (s.dramGet pte 8) 4 1 1)) ])
  | _ => .nop

/-- A translation fault: the first is recorded, every one is logged, and a table's bad frame is retired (R237, R255). -/
def recordFault (d ctx da cls : Nat) (bad : Option Nat) (agent : Nat) (hub dieAgent write : Bool) : Act :=
  many [
    .get fun s => whenA (!s.bit R.XLT_FAULT_INFO_VALID d) (many [
      setR R.XLT_FAULT_INFO_CLASS cls d, setR R.XLT_FAULT_INFO_CTX ctx d, setR R.XLT_FAULT_INFO_CORE agent d,
      setR R.XLT_FAULT_INFO_HUB (b2n hub) d, setR R.XLT_FAULT_INFO_WRITE (b2n write) d,
      setR R.XLT_FAULT_INFO_DIE_AGENT (b2n dieAgent) d, setR R.XLT_FAULT_INFO_VALID 1 d, setR R.XLT_FAULT_ADDR_DA da d]),
    logEv d (srcXlt d) 3 cls (da + ctx * 2 ^ 64),
    withA bad (fun u => readErrs (64 * u) 64 true ctx) ]

/-- The outcome of reading or writing a run of bytes at once: the value, or the fault class. -/
inductive MRes where
  | ok (v : Nat)
  | bad (cls : Nat)
  deriving DecidableEq, Repr

/-- `n` bytes read at a device address as one access of a die's agent, page by page where it crosses one. The result
is computed on the state as it stands, where a lost frame of a resident bulk page leaves a page this agent may not migrate (R237, R516); `readAct` carries out its side effects. -/
def State.daRead (s : State) (d ctx da n : Nat) : MRes :=
  let n1 := min n (2 ^ 16 - da % 2 ^ 16)
  let one := fun (a m : Nat) => match s.translate d ctx a false none with
    | .dram pa _ e => if (s.badUnit pa m).isSome then MRes.bad (if bits e 0 2 = 3 then 6 else 9) else MRes.ok (s.dramGet pa m)
    | .hub o => MRes.ok (memRead s.hubMem o m)
    | .fault c _ => MRes.bad c
    | .mig _ _ => MRes.bad 6
    | _ => MRes.bad 1
  match one da n1 with
  | .bad c => .bad c
  | .ok v => if n1 = n then .ok v else
    match one (da + n1) (n - n1) with
    | .bad c => .bad c
    | .ok w => .ok (v + w * 2 ^ (8 * n1))

/-- The side effects of `daRead`: cached walks, corrected errors, recorded faults. `agent` as in R255. -/
def readAct (d ctx da n agent : Nat) (hub dieAgent : Bool) : Act :=
  let one := fun (a m : Nat) => Act.get fun s =>
    let t := s.translate d ctx a false none
    match t with
    | .dram pa _ e => many [noteWalk d ctx a t, readErrs pa m false ctx,
        whenA (decide (bits e 0 2 = 3) && (s.badUnit pa m).isSome) (recordFault d ctx a 6 none agent hub dieAgent false)]
    | .fault c b => recordFault d ctx a c b agent hub dieAgent false
    | .mig _ _ => recordFault d ctx a 6 none agent hub dieAgent false
    | _ => .nop
  let n1 := min n (2 ^ 16 - da % 2 ^ 16)
  .seq (one da n1) (whenA (decide (n1 < n)) (one (da + n1) (n - n1)))

/-- `n` bytes written at a device address as one access: the fault class there is, and the act that does it. -/
def State.daWriteFault (s : State) (d ctx da n : Nat) : Option Nat :=
  match s.translate d ctx da true none with
  | .dram pa _ _ => if (unitsOf pa n).any (fun u => decide (mget 0 s.die.errs u = 2) && (decide (64 * u < pa) || decide (pa + n < 64 * u + 64))) then some 9 else none
  | .hub _ => none
  | .fault c _ => some c
  | .mig _ _ => some 2
  | _ => some 1

def daWrite (d ctx da n v agent : Nat) (hub dieAgent : Bool) : Act :=
  .get fun s =>
    let t := s.translate d ctx da true none
    match t with
    | .dram pa _ _ => many [noteWalk d ctx da t, dramStore pa n v ctx]
    | .hub o => .put (.hubMem o n v)
    | .fault c b => recordFault d ctx da c b agent hub dieAgent true
    | .mig _ _ => recordFault d ctx da 2 none agent hub dieAgent true
    | _ => .nop

end Sys2Proof.Machine
end

