-- ==== Sys2Proof/Machine/Complete.lean ====
section
/-! DEFINITION. Semaphores at their home block (R282, R283, R312, R313), lost signals (R278), and the completion steps of
a descriptor (R267–R271). -/

namespace Sys2Proof.Machine

/-! ### Status codes of R271 -/

def stOK : Nat := 0
def stDescFormat : Nat := 0x10
def stAgProgram : Nat := 0x11
def stTagTimeout : Nat := 0x12
def stCancelled : Nat := 0x13
def stDieReset : Nat := 0x14
def stLengthLimit : Nat := 0x20
def stKvPool : Nat := 0x21
def stStreamFit : Nat := 0x22
def stStreamInvalid : Nat := 0x23
def stStreamError : Nat := 0x24
def stClauseFault : Nat := 0x30
def stDeadline : Nat := 0x31
def stKilled : Nat := 0x32
def stWindow : Nat := 0x40
def stPeerLost : Nat := 0x41
def stPoison : Nat := 9

/-! ### Semaphores -/

/-- The effective class of the clause a core runs (R294). -/
def State.coreClass (s : State) (c : Nat) : Nat := match s.clause (s.core c).clause with
  | some k => k.eclass
  | none => 0

/-- The waiter a grant goes to: highest effective class, then earliest start, then lower core (R312). -/
def State.bestWaiter (s : State) (l : List Waiter) : Option Waiter :=
  l.foldl (fun b w => match b with
    | none => some w
    | some x =>
      let cw := s.coreClass w.core
      let cx := s.coreClass x.core
      if cx < cw || (cw = cx && (w.start < x.start || (w.start = x.start && w.core < x.core))) then some w else some x) none

/-- A response starts back to its core (R114). -/
def respond (r : Resp) : Act := .put (.die fun d => { d with resps := d.resps ++ [r] })

/-- A lock goes to a core's clause: HELD, HOLDER and the hold-bound timer of the home block (R108, R283). -/
def giveLock (h core bound : Nat) : Act :=
  .get fun s => many [
    setS R.QUE_SEM_W0_HELD h 1, setS R.QUE_SEM_W0_HOLDER h core, setS R.QUE_SEM_W0_SUSPENDED h 0,
    updSem h fun m => { m with clause := (s.core core).clause, expiry := s.count (h / 4096) + bound } ]

/-- A free lock, or a positive count, goes to the waiter of R312. -/
def grantOne (h : Nat) : Act :=
  .get fun s =>
    match s.bestWaiter (s.sem h).waiters with
    | none => .nop
    | some w =>
      let drop := updSem h fun m => { m with waiters := m.waiters.erase w }
      if s.smf R.QUE_SEM_W0_KIND h = 0 then
        if s.smf R.QUE_SEM_W0_HELD h = 0 then
          many [drop, giveLock h w.core w.bound, respond ⟨w.core, false, w.fn, h, true, 0, 0⟩]
        else .nop
      else if s.smf R.QUE_SEM_W0_COUNT h = 0 then .nop
      else many [drop, setS R.QUE_SEM_W0_COUNT h (s.smf R.QUE_SEM_W0_COUNT h - 1), respond ⟨w.core, false, w.fn, h, true, 0, 0⟩]

/-- Grants while there is something to give and someone to take it. -/
def grantAll (h : Nat) : Act := .get fun s => many (List.replicate (s.sem h).waiters.length (grantOne h))

/-- A signal of `n` to an event semaphore of partition `p` (R278, R293): the count saturates at 65,535, what is lost is
counted and logged, and the counts that are there go to the waiters. `q` and `dn` name the signalling descriptor. -/
def signal (h n p origin q dn : Nat) : Act :=
  .get fun s =>
    let ok := decide (s.smf R.QUE_SEM_W0_VALID h = 1) && decide (s.smf R.QUE_SEM_W0_KIND h = 1) && decide (s.smf R.QUE_SEM_W0_PART h = p)
    let c := s.smf R.QUE_SEM_W0_COUNT h
    let room := if ok then 65535 - c else 0
    let lost := n - room
    many [
      whenA ok (setS R.QUE_SEM_W0_COUNT h (c + min n room)),
      whenA (decide (0 < lost)) (many [
        bump R.QUE_SIG_LOST_COUNT 1 (h / 4096),
        logEv (h / 4096) (srcQue (h / 4096)) 4 0x81
          (q % 2 ^ 16 + dn % 2 ^ 32 * 2 ^ 16 + h % 2 ^ 14 * 2 ^ 48 + origin * 2 ^ 64 + min lost 65535 * 2 ^ 80)]),
      whenA ok (grantAll h) ]

/-- The class a lock's holder owes its waiters (R313). -/
def State.owed (s : State) (clause : Nat) : Nat :=
  s.die.sems.foldl (fun acc e =>
    if s.smf R.QUE_SEM_W0_HELD e.1 = 1 && e.2.clause = clause then e.2.waiters.foldl (fun a w => max a (s.coreClass w.core)) acc else acc) 0

/-- Every holder takes the class its waiters raise it to, and passes it on where it waits itself (R313); one pass per
link of the chain. -/
def settleClasses : Act :=
  .get fun s => many (List.replicate 4 (forA (s.sch.clauses.map Prod.fst) (fun k =>
    .get fun s => updClause k fun c =>
      let e := min 3 (max c.bclass (s.owed k))
      if e = c.eclass then c else { c with eclass := e, waitBase := s.coreTick c.core })))

/-- A lock is given up: it is free, its waiters are served, and raised classes fall back (R283, R312, R313). -/
def releaseLock (h : Nat) : Act :=
  many [
    setS R.QUE_SEM_W0_HELD h 0, setS R.QUE_SEM_W0_HOLDER h 0, setS R.QUE_SEM_W0_SUSPENDED h 0,
    updSem h (fun m => { m with clause := 0, expiry := 0 }), grantOne h, settleClasses ]

/-! ### Completion of descriptors -/

/-- DEPTH of a queue (R257). -/
def State.depth (s : State) (q : Nat) : Nat := 2 ^ s.qf R.QUE_QCFG_LOG2_DEPTH q

/-- ERR and ERROR of a queue (R262); a later record replaces an earlier one. -/
def queueErr (q code cls : Nat) : Act :=
  many [setQ R.QUE_QSTATE_ERROR q 1, setQ R.QUE_ERR_CODE q code, setQ R.QUE_ERR_CLASS q cls, setQ R.QUE_ERR_VALID q 1]

/-- The 32-byte record of a completion (R267), `r` its number. -/
def recordOf (d : DescS) (r depth : Nat) : Nat :=
  d.n % 2 ^ 32 + (d.endSt.getD 0) % 2 ^ 16 * 2 ^ 32 + b2n (decide (r / depth % 2 = 0)) * 2 ^ 48 + d.die % 256 * 2 ^ 56 +
  d.accept % 2 ^ 64 * 2 ^ 64 + d.endStamp % 2 ^ 64 * 2 ^ 128 + d.extra % 2 ^ 64 * 2 ^ 192

/-- Both conditions of a queue's interrupt start from zero. -/
def irqRestart (q : Nat) : Act := updQueue q fun k => { k with irqCnt := 0, irqSince := none }

/-- A completion counts towards the queue's interrupt (R270). -/
def irqCount (q : Nat) : Act :=
  .get fun s =>
    if s.qf R.QUE_IRQ_EN q = 0 then .nop
    else
      let n := (s.queue q).irqCnt + 1
      if s.qf R.QUE_IRQ_COUNT q ≤ n then
        many [updQueue q (fun k => { k with irqCnt := 0, irqSince := none }), msix (s.qf R.QUE_IRQ_VECTOR q)]
      else updQueue q fun k => { k with irqCnt := n, irqSince := some (k.irqSince.getD s.t) }

/-- A drain or cancel command ends once its queue is inactive and, for a cancel, HEAD has reached TAIL (R263). -/
def queCmdCheck (die : Nat) : Act :=
  .get fun s =>
    match mget none s.die.qcmd die with
    | none => .nop
    | some k =>
      if (s.queue k.queue).fetched = [] && s.qf R.QUE_QCFG_ENABLE k.queue = 0 then
        many [.put (.die fun d => { d with qcmd := mset none d.qcmd die none }), setR R.QUE_STATUS_BUSY 0 die, setR R.QUE_STATUS_DONE 1 die]
      else .nop

/-- A cancel of the queue runs (R263). -/
def State.cancels (s : State) (q : Nat) : Bool := match mget none s.die.qcmd (q / 8192) with
  | some k => k.cancel && decide (k.queue = q)
  | none => false

/-- The next completion finds the record area full (R269). -/
def State.cqFull (s : State) (q : Nat) : Bool :=
  decide (s.qf R.QUE_QCFG_CQ_EN q = 1) && decide ((s.qf R.QUE_DONE_COUNT q + 2 ^ 32 - s.qf R.QUE_CQ_HEAD_CONSUMED q) % 2 ^ 32 = s.depth q)

/-- Steps 2 to 5 of R268 for the oldest completion of a queue. It waits while its record area is full (R269) and at its
record step after a faulted record write (R262); a cancel drops a record whose write faults (R263). -/
def completeOne (q : Nat) : Act :=
  .get fun s =>
    match (s.queue q).ending with
    | [] => .nop
    | d :: rest =>
      let r := s.qf R.QUE_DONE_COUNT q
      let depth := s.depth q
      let cqEn := decide (s.qf R.QUE_QCFG_CQ_EN q = 1)
      if s.cqFull q then .nop
      else if (s.queue q).recWait && decide (s.qf R.QUE_QSTATE_ERROR q = 1) && !s.cancels q then .nop
      else
        let host := decide (s.qf R.QUE_QCFG_CQ_HOST q = 1)
        let at_ := s.qf R.QUE_CQ_BASE_ADDR q * 512 + 32 * (r % depth)
        let ctx := s.qf R.QUE_QCFG_CTX q
        let die := q / 8192
        let fault := if cqEn && !host then s.daWriteFault die ctx at_ 32 else none
        let rec_ := recordOf d r depth
        let write := if !cqEn then Act.nop
          else if host then .put (.out (.hostWrite at_ 32 rec_))
          else daWrite die ctx at_ 32 rec_ 8 false true
        let irq := bitOf d.raw 8
        let sig := bitOf d.raw 10
        let finish := many [
          setQ R.QUE_DONE_COUNT q (r + 1),
          updQueue q (fun k => { k with ending := rest, recWait := false, fetched := if d.more then k.fetched else k.fetched.filter (fun x => decide (x.n ≠ d.n)) }),
          whenA (sig && decide (d.endSt = some 0)) (signal d.sem 1 (s.qf R.QUE_QCFG_PART q) 0 q d.n),
          whenA irq (irqCount q),
          queCmdCheck die ]
        match fault with
        | none => .seq write finish
        | some c =>
          many [write, queueErr q 3 c, if s.cancels q then finish else updQueue q fun k => { k with recWait := true }]

/-- A descriptor's data effects end: it waits its turn for the completion steps (R268). A queue of 65,536 and above names
one whose home die was reset while the work ran on: nothing but a log entry tells of its end (R561). -/
def endDesc (q n status die extra : Nat) : Act :=
  .get fun s =>
    if 65536 ≤ q then logEv die (srcQue die) 4 0x14 (q % 2 ^ 16 + n % 2 ^ 32 * 2 ^ 16)
    else match (s.queue q).fetched.find? (fun d => decide (d.n = n)) with
    | none => .nop
    | some d =>
      if d.endSt.isSome then .nop
      else
        let e : DescS := { d with endSt := some status, endStamp := s.count die, die := die, extra := extra }
        many [
          updQueue q (fun k => { k with fetched := k.fetched.map (fun x => if x.n = n then e else x), ending := k.ending ++ [e] }),
          whenA (decide (status ≠ 0)) (logEv (q / 8192) (srcQue (q / 8192)) 4 (status % 256) (q % 2 ^ 16 + n % 2 ^ 32 * 2 ^ 16 + extra % 2 ^ 32 * 2 ^ 48)) ]

end Sys2Proof.Machine
end

