-- ==== Sys2Proof/Machine/ClauseEnd.lean ====
section
/-! DEFINITION. How a clause ends, cleanly or not, and how it is replayed (R117, R188, R279, R300, R314, R317, R318). -/

namespace Sys2Proof.Machine

/-- The claimant codes of a slot (R65): 1 + k an engine on owner k, 16 + x the transfer x. -/
def claimOwner (k : Nat) : Nat := 1 + k
def claimXfer (x : Nat) : Nat := 16 + x

/-- Every slot a claimant holds returns to Empty (R65, R279). -/
def dropClaims (core who : Nat) : Act :=
  updCore core fun k =>
    { k with tags := k.tags.filter (fun e => decide (mget 0 k.claim e.1 ≠ who)), claim := k.claim.filter (fun e => decide (e.2 ≠ who)) }

/-- The cores whose ports hold a transfer (R272). -/
def xferCores (x : Xfer) : List Nat :=
  (match x.src with | .spad c _ => [c] | _ => []) ++ (match x.dst with | .spad c _ => [c] | _ => [])

/-- An owner that a transfer was using is idle. -/
def freeOwn (x o : Nat) (m : SMap OwnS) : SMap OwnS :=
  let w := mget OwnS.idle m o
  if w.use.any (fun u => decide (u / 1024 = x)) || (match w.blk with | some b => decide (b.ref.opnd = x) | none => false)
  then mset OwnS.idle m o OwnS.idle else m

/-- A transfer leaves its port entries or its copy engine, with its claims returned. -/
def dropXfer (x : Nat) : Act :=
  .get fun s => withA (s.xfer x) fun v => many [
    forA (xferCores v) (fun c => many [dropClaims c (claimXfer x),
      updCore c fun k => { k with
        lockT := some (s.coreTick c),
        port := k.port.filter (fun y => decide (y ≠ x)),
        own := freeOwn x 6 (freeOwn x 5 k.own) }]),
    setXfer x none ]

/-- BYTES and TAG of a DMA record: bytes 0x18–0x1F (R267, R280). -/
def dmaExtra (bytes raw : Nat) : Nat := bytes % 2 ^ 32 + bits raw 32 16 * 2 ^ 32

/-- The length of the completed prefix (R280). -/
def Xfer.prefixBytes (x : Xfer) : Nat :=
  let first := match x.dst with | .dev da => 512 - da % 512 | _ => 512
  match x.src, x.dst with
  | .spad _ _, _ => min x.len (512 * x.done)
  | _, .spad _ _ => min x.len (512 * x.done)
  | _, _ => if x.done = 0 then 0 else min x.len (first + 512 * (x.done - 1))

/-- A transfer that is to end with CANCELLED and has no segment outstanding ends now (R279). -/
def finishCancelled (x : Nat) : Act :=
  .get fun s => withA (s.xfer x) fun v =>
    if v.segs.any (fun g => decide (g.st ≠ .ended)) then .nop
    else many [
      dropXfer x,
      match v.org with
      | .desc q n => .get fun s => endDesc q n stCancelled v.die (dmaExtra v.prefixBytes (match (s.queue q).fetched.find? (fun d => decide (d.n = n)) with | some d => d.raw | none => 0))
      | _ => .nop ]

/-- The owner of a transfer on a core is blocked at this transfer's row. -/
def State.xferBlocked (s : State) (x : Nat) (v : Xfer) : Bool :=
  (xferCores v).any (fun c => [5, 6].any (fun o => match (mget OwnS.idle (s.core c).own o).blk with
    | some b => decide (b.ref.opnd = x)
    | none => false))

/-- Segments that still run to their ends when the scratchpad side has stopped: those whose data is on its way to
device memory. -/
def Xfer.runOn (v : Xfer) : List Seg := match v.dst with
  | .dev _ => v.segs.filter (fun g => decide (g.st = .haveData) || decide (g.st = .peerWait))
  | _ => []

/-- The blocked access of a transfer is cancelled: it moves no row of the slot. -/
def unblockXfer (x : Nat) : Act :=
  .get fun s => withA (s.xfer x) fun v => whenA (s.xferBlocked x v) (many [
    forA (xferCores v) (fun c => updCore c fun k => { k with own := freeOwn x 6 (freeOwn x 5 k.own) }),
    setXfer x (some { v with segs := v.runOn }) ])

/-- A transfer is cancelled: nothing more issues, a blocked access is cancelled, and the transfer ends when what has
issued has ended (R279). -/
def cancelXfer (x : Nat) : Act :=
  many [unblockXfer x, updXfer x (fun v => { v with fin := some (v.fin.getD stCancelled), susp := none }), finishCancelled x]

/-- Transfers a clause issued or that load its code. -/
def Xfer.ofClause (v : Xfer) (k : Nat) : Bool :=
  match v.org with
  | .insn _ c _ _ => decide (c = k)
  | .code c => decide (c = k)
  | _ => false

/-- R279, faulted end of the issuing clause: a transfer that has issued a segment and is neither suspended nor blocked
runs to its end, every other is cancelled. -/
def faultXfers (k : Nat) : Act :=
  .get fun s => forA (s.die.xfers.map Prod.fst) (fun x => .get fun s => withA (s.xfer x) fun v =>
    if v.ofClause k && (decide (v.k = 0) || v.susp.isSome || s.xferBlocked x v) then cancelXfer x else .nop)

/-- R117, the engines: an instruction that has served a row and is not blocked completes; a blocked access is cancelled
and what has not started is discarded. The claims of cancelled instructions return to Empty. -/
def stopEngines (c : Nat) : Act :=
  .get fun s =>
    let k := s.core c
    let blocked := fun o => (mget OwnS.idle k.own o).blk.isSome
    let mBlk := blocked 0 || blocked 1 || blocked 2
    let vBlk := blocked 3 || blocked 4
    many [
      updCore c (fun k => { k with
        halted := true, wait := .none, cq := [],
        mq := k.mq.filter (fun o => o.started && !mBlk), vq := k.vq.filter (fun o => o.started && !vBlk),
        own := mkeep (fun o => o = 5 || o = 6) k.own }),
      whenA mBlk (many [dropClaims c (claimOwner 0), dropClaims c (claimOwner 1), dropClaims c (claimOwner 2)]),
      whenA vBlk (many [dropClaims c (claimOwner 3), dropClaims c (claimOwner 4)]),
      dropClaims c (claimOwner 7) ]

/-- The locks a clause holds are released; after an unclean end each is logged (R314). -/
def releaseLocks (k : Nat) (unclean : Bool) : Act :=
  .get fun s => withA (s.clause k) fun c =>
    forA ((s.die.sems.filter (fun e => s.smf R.QUE_SEM_W0_HELD e.1 = 1 && decide (e.2.clause = k))).map Prod.fst) (fun h => many [
      whenA unclean (logEv 4 srcSeq 5 3 (c.ctx + h % 2 ^ 14 * 2 ^ 16 + c.n % 2 ^ 32 * 2 ^ 32)),
      releaseLock h ])

/-- A grant that nobody waits for any more passes on (R109). -/
def returnGrant (r : Resp) : Act :=
  .get fun s =>
    if r.isQue || !r.ok then .nop
    else if r.fn = 1 || r.fn = 2 then releaseLock r.obj
    else .seq (setS R.QUE_SEM_W0_COUNT r.obj (s.smf R.QUE_SEM_W0_COUNT r.obj + 1)) (grantOne r.obj)

/-- Requests of a core that still wait at a semaphore or a queue are withdrawn; a grant on its way back passes on (R109). -/
def withdrawWaits (c : Nat) : Act :=
  .get fun s => many [
    .put (.die fun d => { d with resps := d.resps.filter (fun r => decide (r.core ≠ c)) }),
    forA (s.die.resps.filter (fun r => decide (r.core = c))) returnGrant,
    forA (s.die.sems.map Prod.fst) (fun h => updSem h fun m => { m with waiters := m.waiters.filter (fun w => decide (w.core ≠ c)) }),
    .put (.die fun d => { d with reqs := d.reqs.filter (fun r => decide (r.core ≠ c) || decide (r.fn = 3) || decide (r.fn = 6)) }),
    settleClasses ]

/-- The streams of a clause at its end (R187, R188). -/
def endStreams (k : Nat) (clean : Bool) : Act :=
  .get fun s => withA (s.clause k) fun c => forA c.streams (fun n => .get fun s => many [
    (if clean then many [
        setR R.SEQ_STREAM_TABLE_LAST_STEP (s.coreTick c.core) 0 n, bump R.SEQ_STREAM_TABLE_CLAUSE_COUNT 1 0 n,
        whenA (s.bit R.SEQ_STREAM_TABLE_RESIDENT 0 n) (setR R.SEQ_STREAM_TABLE_DIRTY 1 0 n)]
      else many [
        whenA (s.bit R.SEQ_STREAM_TABLE_RESIDENT 0 n && s.bit R.SEQ_STREAM_TABLE_DIRTY 0 n) (setR R.SEQ_STREAM_TABLE_STALE 1 0 n),
        setR R.SEQ_STREAM_TABLE_RESIDENT 0 0 n, setR R.SEQ_STREAM_TABLE_DIRTY 0 0 n]),
    .put (.sch fun d => { d with pins := mset 0 d.pins n (mget 0 d.pins n - 1) }),
    .put (.sch fun d => { d with zeroed := mset false d.zeroed n false }),
    .get fun s => whenA (decide (mget 0 s.sch.pins n = 0)) (setR R.SEQ_STREAM_TABLE_PINNED 0 0 n)])

/-- The device returns a partition to inference-only mode (R176). -/
def tuneFallback (p cause : Nat) : Act :=
  .get fun s => whenA (s.bit R.SEQ_PART_TUNE_TUNE 0 p) (many [
    setR R.SEQ_PART_TUNE_TUNE 0 0 p, setR R.SEQ_PART_TUNE_FALLBACK 1 0 p, setR R.SEQ_PART_TUNE_CAUSE cause 0 p,
    logEv 4 srcSeq 5 6 p ])

/-- Bytes 0x18–0x1F of a clause record (R300). -/
def clauseExtra (c : ClauseS) (code detail : Nat) : Nat :=
  code % 256 + (if c.ran then c.core else 0xFF) * 2 ^ 8 + detail % 2 ^ 16 * 2 ^ 16 + c.runs % 256 * 2 ^ 32 + b2n c.miss * 2 ^ 40 + c.tag % 2 ^ 16 * 2 ^ 48

/-- The slice of the current context takes the clause time that clause `k` of it has just spent on its core (R302). -/
def sliceStop (k : Nat) : Act :=
  .get fun s => withA (s.clause k) fun x => .put (.sch fun d => { d with slots := mupd SlotS.none d.slots x.core fun o =>
    if o.ctx = x.ctx then { o with slice := o.slice + (s.coreTick x.core - o.since), since := s.coreTick x.core } else o })

/-- The image a clause has: where it stands in its slot. -/
def State.imageOf (s : State) (k : Nat) (c : ClauseS) : Option Image :=
  match mget none s.sch.images (c.core * 4 + c.slot) with
  | some im => if im.clause = k then some im else none
  | none => none

/-- The image of a clause is discarded, its transfers are cancelled and its slot is freed (R310, R317). -/
def dropImage (k : Nat) : Act :=
  .get fun s => withA (s.clause k) fun c => withA (s.imageOf k c) fun im => many [
    forA im.xfers (fun x => .seq (updXfer x fun v => { v with segs := [] }) (cancelXfer x)),
    .put (.sch fun d => { d with images := mset none d.images (c.core * 4 + c.slot) none }) ]

/-- The core is free of its clause: the deadline is discarded and nothing issues (R89). -/
def freeCore (c : Nat) : Act :=
  .get fun s => .seq (sliceStop (s.core c).clause) (updCore c fun k => { k with inClause := false, clause := 0, wait := .none, dl := none, held := [] })

/-- A save or restore of a clause that is in progress or waits for its turn is stopped (R310). -/
def stopKick (k : Nat) : Act :=
  .get fun s => withA (s.clause k) fun c => .seq
    (.put (.sch fun d => { d with kickQ := d.kickQ.filter (fun e => decide (e.2.clause ≠ k)) }))
    (whenA (match mget none s.sch.kicks c.core with | some x => decide (x.clause = k) | none => false) (.seq
      (.put (.sch fun d => { d with kicks := mset none d.kicks c.core none })) (setR R.CORE_STATUS_SAVE 0 c.core)))

/-- A clause is bound to its core: it takes its number, pins the streams it lists and wakes the core's die (R453). -/
def bindClause (k : ClauseS) : Act :=
  .get fun s => many [
    setClause s.sch.nextC (some k),
    .put (.sch fun d => { d with nextC := d.nextC + 1, pins := k.streams.foldl (fun m n => mset 0 m n (mget 0 m n + 1)) d.pins }),
    forA k.streams (fun n => setR R.SEQ_STREAM_TABLE_PINNED 1 0 n), wakeDie (dieOf k.core) ]

/-- Clauses of the plan of partition `p` that have been released and have not ended. -/
def State.stepLive (s : State) (p : Nat) : Bool :=
  s.sch.clauses.any (fun e => match e.2 with
    | some k => decide (k.queue = 32768) && decide (k.part = p)
    | none => false)

/-- The clauses of the next plan entry are released: at once, or where the entry waits when every clause of the entries
before it has ended (R320, R321). -/
def planStep (p : Nat) : Act :=
  .get fun s => match (s.batch p).held with
    | [] => .nop
    | (e, w, _) :: _ =>
      if w && s.stepLive p then .nop
      else .seq
        (updBatch p fun b => { b with held := b.held.filter (fun x => decide (x.1 ≠ e)) })
        (forA ((s.batch p).held.filter (fun x => decide (x.1 = e))) (fun x => bindClause x.2.2))

def planAdvance (p : Nat) : Act := .get fun s => many (List.replicate (s.batch p).held.length (planStep p))

/-- The core on which a probe of clause `k` runs (R474). -/
def State.probeCore (s : State) (k : Nat) : Option Nat :=
  (s.sch.recs.find? (fun e => match e.2 with
    | some r => r.probing && decide (r.cands[r.cur]? = some k)
    | none => false)).map Prod.fst

/-- A clause is a candidate of a recovery that runs (R472). -/
def State.candidate (s : State) (k : Nat) : Bool := s.sch.recs.any (fun e => match e.2 with
  | some r => r.cands.contains k
  | none => false)

/-- A log entry of class 0x0C (R484). -/
def logRcv (ev ctx x kind outcome queue n : Nat) : Act :=
  logEv 4 srcHub 0xC ev (ctx + x % 256 * 2 ^ 16 + kind % 256 * 2 ^ 24 + outcome % 256 * 2 ^ 32 + queue % 2 ^ 16 * 2 ^ 40 + n % 2 ^ 32 * 2 ^ 56)

def raiseRcv (f : Fld) (bit : Nat) : Act := raiseEv f R.HUB_RCV_EVENT_MASK_EN R.HUB_RCV_EVENT_MASK_VECTOR bit

/-- A hang of a kind is declared for a clause on a core (R467). -/
def declareHang (kind c id : Nat) : Act :=
  .get fun s =>
    let k := s.clause id
    let ctx := (k.map (·.ctx)).getD 0
    many [
      bump R.HUB_RCV_HANGS_COUNT, setR R.HUB_RCV_LAST_CORE c, setR R.HUB_RCV_LAST_KIND kind, setR R.HUB_RCV_LAST_CTX ctx,
      setR R.HUB_RCV_LAST_VALID 1, logRcv 1 ctx c kind 0 ((k.map (·.queue)).getD 0) ((k.map (·.n)).getD 0),
      if kind = 2 then raiseRcv R.HUB_RCV_EVENT_CYCLE 1 else raiseRcv R.HUB_RCV_EVENT_HANG 0 ]

/-- The outcome of the probe of a core: it is logged, and a clear of the core follows (R474, R484). -/
def noteOutcome (c o : Nat) : Act :=
  .get fun s => withA (mget none s.sch.recs c) fun r => .seq
    (match r.cands[r.cur]? with
     | some id => (match s.clause id with
       | some k => whenA (decide (o ≠ 0)) (logRcv 2 k.ctx c 1 o k.queue k.n)
       | none => .nop)
     | none => .nop)
    (.put (.sch fun d => { d with recs := mset none d.recs c (some
      { r with outc := lset r.outc r.cur o, probing := false, cleared := false, since := s.coreTick c }) }))

/-- A clause ends with a status (R300): locks, streams, its descriptor or its sequences (R328), its core. -/
def endClause (k status code detail : Nat) : Act :=
  .get fun s => withA (s.clause k) fun c =>
    let clean := decide (status = 0)
    let onCore := decide ((s.core c.core).clause = k) && (s.core c.core).inClause
    many [
      whenA (onCore && !clean) (.seq (stopEngines c.core) (faultXfers k)),
      whenA onCore (withdrawWaits c.core),
      releaseLocks k (!clean),
      endStreams k clean,
      whenA (!clean && onCore && (s.core c.core).vsmxb) (tuneFallback c.part 1),
      dropImage k,
      stopKick k,
      whenA (decide (c.st = .chosen) || decide (c.st = .loading)) (sliceStop k),
      whenA (c.st = .loading) (faultXfers k),
      (if c.queue ≠ 32768 then endDesc c.queue c.n status (if c.ran then dieOf c.core else c.queue / 8192) (clauseExtra c code detail)
       else whenA (!clean) (forA c.seqs (fun q => updBatch c.part fun b => { b with seqs := mupd none b.seqs q (fun v => v.map (fun x => if x.retire.isSome then x else { x with retire := some (status, 5) })) }))),
      whenA (onCore && clean) (.get fun s => .put (.sch fun d => { d with slots := mupd SlotS.none d.slots c.core fun o => { o with clean := s.coreTick c.core } })),
      whenA onCore (freeCore c.core),
      setClause k none,
      settleClasses,
      whenA (decide (c.queue = 32768)) (planAdvance c.part) ]

/-- A clause's deadline passes: the miss is recorded (R316), and a serving miss may end the tuning mode (R176). -/
def recordMiss (k : Nat) : Act :=
  .get fun s => withA (s.clause k) fun c => whenA (!c.miss || decide (c.policy ≠ 0)) (many [
    updClause k (fun x => { x with miss := true }),
    whenA (decide (c.queue = 32768)) (updBatch c.part fun b => { b with late := true }),
    bump R.SEQ_DL_MISS_COUNT 1 0 c.part,
    logEv 4 srcSeq 5 1 (c.ctx + c.queue % 2 ^ 16 * 2 ^ 16 + c.n % 2 ^ 32 * 2 ^ 32),
    .get fun s =>
      let tuning := s.sch.clauses.any (fun e => match e.2 with
        | some x => decide (x.part = c.part) && decide (e.1 ≠ k) &&
            ((decide ((s.core x.core).clause = e.1) && (s.core x.core).vsmxb) ||
             (match s.imageOf e.1 x with | some im => im.core.vsmxb | none => false))
        | none => false)
      let serving := !(decide ((s.core c.core).clause = k) && (s.core c.core).vsmxb)
      whenA (s.bit R.SEQ_PART_TUNE_YIELD 0 c.part && tuning && serving) (tuneFallback c.part 2) ])

/-- The code load of a clause that has the core and does not run yet is given up: what it has issued may still run to its end, for no clause. -/
def dropLoad (k : Nat) : Act :=
  .seq (faultXfers k) (.get fun s => forA (s.die.xfers.map Prod.fst) (fun x => updXfer x fun v => match v.org with
    | .code c => if c = k then { v with org := .code 0 } else v
    | _ => v))

/-- A replay (R318): the clause runs again from R88, with the same allowance from now. -/
def replay (k : Nat) : Act :=
  .get fun s => withA (s.clause k) fun c =>
    let onCore := decide ((s.core c.core).clause = k) && (s.core c.core).inClause
    many [
      whenA onCore (many [stopEngines c.core, faultXfers k, withdrawWaits c.core]),
      whenA (decide (c.st = .chosen) || decide (c.st = .loading)) (.seq (sliceStop k) (dropLoad k)),
      releaseLocks k true,
      forA c.streams (fun n => setR R.SEQ_STREAM_TABLE_RESIDENT 0 0 n),
      dropImage k,
      stopKick k,
      bump R.SEQ_REPLAY_COUNT 1 0 c.part,
      whenA onCore (freeCore c.core),
      .get fun s => updClause k fun x => { x with
        runs := x.runs + 1, st := .waiting, waitBase := s.coreTick c.core,
        deadline := if x.allow = 0 then none else some (s.coreTick c.core + x.allow) } ]

/-- A clause faults: under REPLAY a deadline, a hold-bound fault or POISON is replayed while replays are left; every other
fault, and every fault under FINISH and ABORT, ends it (R317, R318). -/
def faultClause (k status code detail : Nat) : Act :=
  .get fun s => withA (s.clause k) fun c =>
    match s.probeCore k with
    | some g => .seq (noteOutcome g 2) (endClause k status code detail)
    | none =>
    if c.policy = 2 && decide (c.runs < c.replays) && (decide (status = stDeadline) || decide (status = stPoison)) then replay k
    else endClause k status code detail

end Sys2Proof.Machine
end

