-- ==== Sys2Proof/Machine/Flags.lean ====
section
/-! DEFINITION. The arithmetic flags and the statistics register (R149, R155, R158, R160). -/

namespace Sys2Proof.Machine

/-- The flags of an operation are ORed into CORE_ARITH_FLAGS (R155). -/
def orFlags (c : Nat) (f : Flags) : Act :=
  many [
    whenA (bitOf f 0) (setR R.CORE_ARITH_FLAGS_NAN_IN 1 c), whenA (bitOf f 1) (setR R.CORE_ARITH_FLAGS_INVALID 1 c),
    whenA (bitOf f 2) (setR R.CORE_ARITH_FLAGS_OVERFLOW 1 c), whenA (bitOf f 3) (setR R.CORE_ARITH_FLAGS_UNDERFLOW 1 c),
    whenA (bitOf f 4) (setR R.CORE_ARITH_FLAGS_ACC_SAT 1 c), whenA (bitOf f 5) (setR R.CORE_ARITH_FLAGS_SCALE_NAN 1 c) ]

/-- CORE_ARITH_FLAGS as one word (R158). -/
def State.arithFlags (s : State) (c : Nat) : Nat :=
  s.reg R.CORE_ARITH_FLAGS_NAN_IN c + 2 * s.reg R.CORE_ARITH_FLAGS_INVALID c + 4 * s.reg R.CORE_ARITH_FLAGS_OVERFLOW c +
  8 * s.reg R.CORE_ARITH_FLAGS_UNDERFLOW c + 16 * s.reg R.CORE_ARITH_FLAGS_ACC_SAT c + 32 * s.reg R.CORE_ARITH_FLAGS_SCALE_NAN c

/-- CORE_ARITH_FLAGS cleared (R143, R156). -/
def clearFlags (c : Nat) : Act :=
  many [setR R.CORE_ARITH_FLAGS_NAN_IN 0 c, setR R.CORE_ARITH_FLAGS_INVALID 0 c, setR R.CORE_ARITH_FLAGS_OVERFLOW 0 c,
    setR R.CORE_ARITH_FLAGS_UNDERFLOW 0 c, setR R.CORE_ARITH_FLAGS_ACC_SAT 0 c, setR R.CORE_ARITH_FLAGS_SCALE_NAN 0 c]

/-- The 64 statistics entries (R149). -/
def State.stats (s : State) (c : Nat) : List (Nat × Nat) :=
  (List.range 64).map (fun i => (s.reg R.CORE_STAT_W0_ABSMAX c i, s.reg R.CORE_STAT_W1_SUM c i))

/-- The statistics register takes 64 entries. -/
def setStats (c : Nat) (l : List (Nat × Nat)) : Act :=
  forA (List.range 64) (fun i => .seq (setR R.CORE_STAT_W0_ABSMAX (l.getD i (0, 0)).1 c i) (setR R.CORE_STAT_W1_SUM (l.getD i (0, 0)).2 c i))

end Sys2Proof.Machine
end

