-- ==== Sys2Proof/Machine/Matrix.lean ====
section
/-! DEFINITION. The matrix engine's arithmetic (spec/04, R127–R138, and MMAR of spec/05, R172): which rows a matrix
instruction names, in which order, and what one step does to a tile. -/

namespace Sys2Proof.Machine

/-! ### Fields of OPX for matrix instructions (R130) -/

def oxFA (x : Nat) : Nat := bits x 0 4
def oxFB (x : Nat) : Nat := bits x 4 4
def oxFD (x : Nat) : Nat := bits x 8 4
def mxZero (x : Nat) : Bool := bitOf x 8
def mxBT (x : Nat) : Bool := bitOf x 9
def mxSA (x : Nat) : Nat := bits x 10 2
def mxSB (x : Nat) : Nat := bits x 12 2
def mxSBG (x : Nat) : Bool := bitOf x 14
def mxSAV (x : Nat) : Nat := bits x 15 3
def mxSBV (x : Nat) : Nat := bits x 18 3
def mxSBH (x : Nat) : Bool := bitOf x 21
def oxSTAT (x : Nat) : Nat := bits x 15 2
def oxSTR (x : Nat) : Bool := bitOf x 17
def oxRND (x : Nat) : Bool := bitOf x 18

/-- Where a row of an operand is kept among the rows an instruction has read. -/
def gotKey (opnd off : Nat) : Nat := opnd * 2 ^ 14 + off

/-- A row the instruction has read. -/
def EngOp.rowOf (o : EngOp) (opnd off : Nat) : Row := mget 0 o.got (gotKey opnd off)

/-- The row has been served. -/
def EngOp.has (o : EngOp) (opnd off : Nat) : Bool := o.got.any (fun p => decide (p.1 = gotKey opnd off))

/-- MMA, MMAS and MMAR. -/
def isMMA (opc : Nat) : Bool := decide (opc = 0x20) || decide (opc = 0x21) || decide (opc = 0x24)

/-- Rows of one A tile: a tile of `w`-bit elements takes `w` scratchpad rows (R127). -/
def aRows (o : EngOp) : Nat := fmtBits (oxFA o.opx)

/-- Rows of one B tile: for MMAS the value region and the metadata row (R135). -/
def bRows (o : EngOp) : Nat :=
  let w := fmtBits (oxFB o.opx)
  if o.opc = 0x21 then w / 2 + 1 else w

/-- The B scale vector of step `s` (R136). -/
def sbVec (o : EngOp) (s : Nat) : Nat := mxSBV o.opx + (if mxSBG o.opx then (s + b2n (mxSBH o.opx)) / 2 else 0)

/-- The row, counted from a[AD], of a B scale vector (R136). -/
def sbRow (o : EngOp) (s : Nat) : Nat := (if mxSA o.opx = 0 then 0 else 1) + sbVec o s / 8

/-- Step `s` is the first to need its B scale row. -/
def sbFirst (o : EngOp) (s : Nat) : Bool := s = 0 || sbRow o s != sbRow o (s - 1)

/-- The A-read rows of step `s`: after the first data row, the A scale row (R137) or MMAR's control row (R172). -/
def mmaRowsA (o : EngOp) (s : Nat) : List RowRef :=
  let d := rowRefs 0 o.ma (o.ra + s * aRows o) (aRows o) (s * aRows o)
  let extra : List RowRef :=
    if s = 0 && (decide (o.opc ≠ 0x24) && decide (mxSA o.opx ≠ 0) || decide (o.opc = 0x24) && !mxZero o.opx)
    then [⟨2, o.md, o.rd, 0⟩] else []
  d.take 1 ++ extra ++ d.drop 1

/-- The B-read rows of step `s`, with the B scale row it is the first to need. -/
def mmaRowsB (o : EngOp) (s : Nat) : List RowRef :=
  let d := rowRefs 1 o.mb (o.rb + s * bRows o) (bRows o) (s * bRows o)
  let extra : List RowRef := if decide (mxSB o.opx ≠ 0) && sbFirst o s then [⟨2, o.md, o.rd + sbRow o s, sbRow o s⟩] else []
  d.take 1 ++ extra ++ d.drop 1

/-- The rows of SPILL's destination or FILL's source: 32 for a word copy, 16 in a 16-bit format (R138). -/
def spillFmt (o : EngOp) : Nat := if o.opc = 0x22 then oxFD o.opx else oxFA o.opx

/-- A matrix instruction with the rows it names put into its owners' lists. -/
def planMatrix (o : EngOp) : EngOp :=
  if isMMA o.opc then
    { o with q0 := ((List.range o.cnt).map (mmaRowsA o)).flatten, q1 := ((List.range o.cnt).map (mmaRowsB o)).flatten }
  else if o.opc = 0x22 then { o with q2 := rowRefs 2 o.md o.rd (fmtBits (spillFmt o)) 0 }
  else { o with q2 := rowRefs 0 o.ma o.ra (fmtBits (spillFmt o)) 0 }

/-- Every row that step `s` needs has been read. -/
def stepReady (o : EngOp) (s : Nat) : Bool :=
  (List.range (aRows o)).all (fun r => o.has 0 (s * aRows o + r)) &&
  (List.range (bRows o)).all (fun r => o.has 1 (s * bRows o + r)) &&
  (decide (o.opc = 0x24) || decide (mxSA o.opx = 0) || o.has 2 0) &&
  (decide (o.opc ≠ 0x24) || mxZero o.opx || o.has 2 0) &&
  (decide (mxSB o.opx = 0) || o.has 2 (sbRow o s))

/-- Element (m, k) of A in step `s`. -/
def elemA (o : EngOp) (s m k : Nat) : Val :=
  fmtValue (oxFA o.opx) (elemAt (fun r => o.rowOf 0 (s * aRows o + r)) (fmtBits (oxFA o.opx)) (64 * m + k))

/-- Tile element (i, j) of B in step `s`. -/
def tileB (o : EngOp) (s i j : Nat) : Nat :=
  elemAt (fun r => o.rowOf 1 (s * bRows o + r)) (fmtBits (oxFB o.opx)) (64 * i + j)

/-- B(k, n) of a dense step (R132). -/
def elemB (o : EngOp) (s k n : Nat) : Val := fmtValue (oxFB o.opx) (if mxBT o.opx then tileB o s k n else tileB o s n k)

/-- The products of one element (m, n): 64 for a dense step, two per group of four under 2:4 sparsity (R132, R135). -/
def products (o : EngOp) (s m n : Nat) : List (Val × Val) :=
  if o.opc = 0x21 then
    let w := fmtBits (oxFB o.opx)
    let vals := fun r => o.rowOf 1 (s * bRows o + r)
    let mrow := o.rowOf 1 (s * bRows o + bRows o - 1)
    ((List.range 16).map (fun g =>
      let nib := bits mrow.toNat (64 * n + 4 * g) 4
      let v0 := elemAt vals w (32 * n + 2 * g)
      let v1 := elemAt vals w (32 * n + 2 * g + 1)
      [(elemA o s m (4 * g + nib % 4), fmtValue (oxFB o.opx) v0),
       (elemA o s m (4 * g + nib / 4), fmtValue (oxFB o.opx) v1)])).flatten
  else (List.range 64).map (fun k => (elemA o s m k, elemB o s k n))

/-- A scale byte (R136): E8M0 or E4M3, or 1 where there is none. -/
def scaleVal (sel byte : Nat) : Val := if sel = 0 then .fin false 1 else fmtValue (if sel = 1 then 9 else 3) byte

/-- sA(m) of an MMA. -/
def scaleA (o : EngOp) (m : Nat) : Val :=
  if o.opc = 0x24 then .fin false 1 else scaleVal (mxSA o.opx) (elemAt (fun _ => o.rowOf 2 0) 8 (64 * mxSAV o.opx + m))

/-- sB(n, s). -/
def scaleB (o : EngOp) (s n : Nat) : Val :=
  scaleVal (mxSB o.opx) (elemAt (fun _ => o.rowOf 2 (sbRow o s)) 8 (64 * (sbVec o s % 8) + n))

/-- The tile accumulates INT32 (R131). -/
def accInt (o : EngOp) : Bool :=
  fmtInt (oxFA o.opx) && fmtInt (oxFB o.opx) && decide (mxSA o.opx = 0) && decide (mxSB o.opx = 0) && decide (o.opc ≠ 0x24)

/-- One element of one step: the new accumulator word and the flags it sets (R132, R133, R155, R172). -/
def stepElem (o : EngOp) (s m n c : Nat) : Nat × Flags :=
  let c := if s = 0 && mxZero o.opx then 0 else c
  let ps := products o s m n
  if accInt o then
    let p : Int := ps.foldl (fun acc x => acc + x.1.rat.num * x.2.rat.num) 0
    let z := toSigned 32 c + p
    if z > 2 ^ 31 - 1 then (2 ^ 31 - 1, flAccSat) else if z < -(2 ^ 31) then (2 ^ 31, flAccSat) else (ofSigned 32 z, 0)
  else
    let cv := fmtValue 7 c
    let corr : Val := if o.opc = 0x24 && decide (s = 0) && !mxZero o.opx then fmtValue 7 (elemAt (fun _ => o.rowOf 2 0) 32 m) else .fin false 1
    let sa := scaleA o m
    let sb := scaleB o s n
    let sc := vmul sa sb
    let p := vsum (ps.map (fun x => vmul x.1 x.2))
    let r := vsum [vmul corr cv, vmul sc p]
    let ins := cv :: corr :: sa :: sb :: (ps.map Prod.fst ++ ps.map Prod.snd)
    let f := (if ins.any Val.isNan then flNanIn else 0) ||| (if sa.isNan || sb.isNan then flScaleNan else 0) ||| dotInvalid ps [] |||
      dotInvalid [(corr, cv), (sc, p)] []
    let z := rne32 r
    (z.1, f ||| z.2)

/-- One tile row of one step. -/
def stepRow (o : EngOp) (s m : Nat) (old : BitVec 2048) : BitVec 2048 × Flags :=
  let es := (List.range 64).map (fun n => stepElem o s m n (bits old.toNat (32 * n) 32))
  (BitVec.ofNat 2048 (es.foldr (fun e acc => e.1 % 2 ^ 32 + acc * 2 ^ 32) 0), es.foldl (fun f e => f ||| e.2) 0)

/-- The data rows of a step that has computed are let go; scale bytes are held to the end (R137). -/
def dropStep (o : EngOp) (s : Nat) : EngOp :=
  { o with step := s + 1,
           got := mkeep (fun k => decide (2 * 2 ^ 14 ≤ k) || (if k < 2 ^ 14 then decide ((s + 1) * aRows o ≤ k) else decide ((s + 1) * bRows o ≤ k - 2 ^ 14))) o.got }

/-! ### Statistics (R149) -/

/-- One statistics update: an entry with one group of FP32 values taken in. -/
def statUpd (stat : Nat) (e : Nat × Nat) (vals : List Val) : (Nat × Nat) × Flags :=
  if stat = 0 then (e, 0)
  else
    let am := (fmtValue 7 e.1 :: vals.map Val.abs).foldl vmax (.fin false 0)
    let ab := (rne32 am).1
    if stat = 2 then
      let x := vsum [fmtValue 7 e.2, vsum vals]
      let r := rne32 x
      ((ab, r.1), r.2 ||| invalidOf x (fmtValue 7 e.2 :: vals))
    else ((ab, e.2), 0)

/-- The 64 statistics entries with entry `i` updated. -/
def statAt (stat : Nat) (st : List (Nat × Nat)) (i : Nat) (vals : List Val) : List (Nat × Nat) × Flags :=
  let r := statUpd stat (st.getD i (0, 0)) vals
  (lset st i r.1, r.2)

/-! ### SPILL and FILL (R67, R138) -/

/-- Row `r` of a spill: its data, the flags, and the statistics after it. -/
def spillRow (o : EngOp) (r : Nat) (tile : Nat → BitVec 2048) (st : List (Nat × Nat)) : Row × Flags × List (Nat × Nat) :=
  let fd := oxFD o.opx
  let w := fmtBits fd
  let per := 64 / w   -- tile rows per scratchpad row: 2 in 32 bits, 4 in 16 bits
  let one := fun i => (List.range 64).map (fun j =>
    let c := bits (tile i).toNat (32 * j) 32
    if fd = 7 then (c, 0)
    else
      let x := fmtValue 7 c
      let z := convert fd (rndFor (oxRND o.opx) fd o.srSeed (o.srIndex + 64 * i + j)) x
      (z.1, z.2 ||| (if x.isNan then flNanIn else 0)))
  let rows := (List.range per).map (fun q => (per * r + q, one (per * r + q)))
  let fl := rows.foldl (fun f p => p.2.foldl (fun f e => f ||| e.2) f) 0
  let sts := rows.foldl (fun (acc : List (Nat × Nat) × Flags) p =>
    if oxSTAT o.opx = 0 then acc
    else
      let vals := p.2.map (fun e => fmtValue fd e.1)
      let z := statAt (oxSTAT o.opx) acc.1 p.1 vals
      (z.1, acc.2 ||| z.2 ||| (if vals.any Val.isNan then flNanIn else 0))) (st, 0)
  (packRow w (rows.map (fun p => p.2.map Prod.fst)).flatten, fl ||| sts.2, sts.1)

/-- Tile row `i` formed by a fill from the rows it has read. -/
def fillTileRow (o : EngOp) (i : Nat) : BitVec 2048 × Flags :=
  let fa := oxFA o.opx
  let w := fmtBits fa
  let es := (List.range 64).map (fun j =>
    let v := elemAt (fun r => o.rowOf 0 r) w (64 * i + j)
    if fa = 7 then (v, 0) else
      let x := fmtValue fa v
      ((rne32 x).1, if x.isNan then flNanIn else 0))
  (BitVec.ofNat 2048 (es.foldr (fun e acc => e.1 % 2 ^ 32 + acc * 2 ^ 32) 0), es.foldl (fun f e => f ||| e.2) 0)

/-! ### Decoding checks (R113, R129–R131, R138, R172) -/

/-- The encodings of a matrix instruction that are not reserved. The operand names (`aa` …) are the register fields. -/
def matrixLegal (opc aa ma ab mb ad md rc opx : Nat) : Bool :=
  let fa := oxFA opx
  let fb := oxFB opx
  let wide := fun f => decide (f = 5) || decide (f = 6)
  decide (ma ≠ 3) && decide (mb ≠ 3) && decide (md ≠ 3) &&
  (if isMMA opc then
    decide (bits opx 22 4 = 0) && decide (fa ≤ 6) && decide (fb ≤ 6) &&
    decide (fmtInt fa = fmtInt fb) && (!(wide fa || wide fb) || decide (fa = fb)) &&
    decide (mxSA opx ≠ 3) && decide (mxSB opx ≠ 3) &&
    (!(wide fa || wide fb) || decide (mxSA opx = 0) && decide (mxSB opx = 0)) &&
    (decide (opc ≠ 0x21) || !wide fb && !mxBT opx) &&
    (decide (mxSB opx ≠ 0) || !mxSBG opx && !mxSBH opx) &&
    (if opc = 0x24 then
      decide (mxSA opx = 0) && decide (mxSB opx = 0) && !fmtInt fa && !fmtInt fb && decide (md ≤ 1)
    else if mxSA opx = 0 && mxSB opx = 0 then decide (ad = 0) && decide (md = 0) else decide (md ≤ 1))
  else if opc = 0x22 then
    decide (aa = 0) && decide (ma = 0) && decide (ab = 0) && decide (mb = 0) && decide (rc = 0) &&
    (oxFD opx == 5 || oxFD opx == 6 || oxFD opx == 7) && decide (oxSTAT opx ≠ 3) &&
    decide (bits opx 0 8 = 0) && decide (bits opx 12 3 = 0) && decide (bits opx 19 7 = 0)
  else
    decide (ab = 0) && decide (mb = 0) && decide (ad = 0) && decide (md = 0) && decide (rc = 0) &&
    (fa == 5 || fa == 6 || fa == 7) && decide (bits opx 4 22 = 0))

/-- The rows each operand of a matrix instruction spans, for the checks of R99. -/
def matrixSpans (o : EngOp) : List (Nat × Nat) :=
  if isMMA o.opc then
    [(0, o.cnt * aRows o), (1, o.cnt * bRows o)] ++
    (if o.opc = 0x24 then [(2, 1)]
     else if mxSA o.opx = 0 && mxSB o.opx = 0 then []
     else [(2, if mxSB o.opx = 0 then 1 else sbRow o (o.cnt - 1) + 1)])
  else if o.opc = 0x22 then [(2, fmtBits (spillFmt o))] else [(0, fmtBits (spillFmt o))]

end Sys2Proof.Machine
end

