-- ==== Sys2Proof/Machine/Vector.lean ====
section
/-! DEFINITION. The vector engine's arithmetic (spec/04, R143–R153; spec/05, R168–R173, R190, R191; spec/06, R214,
R215): the rows an instruction names, unit by unit, and what each unit writes. A unit is the least run of groups whose
result fills whole rows; the reads of a unit are named A first, then B, then D (DESIGN CHOICE, log entry 31). -/

namespace Sys2Proof.Machine

/-! ### Fields of OPX for vector instructions (R144) -/

def oxFN (x : Nat) : Nat := bits x 12 3
def oxBB (x : Nat) : Nat := bits x 19 2
def oxVEC (x : Nat) : Nat := bits x 21 3
def oxX (x : Nat) : Bool := bitOf x 24

def EngOp.wA (o : EngOp) : Nat := fmtBits (oxFA o.opx)
def EngOp.wB (o : EngOp) : Nat := fmtBits (oxFB o.opx)
def EngOp.wD (o : EngOp) : Nat := fmtBits (oxFD o.opx)

/-- The groups, or output rows, of an instruction. For VPOOL and VRSZ, g[RC][31:0] (R214). -/
def EngOp.groups (o : EngOp) : Nat := if o.opc = 0x3D || o.opc = 0x3E then bits o.cnt 0 32 else if o.opc = 0x3A || o.opc = 0x3B then 64 else o.cnt

/-- The second count of VPOOL and VRSZ. -/
def EngOp.cnt2 (o : EngOp) : Nat := bits o.cnt 32 16

/-- The units of a vector instruction. -/
def vUnits (o : EngOp) : Nat :=
  match o.opc with
  | 0x34 => o.groups
  | 0x36 => 1 + o.groups / 16
  | 0x39 => 1
  | 0x3A => 6
  | 0x3B => 5
  | 0x3C => if oxFN o.opx = 0 then o.groups / 64 else 1
  | _ => o.groups / 16

/-- Rows of `n` groups of `w`-bit elements: 64·n·w bits. -/
def grpRows (n w : Nat) : Nat := n * w / 64

/-- The rows of operand A that groups 16·u to 16·u + 15 take. -/
def unitA (o : EngOp) (u : Nat) : List RowRef := rowRefs 0 o.ma (o.ra + grpRows (16 * u) o.wA) (grpRows 16 o.wA) (grpRows (16 * u) o.wA)

/-- The rows of operand B that unit `u` is the first to need, by the layout BB names (R144). -/
def unitB (o : EngOp) (u : Nat) : List RowRef :=
  match oxBB o.opx with
  | 0 => rowRefs 1 o.mb (o.rb + grpRows (16 * u) o.wB) (grpRows 16 o.wB) (grpRows (16 * u) o.wB)
  | 1 => if u = 0 then [⟨1, o.mb, o.rb, 0⟩] else []
  | _ => if u = 0 then let r := 8 * oxVEC o.opx * o.wB / 512; [⟨1, o.mb, o.rb + r, r⟩] else []

/-- The destination rows of unit `u`. -/
def unitD (o : EngOp) (u : Nat) : List RowRef := rowRefs 2 o.md (o.rd + grpRows (16 * u) o.wD) (grpRows 16 o.wD) (grpRows (16 * u) o.wD)

/-- The weight rows of VRSZ that hold the pixels of unit `u` and of no earlier unit (R213, R215). -/
def rszB (o : EngOp) (u : Nat) : List RowRef :=
  let lo := if u = 0 then 0 else (1024 * u - 1) / o.cnt2 / 128 + 1
  let hi := (1024 * u + 1023) / o.cnt2 / 128 + 1
  rowRefs 1 o.mb (o.rb + lo) (hi - lo) lo

/-- The rows unit `u` reads through owner 3, in the order named. -/
def vReads (o : EngOp) (u : Nat) : List RowRef :=
  match o.opc with
  | 0x30 => unitA o u ++ unitB o u
  | 0x31 => unitA o u ++ unitB o u ++ unitD o u
  | 0x34 =>
    let ni := if oxFN o.opx = 0 then 2 else 1
    [⟨0, o.ma, o.ra + u, u⟩, ⟨2, o.md, o.rd + u, u⟩] ++ rowRefs 1 o.mb (o.rb + ni * u) ni (ni * u)
  | 0x36 => if u = 0 then [⟨1, o.mb, o.rb, 0⟩] else unitA o (u - 1)
  | 0x39 => if oxFN o.opx = 0 then [] else [⟨0, o.ma, o.ra, 0⟩]
  | 0x3A =>
    if u = 0 then
      [⟨1, o.mb, o.rb, 0⟩, ⟨1, o.mb, o.rb + 1, 1⟩] ++ (if oxFB o.opx = 7 then [] else [⟨1, o.mb, o.rb + 2, 2⟩]) ++
        rowRefs 0 o.ma o.ra 32 0
    else if u ≤ 4 then rowRefs 0 o.ma (o.ra + 8 * (u - 1)) 8 (32 + 8 * (u - 1))
    else []
  | 0x3B =>
    if u = 0 then [⟨1, o.mb, o.rb, 0⟩, ⟨1, o.mb, o.rb + 1, 1⟩]
    else rowRefs 0 o.ma (o.ra + 8 * (u - 1)) 8 (8 * (u - 1))
  | 0x3C =>
    if oxFN o.opx = 0 then
      ((List.range 4).map (fun q => unitA o (4 * u + q) ++ unitB o (4 * u + q))).flatten
    else if oxFN o.opx = 1 then [⟨0, o.ma, o.ra, 0⟩] else [⟨2, o.md, o.rd, 0⟩]
  | 0x3D =>
    let pl := grpRows o.groups o.wA
    ((List.range o.cnt2).map (fun t => rowRefs 0 o.ma (o.ra + t * pl + grpRows (16 * u) o.wA) (grpRows 16 o.wA) (t * pl + grpRows (16 * u) o.wA))).flatten
  | 0x3E =>
    let pl := grpRows o.groups o.wA
    ((List.range 4).map (fun t => rowRefs 0 o.ma (o.ra + t * pl + grpRows (16 * u) o.wA) (grpRows 16 o.wA) (t * pl + grpRows (16 * u) o.wA))).flatten ++ rszB o u
  | _ => unitA o u

/-- A vector instruction with the rows it reads put into owner 3's list. -/
def planVector (o : EngOp) : EngOp := { o with q3 := ((List.range (vUnits o)).map (vReads o)).flatten }

/-- Every row unit `u` reads has been served. -/
def unitReady (o : EngOp) (u : Nat) : Bool := (vReads o u).all (fun r => o.has r.opnd r.idx)

/-- What a unit leaves: the rows it writes, working values, flags, statistics and carry. -/
structure UnitOut where
  outs : List (RowRef × Row)
  aux : List Nat
  fl : Flags
  st : List (Nat × Nat)
  carry : List Nat

/-- Element `e` of operand A, B or D as an FP32 value (R145). -/
def EngOp.srcA (o : EngOp) (e : Nat) : Val × Flags := toFp32 (oxFA o.opx) (elemAt (o.rowOf 0) o.wA e)

/-- The B element that meets element j of group n (R144, BB). -/
def EngOp.srcB (o : EngOp) (n j : Nat) : Val × Flags :=
  let e := match oxBB o.opx with
    | 0 => 64 * n + j
    | 1 => j
    | _ => 64 * oxVEC o.opx + n % 64
  toFp32 (oxFB o.opx) (elemAt (o.rowOf 1) o.wB e)

/-- The operations of VBIN by FN (R143). -/
def vbin (fn : Nat) (a b : Val) : Val :=
  match fn with
  | 0 => vsum [a, b]
  | 1 => vsum [a, b.neg]
  | 2 => vmul a b
  | 3 => vmax a b
  | _ => vmin a b

/-- The operations of VUN by FN on an FP32 value (R143, R146). -/
def vun (fn : Nat) (a : Val) : Nat × Flags :=
  let code := (rne32 a).1
  match fn with
  | 0 => (code, 0)
  | 1 => ((rne32 a.abs).1, 0)
  | 2 => ((rne32 a.neg).1, 0)
  | 3 => expFp code
  | 4 => exp2Fp code
  | 5 => rcpFp code
  | _ => rsqrtFp code

/-- The FP32 result of element j of group n, with its flags. -/
def vElem (o : EngOp) (n j : Nat) : Nat × Flags :=
  let a := o.srcA (64 * n + j)
  match o.opc with
  | 0x30 =>
    let b := o.srcB n j
    let r := vbin (oxFN o.opx) a.1 b.1
    let z := rne32 r
    (z.1, a.2 ||| b.2 ||| z.2 ||| invalidOf r [a.1, b.1])
  | 0x31 =>
    let b := o.srcB n j
    let d := toFp32 (oxFD o.opx) (elemAt (o.rowOf 2) o.wD (64 * n + j))
    let r := vsum [vmul a.1 b.1, d.1]
    let z := rne32 r
    (z.1, a.2 ||| b.2 ||| d.2 ||| z.2 ||| dotInvalid [(a.1, b.1)] [d.1])
  | _ =>
    let z := vun (oxFN o.opx) a.1
    (z.1, a.2 ||| z.2)

/-- Groups formed by `f`, converted to FD, tapped for statistics and packed into the rows of unit `u` (R139, R142, R149). -/
def emitUnit (o : EngOp) (u n0 cnt : Nat) (f : Nat → Nat → Val × Flags) (st : List (Nat × Nat)) : UnitOut :=
  let fd := oxFD o.opx
  let es := (List.range cnt).map (fun q => (List.range 64).map (fun j =>
    let n := n0 + q
    let x := f n j
    let z := convert fd (rndFor (oxRND o.opx) fd o.srSeed (o.srIndex + 64 * n + j)) x.1
    (z.1, x.2 ||| z.2)))
  let fl := es.foldl (fun f g => g.foldl (fun f e => f ||| e.2) f) 0
  let sf := (List.range cnt).foldl (fun (acc : List (Nat × Nat) × Flags) q =>
    let z := statAt (oxSTAT o.opx) acc.1 ((n0 + q) % 64) ((es.getD q []).map (fun e => (toFp32 fd e.1).1))
    (z.1, acc.2 ||| z.2)) (st, 0)
  let codes := (es.map (fun g => g.map Prod.fst)).flatten
  let per := 4096 / fmtBits fd
  let refs := ((List.range (cnt / 16)).map (fun q => unitD o (u + q))).flatten
  { outs := (List.range refs.length).map (fun i => (refs.getD i ⟨2, 0, 0, 0⟩, packRow (fmtBits fd) ((codes.drop (i * per)).take per))),
    aux := o.aux, fl := fl ||| sf.2, st := if oxSTAT o.opx = 0 then st else sf.1, carry := [] }

/-- One FP32 result per group (VRED, R143): 16 results a unit, a row written per 128 results, the last row padded. -/
def redUnit (o : EngOp) (u : Nat) (st : List (Nat × Nat)) : UnitOut :=
  let one := fun n =>
    let xs := (List.range 64).map (fun j => o.srcA (64 * n + j))
    let vs := xs.map Prod.fst
    let r := match oxFN o.opx with
      | 0 => vsum vs
      | 1 => (vs.drop 1).foldl vmax (vs.headD .nan)
      | _ => (vs.map Val.abs).foldl vmax (.fin false 0)
    let z := rne32 r
    (z.1, xs.foldl (fun f x => f ||| x.2) 0 ||| z.2 ||| invalidOf r vs)
  let rs := (List.range 16).map (fun q => one (16 * u + q))
  let all := o.aux ++ rs.map Prod.fst
  let fl := rs.foldl (fun f x => f ||| x.2) 0
  let last := decide (u + 1 = vUnits o)
  let done := decide (all.length = 128) || last
  let row := u / 8
  -- written group j of VRED is the run of results 64j … 64j+63 (R149)
  let grp := fun k => (all.drop (64 * k)).take 64
  let sf := if done then
      (List.range ((all.length + 63) / 64)).foldl (fun (acc : List (Nat × Nat) × Flags) k =>
        let z := statAt (oxSTAT o.opx) acc.1 ((2 * row + k) % 64) ((grp k).map (fmtValue 7))
        (z.1, acc.2 ||| z.2)) (st, 0)
    else (st, 0)
  { outs := if done then [(⟨2, o.md, o.rd + row, row⟩, packRow 32 all)] else [],
    aux := if done then [] else all, fl := fl ||| sf.2, st := sf.1, carry := [] }

/-- One output row of VSHUF (R147). -/
def shufUnit (o : EngOp) (r : Nat) : Row :=
  let w := 8 * 2 ^ oxFN o.opx
  let e := 4096 / w
  let ni := if oxFN o.opx = 0 then 2 else 1
  packRow w ((List.range e).map (fun j =>
    let ix := elemAt (fun k => o.rowOf 1 (ni * r + k)) 16 j
    let i := ix % 1024
    if bitOf ix 15 || decide (2 * e ≤ i) then 0
    else if i < e then elemAt (fun _ => o.rowOf 0 r) w i
    else elemAt (fun _ => o.rowOf 2 r) w (i - e)))

/-! ### QUANT (R151, R152) -/

/-- The largest finite value QUANT scales to. -/
def quantMax : Nat → Rat
  | 0 => 7 | 1 => 127 | 2 => 6 | 3 => 448 | _ => 57344

/-- The scale byte an absolute maximum gets (R151), with its flags. -/
def quantScale (fb fd a : Nat) : Nat × Flags :=
  match fmtValue 7 a with
  | .nan => (if fb = 9 then 0xFF else 0x7F, flScaleNan)
  | .inf _ => (if fb = 9 then 0xFE else 0x7E, flOverflow)
  | .fin _ q =>
    let r := q / quantMax fd
    if q = 0 then (if fb = 9 then 0x7F else 0x38, 0)
    else if fb = 9 then
      let e := if pow2 (log2Floor r) = r then log2Floor r else log2Floor r + 1
      if 127 < e then (0xFE, flOverflow) else if e < -127 then (0, 0) else ((e + 127).toNat, 0)
    else if 448 < r then (0x7E, flOverflow)
    else ((findUp (fun c => decide (r ≤ (fmtValue 3 c).rat)) 1 0x7E).getD 0x7E, 0)

/-- Unit 0 of QUANT: the scales and the scale row with vector VEC replaced. -/
def quantScales (o : EngOp) (st : List (Nat × Nat)) : UnitOut :=
  let ss := (List.range 64).map (fun i => quantScale (oxFB o.opx) (oxFD o.opx) (st.getD i (0, 0)).1)
  let bytes := ss.foldr (fun s acc => s.1 % 256 + acc * 256) 0
  { outs := [(⟨1, 0, o.rb, 0⟩, rowPut (o.rowOf 1 0) (512 * oxVEC o.opx) 512 bytes)],
    aux := ss.map Prod.fst, fl := ss.foldl (fun f s => f ||| s.2) 0, st := st, carry := [] }

/-- Element j of group n of QUANT before its conversion: x ÷ s, a NaN where s is one (R152). -/
def quantElem (o : EngOp) (n j : Nat) : Val × Flags :=
  let x := o.srcA (64 * n + j)
  let s := fmtValue (oxFB o.opx) (o.aux.getD (n % 64) 0)
  if s.isNan then (.nan, x.2) else (vdiv x.1 s, x.2)

/-! ### Online softmax (R167–R171, R173) -/

def smWord (o : EngOp) (r e : Nat) : Nat := elemAt (fun _ => o.rowOf 1 r) 32 e

/-- Score s(m, j) with the causal mask of R169; `base` is where the pass's score rows are kept. -/
def smScore (o : EngOp) (base m j : Nat) : Val :=
  let kbase := o.cnt
  let q := smWord o 1 (64 + m)
  if decide (oxFN o.opx = 1) && decide (q < kbase + j) then .inf true
  else fmtValue 7 (elemAt (fun r => o.rowOf 0 (base + r)) 32 (64 * m + j))

/-- An unmasked score of +∞ or NaN, or a state that is NaN, spoils the row (R170); the flags it sets. -/
def smBad (o : EngOp) (base m : Nat) : Bool × Flags :=
  let ss := (List.range 64).map (smScore o base m)
  let nan := ss.any Val.isNan || (fmtValue 7 (smWord o 0 (2 * m))).isNan || (fmtValue 7 (smWord o 0 (2 * m + 1))).isNan
  let inf := ss.any (fun x => decide (x = .inf false))
  (nan || inf, (if nan then flNanIn else 0) ||| (if inf then flInvalid else 0))

/-- Mn and c of row m (R170): FP32 codes, with flags. -/
def smMax (o : EngOp) (m : Nat) : (Nat × Nat) × Flags :=
  let b := smBad o 0 m
  if b.1 then ((fmtNan 7, fmtNan 7), b.2)
  else
    let mOld := fmtValue 7 (smWord o 0 (2 * m))
    let mn := ((List.range 64).map (smScore o 0 m)).foldl vmax mOld
    let mc := (rne32 mn).1
    if mn = .inf true then ((mc, 0x3F800000), 0)
    else if mOld = .inf true then ((mc, 0), 0)
    else
      let x := vsum [mOld, mn.neg]
      let d := rne32 x
      let e := exp2Fp d.1
      ((mc, e.1), d.2 ||| e.2 ||| invalidOf x [mOld, mn])

/-- e(j) of row m: EXP2(RNE(s − M)) (R170, R173). -/
def smExp (o : EngOp) (base m j mcode : Nat) : Nat × Flags :=
  let mn := fmtValue 7 mcode
  let s := smScore o base m j
  if mn.isNan then (fmtNan 7, 0)
  else if mn = .inf true || s = .inf true then (0, 0)
  else
    let d := rne32 (vsum [s, mn.neg])
    let e := exp2Fp d.1
    (e.1, d.2 ||| e.2)

/-- The V scale of key j (R168): byte j of vector VEC of row 2, or 1. -/
def smVScale (o : EngOp) (j : Nat) : Val :=
  if oxFB o.opx = 7 then .fin false 1 else fmtValue (oxFB o.opx) (elemAt (fun _ => o.rowOf 1 2) 8 (64 * oxVEC o.opx + j))

/-- Unit `u` of VSMX: 0 the first pass and the control row, 1–4 the P tile, 5 the state row (R170, R171). The working
values are Mn of the 64 rows, then c, then L. -/
def smxUnit (o : EngOp) (u : Nat) (st : List (Nat × Nat)) : UnitOut :=
  if u = 0 then
    let rs := (List.range 64).map (smMax o)
    let cs := rs.map (fun r => r.1.2)
    { outs := [(⟨1, 0, o.rb + 1, 1⟩, rowPut (o.rowOf 1 1) 0 2048 (packRow 32 cs).toNat)],
      aux := rs.map (fun r => r.1.1) ++ cs, fl := rs.foldl (fun f r => f ||| r.2) 0, st := st, carry := [] }
  else if u ≤ 4 then
    let ex := fun m j => smExp o 32 m j (o.aux.getD m 0)
    let z := emitUnit o (u - 1) (16 * (u - 1)) 16 (fun m j =>
      let e := ex m j
      let sv := smVScale o j
      let p := vmul (fmtValue 7 e.1) sv
      (p, e.2 ||| (if sv.isNan then flNanIn else 0))) st
    let ls := (List.range 16).map (fun q =>
      let m := 16 * (u - 1) + q
      if (fmtValue 7 (o.aux.getD m 0)).isNan then (fmtNan 7, 0)
      else
        let c := fmtValue 7 (o.aux.getD (64 + m) 0)
        let l := fmtValue 7 (smWord o 0 (2 * m + 1))
        let es := (List.range 64).map (fun j => fmtValue 7 (ex m j).1)
        let z := rne32 (vsum (vmul c l :: es))
        (z.1, z.2 ||| dotInvalid [(c, l)] es))
    { z with aux := o.aux ++ ls.map Prod.fst, fl := z.fl ||| ls.foldl (fun f l => f ||| l.2) 0 }
  else
    let words := ((List.range 64).map (fun m => [o.aux.getD m 0, o.aux.getD (128 + m) 0])).flatten
    { outs := [(⟨1, 0, o.rb, 0⟩, packRow 32 words)], aux := o.aux, fl := 0, st := st, carry := [] }

/-- Unit `u` of VSMXB (R173): P from the saved statistics. -/
def smxbUnit (o : EngOp) (u : Nat) (st : List (Nat × Nat)) : UnitOut :=
  if u = 0 then { outs := [], aux := o.aux, fl := 0, st := st, carry := [] }
  else
    emitUnit o (u - 1) (16 * (u - 1)) 16 (fun m j =>
      let b := smBad o 0 m
      let l := fmtValue 7 (smWord o 0 (2 * m + 1))
      if b.1 then (.nan, b.2)
      else if l.isZero && !l.sign then (.fin false 0, 0)
      else
        let e := smExp o 0 m j (smWord o 0 (2 * m))
        let q := vdiv (fmtValue 7 e.1) l
        (q, e.2 ||| invalidOf q [fmtValue 7 e.1, l])) st

/-! ### The scan (R190, R191) -/

/-- One chunk of one lane: the FP32 codes h[0..63], and the flags. -/
def scanLane (a b : List Val) (hin : Val) : List Nat × Flags :=
  let a0 := a.map (fun x => (rne32 x).1)
  let b0 := b.map (fun x => (rne32 x).1)
  let lvl := fun (p : List Nat × List Nat × Flags) d =>
    let as := p.1
    let bs := p.2.1
    let v := fun (l : List Nat) t => fmtValue 7 (l.getD t 0)
    let na := (List.range 64).map (fun t =>
      if t < d then (as.getD t 0, 0)
      else let r := vmul (v as t) (v as (t - d)); let z := rne32 r; (z.1, z.2 ||| invalidOf r [v as t, v as (t - d)]))
    let nb := (List.range 64).map (fun t =>
      if t < d then (bs.getD t 0, 0)
      else
        let r := vsum [vmul (v as t) (v bs (t - d)), v bs t]
        let z := rne32 r
        (z.1, z.2 ||| dotInvalid [(v as t, v bs (t - d))] [v bs t]))
    (na.map Prod.fst, nb.map Prod.fst, p.2.2 ||| (na ++ nb).foldl (fun f x => f ||| x.2) 0)
  let fin := [1, 2, 4, 8, 16, 32].foldl lvl (a0, b0, 0)
  let hs := (List.range 64).map (fun t =>
    let x := fmtValue 7 (fin.1.getD t 0)
    let y := fmtValue 7 (fin.2.1.getD t 0)
    let r := vsum [vmul x hin, y]
    let z := rne32 r
    (z.1, z.2 ||| dotInvalid [(x, hin)] [y]))
  (hs.map Prod.fst, fin.2.2 ||| hs.foldl (fun f x => f ||| x.2) 0)

/-- One chunk of VSCAN FN 0. -/
def scanUnit (o : EngOp) (u : Nat) (st : List (Nat × Nat)) (carry : List Nat) : UnitOut :=
  let lanes := (List.range 64).map (fun j =>
    let src := (List.range 64).map (fun t => (o.srcA (64 * (64 * u + t) + j), o.srcB (64 * u + t) j))
    let r := scanLane (src.map (fun p => p.1.1)) (src.map (fun p => p.2.1)) (fmtValue 7 (carry.getD j 0))
    (r.1, r.2 ||| src.foldl (fun f p => f ||| p.1.2 ||| p.2.2) 0 ||| (if (fmtValue 7 (carry.getD j 0)).isNan then flNanIn else 0)))
  let z := emitUnit o (4 * u) (64 * u) 64 (fun n j => (fmtValue 7 ((lanes.getD j ([], 0)).1.getD (n - 64 * u) 0), 0)) st
  { z with fl := z.fl ||| lanes.foldl (fun f l => f ||| l.2) 0, carry := lanes.map (fun l => l.1.getD 63 0) }

/-! ### Pooling and resize (R214, R215) -/

/-- Element e of plane t. -/
def planeElem (o : EngOp) (t e : Nat) : Val :=
  let pl := grpRows o.groups o.wA
  fmtValue (oxFA o.opx) (elemAt (fun r => o.rowOf 0 (t * pl + r)) o.wA e)

def poolElem (o : EngOp) (n j : Nat) : Val × Flags :=
  let xs := (List.range o.cnt2).map (fun t => planeElem o t (64 * n + j))
  let nin := if xs.any Val.isNan then flNanIn else 0
  if oxFN o.opx = 0 then ((xs.drop 1).foldl vmax (xs.headD .nan), nin)
  else
    let q := vdiv (vsum xs) (.fin false (o.cnt2 : Rat))
    (q, nin ||| invalidOf q xs)

def rszElem (o : EngOp) (n j : Nat) : Val × Flags :=
  let e := 64 * n + j
  let px := e / o.cnt2
  let fx : Nat := elemAt (o.rowOf 1) 16 (2 * px)
  let fy : Nat := elemAt (o.rowOf 1) 16 (2 * px + 1)
  let k := fun (v : Nat) => Val.fin false ((v : Rat) / 65536)
  let p := fun t => planeElem o t e
  let ins := [p 0, p 1, p 2, p 3]
  let tv := vsum [vmul (p 0) (k (65536 - fx)), vmul (p 1) (k fx)]
  let bv := vsum [vmul (p 2) (k (65536 - fx)), vmul (p 3) (k fx)]
  let t := rne32 tv
  let b := rne32 bv
  let r := vsum [vmul (fmtValue 7 t.1) (k (65536 - fy)), vmul (fmtValue 7 b.1) (k fy)]
  (r, (if ins.any Val.isNan then flNanIn else 0) ||| t.2 ||| b.2 ||| invalidOf r ins)

/-! ### One unit of any vector instruction -/

/-- The statistics row (R143, VSTRD): ABSMAX at bytes 8i, SUM at bytes 8i + 4. -/
def statRow (st : List (Nat × Nat)) : Row := packRow 32 ((st.map (fun e => [e.1, e.2])).flatten)

/-- VSTLD: the register replaced, or merged by the two rules of R149. -/
def statLoad (o : EngOp) (st : List (Nat × Nat)) : List (Nat × Nat) × Flags :=
  let w := fun e => elemAt (fun _ => o.rowOf 0 0) 32 e
  let es := (List.range 64).map (fun i =>
    let la := fmtValue 7 (w (2 * i))
    let ls := fmtValue 7 (w (2 * i + 1))
    let nanIn := if la.isNan || ls.isNan then flNanIn else 0
    if oxX o.opx then
      let am := vmax (fmtValue 7 (st.getD i (0, 0)).1) la.abs
      let old := fmtValue 7 (st.getD i (0, 0)).2
      let x := vsum [old, ls]
      let s := rne32 x
      (((rne32 am).1, s.1), nanIn ||| s.2 ||| invalidOf x [old, ls])
    else ((w (2 * i), w (2 * i + 1)), nanIn))
  (es.map Prod.fst, es.foldl (fun f e => f ||| e.2) 0)

/-- Unit `u` of a vector instruction, from the rows it has read. -/
def vUnit (o : EngOp) (u : Nat) (st : List (Nat × Nat)) (carry : List Nat) : UnitOut :=
  let keep : UnitOut := { outs := [], aux := o.aux, fl := 0, st := st, carry := carry }
  let withC := fun (z : UnitOut) => { z with carry := carry }
  match o.opc with
  | 0x33 => withC (redUnit o u st)
  | 0x34 => { keep with outs := [(⟨2, o.md, o.rd + u, u⟩, shufUnit o u)] }
  | 0x35 =>
    let rs := (List.range 16).foldl (fun (acc : List (Nat × Nat) × Flags) q =>
      let n := 16 * u + q
      let xs := (List.range 64).map (fun j => o.srcA (64 * n + j))
      let z := statAt (oxSTAT o.opx) acc.1 (n % 64) (xs.map Prod.fst)
      (z.1, acc.2 ||| z.2 ||| xs.foldl (fun f x => f ||| x.2) 0)) (st, 0)
    { keep with st := rs.1, fl := rs.2 }
  | 0x36 => withC (if u = 0 then quantScales o st else emitUnit o (u - 1) (16 * (u - 1)) 16 (quantElem o) st)
  | 0x39 =>
    if oxFN o.opx = 0 then { keep with outs := [(⟨2, o.md, o.rd, 0⟩, statRow st)] }
    else let z := statLoad o st; { keep with st := z.1, fl := z.2 }
  | 0x3A => withC (smxUnit o u st)
  | 0x3B => withC (smxbUnit o u st)
  | 0x3C =>
    match oxFN o.opx with
    | 0 => scanUnit o u st carry
    | 1 => { keep with carry := (List.range 64).map (fun i => elemAt (fun _ => o.rowOf 0 0) 32 (64 * (oxVEC o.opx / 4) + i)) }
    | _ => { keep with outs := [(⟨2, o.md, o.rd, 0⟩, rowPut (o.rowOf 2 0) (2048 * (oxVEC o.opx / 4)) 2048 (packRow 32 carry).toNat)] }
  | 0x3D => withC (emitUnit o u (16 * u) 16 (poolElem o) st)
  | 0x3E => withC (emitUnit o u (16 * u) 16 (rszElem o) st)
  | _ => withC (emitUnit o u (16 * u) 16 (fun n j => let e := vElem o n j; (fmtValue 7 e.1, e.2)) st)

/-! ### Decoding checks (R113, R143, R144, R151, R168, R175, R190, R214) -/

/-- A vector instruction whose encodings are not reserved. The operand names are the register fields. -/
def vectorLegal (opc aa ma ab mb ad md tile rc opx : Nat) : Bool :=
  let fa := oxFA opx
  let fb := oxFB opx
  let fd := oxFD opx
  let fn := oxFN opx
  let noA := decide (aa = 0) && decide (ma = 0)
  let noB := decide (ab = 0) && decide (mb = 0)
  let noD := decide (ad = 0) && decide (md = 0)
  let noBB := decide (oxBB opx = 0) && decide (oxVEC opx = 0)
  let noStat := decide (oxSTAT opx = 0) && !oxSTR opx
  let x0 := !oxX opx
  let rnd0 := !oxRND opx
  decide (tile = 0) && decide (ma ≠ 3) && decide (mb ≠ 3) && decide (md ≠ 3) && decide (oxSTAT opx ≠ 3) && !bitOf opx 25 &&
  match opc with
  | 0x30 => decide (fa ≤ 9) && decide (fb ≤ 9) && decide (fd ≤ 8) && decide (fn ≤ 4) && decide (oxBB opx ≠ 3) &&
      (decide (oxBB opx = 2) || decide (oxVEC opx = 0)) && x0
  | 0x31 => decide (fa ≤ 9) && decide (fb ≤ 9) && decide (fd ≤ 8) && decide (fn = 0) && decide (oxBB opx ≠ 3) &&
      (decide (oxBB opx = 2) || decide (oxVEC opx = 0)) && x0 && decide (md = 0)
  | 0x32 => decide (fa ≤ 9) && decide (fb = 0) && decide (fd ≤ 8) && decide (fn ≤ 6) && noBB && noB && x0
  | 0x33 => decide (fa ≤ 9) && decide (fb = 0) && decide (fd = 7) && decide (fn ≤ 2) && noBB && noB && x0
  | 0x34 => decide (bits opx 0 12 = 0) && decide (fn ≤ 2) && noStat && rnd0 && noBB && x0 && decide (md = 0)
  | 0x35 => decide (fa ≤ 9) && decide (fb = 0) && decide (fd = 0) && decide (fn = 0) && rnd0 && noBB && noB && noD && x0
  | 0x36 => (fa == 5 || fa == 6 || fa == 7) && (fb == 3 || fb == 9) && decide (fd ≤ 4) && decide (fn = 0) && noStat &&
      decide (oxBB opx = 0) && x0 && decide (mb = 0)
  | 0x37 => decide (opx = 0) && noA && noB && noD
  | 0x38 => decide (bits opx 0 24 = 0) && noA && noB && noD
  | 0x39 => decide (bits opx 0 12 = 0) && decide (fn ≤ 1) && noStat && rnd0 && noBB && noB && decide (rc = 0) &&
      (if fn = 0 then noA && x0 else noD)
  | 0x3A => decide (fa = 7) && (fb == 9 || fb == 3 || fb == 7) && decide (2 ≤ fd) && decide (fd ≤ 6) && decide (fn ≤ 1) &&
      noStat && decide (oxBB opx = 0) && (decide (fb ≠ 7) || decide (oxVEC opx = 0)) && x0 && decide (mb = 0)
  | 0x3B => decide (fa = 7) && decide (fb = 7) && decide (3 ≤ fd) && decide (fd ≤ 7) && decide (fn ≤ 1) &&
      noStat && noBB && x0 && decide (mb = 0)
  | 0x3C =>
      noStat && decide (oxBB opx = 0) && x0 &&
      (match fn with
       | 0 => decide (5 ≤ fa) && decide (fa ≤ 7) && decide (5 ≤ fb) && decide (fb ≤ 7) && decide (2 ≤ fd) && decide (fd ≤ 7) && decide (oxVEC opx = 0)
       | 1 => decide (oxVEC opx % 4 = 0) && noB && noD && decide (rc = 0)
       | 2 => decide (oxVEC opx % 4 = 0) && noA && noB && decide (rc = 0)
       | _ => false)
  | 0x3D => decide (fa ≤ 6) && decide (fb = 0) && decide (fd ≤ 7) && decide (fn ≤ 1) && noStat && noBB && noB && x0 && decide (rc ≠ 0)
  | 0x3E => decide (fa ≤ 6) && decide (fb = 0) && decide (fd ≤ 7) && decide (fn = 0) && noStat && noBB && x0 && decide (mb = 0) && decide (rc ≠ 0)
  | _ => false

/-- The count of a vector instruction is in its range (R145, R190, R214). -/
def vectorCount (o : EngOp) : Bool :=
  let grp := fun n => decide (16 ≤ n) && decide (n ≤ 131072) && decide (n % 16 = 0)
  match o.opc with
  | 0x34 => decide (1 ≤ o.cnt) && decide (o.cnt ≤ 8192)
  | 0x39 => true
  | 0x3A => true
  | 0x3B => true
  | 0x3C => if oxFN o.opx = 0 then decide (64 ≤ o.cnt) && decide (o.cnt ≤ 131072) && decide (o.cnt % 64 = 0) else true
  | 0x3D => grp o.groups && decide (1 ≤ o.cnt2) && decide (o.cnt2 ≤ 961) && decide (o.cnt / 2 ^ 48 = 0)
  | 0x3E => grp o.groups && decide (16 ≤ o.cnt2) && decide (o.cnt2 ≤ 8160) && decide (o.cnt / 2 ^ 48 = 0)
  | _ => grp o.cnt

/-- The operands of a vector instruction and the rows each spans (R99). -/
def vectorSpans (o : EngOp) : List (Nat × Nat) :=
  let n := o.groups
  let a := (0, grpRows n o.wA)
  let d := (2, grpRows n o.wD)
  let b := (1, match oxBB o.opx with
    | 0 => grpRows n o.wB
    | 1 => 1
    | _ => 8 * oxVEC o.opx * o.wB / 512 + 1)
  match o.opc with
  | 0x30 => [a, b, d]
  | 0x31 => [a, b, d]
  | 0x32 => [a, d]
  | 0x33 => [a, (2, (n + 127) / 128)]
  | 0x34 => [(0, n), (1, if oxFN o.opx = 0 then 2 * n else n), (2, n)]
  | 0x35 => [a]
  | 0x36 => [a, (1, 1), d]
  | 0x39 => if oxFN o.opx = 0 then [(2, 1)] else [(0, 1)]
  | 0x3A => [(0, 32), (1, if oxFB o.opx = 7 then 2 else 3), d]
  | 0x3B => [(0, 32), (1, 2), d]
  | 0x3C => if oxFN o.opx = 0 then [a, b, d] else if oxFN o.opx = 1 then [(0, 1)] else [(2, 1)]
  | 0x3D => [(0, o.cnt2 * grpRows n o.wA), d]
  | 0x3E => [(0, 4 * grpRows n o.wA), (1, ((64 * n + o.cnt2 - 1) / o.cnt2 + 127) / 128), d]
  | _ => []

/-- Output elements of an instruction, by which SRCTR advances when RND is 1 (R142). -/
def outElems (o : EngOp) : Nat :=
  match o.opc with
  | 0x22 => 4096
  | 0x33 => o.groups
  | 0x3C => if oxFN o.opx = 0 then 64 * o.groups else if oxFN o.opx = 1 then 0 else 64
  | _ => 64 * o.groups

/-- The instruction reads, updates or replaces the statistics register (R150). -/
def usesStat (o : EngOp) : Bool :=
  match o.opc with
  | 0x22 => decide (oxSTAT o.opx ≠ 0)
  | 0x35 => true
  | 0x36 => true
  | 0x39 => true
  | _ => decide (0x30 ≤ o.opc) && decide (oxSTAT o.opx ≠ 0)

end Sys2Proof.Machine
end

