-- ==== Sys2Proof/Machine/CoreOps.lean ====
section
/-! DEFINITION. The slot wheel with its tag tests (R46–R60), the progress of the engines, exceptions (R116, R117), and the
waits of the control engine (R89, R103, R109). -/

namespace Sys2Proof.Machine

/-! ### Exceptions -/

/-- CORE_EXC_STATUS is all zero. -/
def State.excClear (s : State) (c : Nat) : Bool :=
  !(s.bit R.CORE_EXC_STATUS_TAGWAIT_TO c || s.bit R.CORE_EXC_STATUS_DMA_TAGWAIT_TO c || s.bit R.CORE_EXC_STATUS_LOCAL_DEADLOCK c ||
    s.bit R.CORE_EXC_STATUS_ROW_ALIGN c || s.bit R.CORE_EXC_STATUS_DEADLINE_BLOCKED c)

/-- CORE_EXC_INFO takes its record where it is the first since CORE_EXC_STATUS was all zero (R78). -/
def excInfo (c owner slot tag mode : Nat) : Act :=
  .get fun s => whenA (s.excClear c) (many [
    setR R.CORE_EXC_INFO_OWNER owner c, setR R.CORE_EXC_INFO_SLOT slot c, setR R.CORE_EXC_INFO_TAG tag c, setR R.CORE_EXC_INFO_MODE mode c])

/-- CORE_EXC_INFO as one word. -/
def State.excInfoWord (s : State) (c : Nat) : Nat :=
  s.reg R.CORE_EXC_INFO_OWNER c + s.reg R.CORE_EXC_INFO_SLOT c * 16 + s.reg R.CORE_EXC_INFO_TAG c * 2 ^ 16 + s.reg R.CORE_EXC_INFO_MODE c * 2 ^ 18

/-- The status a clause ends with after an exception (R300). -/
def excStatus (code : Nat) : Nat := if code = 0x10 || code = 0x11 then stDeadline else stClauseFault

/-- An exception is taken (R117, R121, R122): it is recorded where no record is held, logged, and the clause is handled
as faulted. -/
def takeExc (c code detail : Nat) (insn : Nat) : Act :=
  .get fun s =>
    let k := s.core c
    let pc := (k.pc % (2 ^ 22 : Nat)).toNat
    many [
      whenA (!s.bit R.CORE_FAULT_CODE_VALID c) (many [
        setR R.CORE_FAULT_CODE_CODE code c, setR R.CORE_FAULT_CODE_DETAIL detail c, setR R.CORE_FAULT_PC_PC pc c,
        setR R.CORE_FAULT_INSN_WORD insn c, setR R.CORE_FAULT_CODE_VALID 1 c]),
      logEv (dieOf c) c 2 code (pc + detail % 2 ^ 16 * 2 ^ 32 + s.excInfoWord c * 2 ^ 48),
      setR R.CORE_SEMWAIT_W0_VALID 0 c,
      updCore c (fun k => { k with halted := true }),
      whenA (decide (code = 0x12) || decide (code = 0x13) || decide (code = 0x14)) (declareHang 3 c k.clause),
      faultClause k.clause (excStatus code) code detail ]

/-! ### What each owner has to serve -/

/-- An instruction has served every row it reads and writes and computed every step. -/
def EngOp.finished (o : EngOp) : Bool :=
  o.q0.isEmpty && o.q1.isEmpty && o.q2.isEmpty && o.q3.isEmpty && o.q4.isEmpty &&
  (if isMMA o.opc then decide (o.step = o.cnt) else if o.opc < 0x30 then decide (o.step = 1) else decide (o.step = vUnits o))

/-- The instruction an engine is at (R41: in order; the next begins after the last write of the one before, R171). -/
def curOp (l : List EngOp) : Option EngOp := l.find? (fun o => !o.finished)

/-- The queue with one of its instructions replaced. -/
def putOp (l : List EngOp) (o : EngOp) : List EngOp := l.map (fun x => if x.seq = o.seq then o else x)

/-- The rows an engine's owner still has to serve for an instruction. -/
def EngOp.rows (o : EngOp) (k : Nat) : List RowRef :=
  match k with | 0 => o.q0 | 1 => o.q1 | 2 => o.q2 | 3 => o.q3 | _ => o.q4

/-- The engine's instruction an owner (0–4) serves. -/
def State.ownOp (s : State) (c k : Nat) : Option EngOp := curOp (if k < 3 then (s.core c).mq else (s.core c).vq)

/-- Segments of a transfer with a scratchpad side: its rows (R273); without one, 512-byte pieces of the destination. -/
def Xfer.segCount (x : Xfer) : Nat :=
  match x.src, x.dst with
  | .spad _ _, _ => cdiv x.len 512
  | _, .spad _ _ => cdiv x.len 512
  | _, .dev da => cdiv (da % 512 + x.len) 512
  | _, _ => 0

/-- The transfer that owner 5 (in) or 6 (out) of a core is at (R276): the first in the port that is not suspended. -/
def State.portCur (s : State) (c : Nat) (isIn : Bool) : Option Nat :=
  (s.core c).port.find? (fun x => match s.xfer x with
    | some v => v.susp.isNone && decide (v.segCount > v.done) &&
        (match v.dst, v.src with
         | .spad d _, .spad g _ => if isIn then decide (d = c) else decide (g = c)
         | .spad d _, _ => isIn && decide (d = c)
         | _, .spad g _ => !isIn && decide (g = c)
         | _, _ => false)
    | none => false)

/-- The scratchpad row of segment k on a side. -/
def sideRow : Side → Nat → Nat
  | .spad _ r, k => r + k
  | _, _ => 0

/-- The rows owner `k` of a core has named and not served, in the order named (R49). -/
def State.ownRows (s : State) (c k : Nat) : List RowRef :=
  match k with
  | 5 => match s.portCur c true with
    | none => []
    | some x => match s.xfer x with
      | none => []
      | some v => match v.segs.find? (fun g => decide (g.st ≠ .ended)) with
        | some g => if g.st = .haveData then [⟨x, v.dmode, sideRow v.dst g.k, g.k⟩] else []
        | none => []
  | 6 => match s.portCur c false with
    | none => []
    | some x => match s.xfer x with
      | none => []
      | some v => (v.segs.filter (fun g => decide (g.st = .needRead) && decide (g.srcKind = 1))).map (fun g => ⟨x, v.smode, sideRow v.src g.k, g.k⟩)
  | 7 => ((s.core c).cq.take 1).map CtlRow.ref
  | _ => match s.ownOp c k with
    | none => []
    | some o => o.rows k

/-- The owner writes the row. -/
def State.ownWrites (s : State) (c k : Nat) : Bool :=
  match k with
  | 2 => match s.ownOp c 2 with | some o => decide (o.opc = 0x22) | none => false
  | 4 => true
  | 5 => true
  | 7 => match (s.core c).cq with | r :: _ => decide (r.kind = .strs) | [] => false
  | _ => false

/-- The row may be served: data to write is there, and a scale row waits for the tag tests of its step's first data rows
(R137). -/
def State.rowReady (s : State) (c k : Nat) (r : RowRef) : Bool :=
  match k with
  | 0 => match s.ownOp c 0 with
    | some o => decide (r.opnd ≠ 2) || (o.has 0 0 && o.has 1 0)
    | none => false
  | 1 => match s.ownOp c 0 with
    | some o => decide (r.opnd ≠ 2) ||
        (match (List.range o.cnt).find? (fun t => decide (sbRow o t = r.idx)) with
         | some t => o.has 0 (t * aRows o) && o.has 1 (t * bRows o)
         | none => false)
    | none => false
  | 2 => match s.ownOp c 2 with
    | some o => decide (o.opc = 0x23) || (o.outs.any (fun e => decide (e.1 = gotKey r.opnd r.idx)))
    | none => false
  | 4 => match s.ownOp c 4 with
    | some o => o.outs.any (fun e => decide (e.1 = gotKey r.opnd r.idx))
    | none => false
  | _ => true

/-- The access serves no further row in the slot after this one (R54–R56). -/
def State.lastInSlot (s : State) (c k : Nat) (r : RowRef) : Bool :=
  if k = 5 || k = 6 then
    match s.xfer r.opnd with
    | some v => decide (r.row % 8 = 7) || decide (r.idx + 1 = v.segCount)
    | none => true
  else if k = 7 then true
  else !((s.ownRows c k).any (fun q => decide (q.opnd = r.opnd) && decide (q.row / 8 = r.row / 8) && decide (q ≠ r)) ||
    -- rows an instruction will still write in the slot count as its access
    (k = 4 && match s.ownOp c 4 with
      | some o => decide (r.opnd = 2) && decide (r.row % 8 ≠ 7) && decide (o.step < vUnits o)
      | none => false))

/-! ### Tags (R52–R60) -/

/-- Another owner than `k` has the slot in use. -/
def CoreS.inUse (m : CoreS) (slot : Nat) (k : Nat) : Bool := m.own.any (fun e => decide (e.1 ≠ k) && e.2.use.any (fun u => decide (u % 1024 = slot)))

/-- Any owner has the slot in use. -/
def CoreS.anyUse (m : CoreS) (slot : Nat) : Bool := m.own.any (fun e => e.2.use.any (fun u => decide (u % 1024 = slot)))

/-- The claimant code of an access. -/
def claimCode (k : Nat) (r : RowRef) : Nat := if k = 5 || k = 6 then claimXfer r.opnd else claimOwner k

/-- The tag test of R56 against the state at the start of the cycle (`m0`) and the claims made in it (`m`): whether it
passes. -/
def tagTest (m0 m : CoreS) (k : Nat) (write : Bool) (r : RowRef) : Bool :=
  let slot := r.row / 8
  let t0 := mget 0 m0.tags slot
  let t1 := mget 0 m.tags slot
  if r.mode = 0 then true
  else if (mget OwnS.idle m.own k).use.contains (r.opnd * 1024 + slot) then true
  else if mget 0 m.claim slot = claimCode k r && (k = 5 || k = 6) then true
  else if write then decide (t0 = 0) && decide (t1 = 0) && !m0.anyUse slot && !m.anyUse slot
  else if r.mode = 2 then decide (t0 = 2) && decide (t1 = 2)
  else decide (t0 = 2)

/-- The tag change at the first row of a slot (R56). -/
def tagBegin (k : Nat) (write : Bool) (r : RowRef) (m : CoreS) : CoreS :=
  let slot := r.row / 8
  let u := r.opnd * 1024 + slot
  let o := mget OwnS.idle m.own k
  if r.mode = 0 || o.use.contains u then m
  else
    let m := { m with own := mset OwnS.idle m.own k { o with use := u :: o.use } }
    if write then { m with tags := mset 0 m.tags slot 1, claim := mset 0 m.claim slot (claimCode k r) }
    else if r.mode = 2 then { m with tags := mset 0 m.tags slot 3, claim := mset 0 m.claim slot (claimCode k r) }
    else m

/-- The tag change at the last row of a slot (R56). -/
def tagEnd (k : Nat) (write : Bool) (r : RowRef) (m : CoreS) : CoreS :=
  let slot := r.row / 8
  let u := r.opnd * 1024 + slot
  let o := mget OwnS.idle m.own k
  if r.mode = 0 then m
  else
    let m := { m with own := mset OwnS.idle m.own k { o with use := o.use.erase u } }
    if write then { m with tags := mset 0 m.tags slot (if r.mode = 2 then 2 else 0), claim := mset 0 m.claim slot 0 }
    else if mget 0 m.tags slot = 3 && !m.anyUse slot then { m with tags := mset 0 m.tags slot 0, claim := mset 0 m.claim slot 0 }
    else m

/-- The state a blocked access waits for (R80): 1 Full, 0 Empty. -/
def wantFull (write : Bool) : Bool := !write

/-- A failed test: the access blocks, or stays blocked with the tag now found (R58, R61, R79). -/
def blockRow (c k : Nat) (r : RowRef) (tag : Nat) : Act :=
  .get fun s =>
    match (mget OwnS.idle (s.core c).own k).blk with
    | some b => updCore c fun m => { m with own := mupd OwnS.idle m.own k fun o => { o with blk := some { b with tag := tag } } }
    | none =>
      match (if k = 5 ∨ k = 6 then (s.xfer r.opnd).bind (fun v => v.aside) else none) with
      | some b => .seq (updXfer r.opnd fun v => { v with aside := none })
          (updCore c fun m => { m with own := mupd OwnS.idle m.own k fun o => { o with blk := some { b with tag := tag } } })
      | none => .seq (bump R.CORE_BLOCK_COUNT_COUNT 1 c)
          (updCore c fun m => { m with own := mupd OwnS.idle m.own k fun o => { o with blk := some ⟨r, tag, s.coreTick c⟩ } })

/-! ### Moving a row -/

/-- Row r of a core's scratchpad (R42). -/
def spadKey (c r : Nat) : Nat := c * 8192 + r % 8192
def State.spadRow (s : State) (c r : Nat) : Row := mget 0 s.spad (spadKey c r)
def putRow (c r : Nat) (v : Row) : Act := .put (.spad (spadKey c r) v)

/-- An instruction of a core's engine is replaced. -/
def setOp (c k : Nat) (o : EngOp) : Act :=
  updCore c fun m => if k < 3 then { m with mq := putOp m.mq o } else { m with vq := putOp m.vq o }

/-- A row leaves the owner's list of an instruction. -/
def EngOp.dropRow (o : EngOp) (k : Nat) (r : RowRef) : EngOp :=
  match k with
  | 0 => { o with q0 := o.q0.erase r, started := true }
  | 1 => { o with q1 := o.q1.erase r, started := true }
  | 2 => { o with q2 := o.q2.erase r, started := true }
  | 3 => { o with q3 := o.q3.erase r, started := true }
  | _ => { o with q4 := o.q4.erase r, started := true }

/-- The fetch buffer takes a row: of five, the one that entered first leaves (R84). -/
def fbufPush (m : CoreS) (r : Nat) (v : Row) : CoreS :=
  let l := m.fbuf.filter (fun e => decide (e.1 ≠ r)) ++ [(r, v)]
  { m with fbuf := if 4 < l.length then l.drop 1 else l }

/-- The descriptor row of a queue request of core `c` has been read (R110): its first 128 bytes, marked as there. -/
def reqData (c : Nat) (v : Row) (x : Req) : Req :=
  if decide (x.core = c) && x.isQue && decide (x.data = 0) then { x with data := v.toNat % 2 ^ 1024 + 2 ^ 1024 } else x

/-- Segment `k` has read its row; `prev` is the row before it of a scatter. -/
def segRead (k : Nat) (v : Row) (prev : Nat) (x : Seg) : Seg :=
  if x.k = k then { x with st := .haveData, data := v.toNat % 2 ^ (8 * x.len) + prev * 2 ^ 4096 } else x

/-- Segment `k` has ended. -/
def segEnded (k : Nat) (x : Seg) : Seg := if x.k = k then { x with st := .ended } else x

/-- A row is served: it moves between the scratchpad and the engine, the port or the control engine (R50). -/
def moveRow (c k : Nat) (write : Bool) (r : RowRef) : Act :=
  .get fun s =>
    match k with
    | 5 => withA (s.xfer r.opnd) fun v => withA (v.segs.find? (fun g => decide (g.k = r.idx))) fun g => many [
        putRow c r.row (BitVec.ofNat 4096 (g.data % 2 ^ (8 * g.len))),
        updXfer r.opnd fun v => { v with segs := v.segs.map (segEnded r.idx) } ]
    | 6 => updXfer r.opnd fun v => { v with
        segs := v.segs.map (segRead r.idx (s.spadRow c r.row) (v.ag.getD 0 / 2 ^ 4096)),
        ag := v.ag.map (fun a => a % 2 ^ 4096 + (s.spadRow c r.row).toNat * 2 ^ 4096) }
    | 7 => match (s.core c).cq with
      | [] => .nop
      | q :: rest => .seq (updCore c fun m => { m with cq := rest })
        (match q.kind with
         | .ldrs => updCore c fun m => { m with rs := s.spadRow c r.row }
         | .strs => putRow c r.row q.data
         | .desc => .put (.die fun d => { d with reqs := d.reqs.map (reqData c (s.spadRow c r.row)) }))
    | _ => withA (s.ownOp c k) fun o =>
        if write then many [
          putRow c r.row (mget 0 o.outs (gotKey r.opnd r.idx)),
          setOp c k { (o.dropRow k r) with outs := mdel o.outs (gotKey r.opnd r.idx) } ]
        else setOp c k { (o.dropRow k r) with got := mins o.got (gotKey r.opnd r.idx) (s.spadRow c r.row) }

/-- One candidate row of an owner in a cycle: tested, and served or blocked. `go` carries on where it was served. -/
def tryRow (c k : Nat) (m0 : CoreS) (r : RowRef) (go : Act) : Act :=
  .get fun s =>
    let m := s.core c
    let w := s.ownWrites c k
    if tagTest m0 m k w r then
      many [
        updCore c (fun m => tagBegin k w r { m with
          lockT := some (s.coreTick c), own := mupd OwnS.idle m.own k fun o => { o with blk := none } }),
        .get fun s =>
          let last := s.lastInSlot c k r
          many [moveRow c k w r, whenA last (updCore c fun m => tagEnd k w r m)],
        go ]
    else blockRow c k r (mget 0 m0.tags (r.row / 8))

/-- The cycle of one owner (R46, R49, R58, R59): of its window of 16, the earliest-named ready row in each of its two
banks, in the order named; while it is blocked, its blocked row first. -/
def ownerCycle (c k t : Nat) (m0 : CoreS) : Act :=
  .get fun s =>
    let win := (s.ownRows c k).take 16
    let lo := (k + t) % 8
    let pick := fun b => win.find? (fun r => decide (r.row % 16 = b) && s.rowReady c k r)
    let cand := win.filter (fun r => pick lo = some r || pick (lo + 8) = some r)
    match (mget OwnS.idle (s.core c).own k).blk with
    | some b =>
      if cand.contains b.ref then
        tryRow c k m0 b.ref (forA (cand.filter (fun r => decide (r ≠ b.ref))) (fun r => tryRow c k m0 r .nop))
      else .nop
    | none =>
      match cand with
      | [] => .nop
      | [r] => tryRow c k m0 r .nop
      | r1 :: r2 :: _ => tryRow c k m0 r1 (tryRow c k m0 r2 .nop)

/-! ### The engines' progress -/

/-- A tile row of the accumulator file (R66). -/
def accKey (c tile m : Nat) : Nat := (c * 16 + tile) * 64 + m
def State.accRow (s : State) (c tile m : Nat) : BitVec 2048 := mget 0 s.acc (accKey c tile m)

/-- No earlier instruction that uses the statistics register is unfinished (R150). -/
def State.statTurn (s : State) (c : Nat) (o : EngOp) : Bool :=
  !usesStat o || !((s.core c).mq ++ (s.core c).vq).any (fun x => usesStat x && decide (x.seq < o.seq) && !x.finished)

/-- STR resets the statistics register before the instruction's first update (R144, R149). -/
def statBegin (c k : Nat) (o : EngOp) : Act :=
  if o.statBegun then .nop
  else .seq (whenA (usesStat o && oxSTR o.opx && decide (oxSTAT o.opx ≠ 0)) (setStats c [])) (setOp c k { o with statBegun := true })

/-- The matrix engine goes as far as the rows it has allow: steps of MMA, MMAS and MMAR, the rows of a spill, the tile of
a fill (R132, R138). -/
def matrixAdvance (c : Nat) : Act :=
  .get fun s => withA (s.ownOp c 0) fun o =>
    if isMMA o.opc then
      if o.step < o.cnt && stepReady o o.step then
        let rs := (List.range 64).map (fun m => stepRow o o.step m (s.accRow c o.tile m))
        many [
          forA (List.range 64) (fun m => .put (.acc (accKey c o.tile m) (rs.getD m (0, 0)).1)),
          orFlags c (rs.foldl (fun f r => f ||| r.2) 0),
          setOp c 0 (dropStep o o.step) ]
      else .nop
    else if o.opc = 0x22 then
      if o.step = 0 && s.statTurn c o then
        many [
          statBegin c 0 o,
          .get fun s =>
            let n := fmtBits (spillFmt o)
            let z := (List.range n).foldl (fun (acc : SMap Row × Flags × List (Nat × Nat)) r =>
              let q := spillRow o r (s.accRow c o.tile) acc.2.2
              (mins acc.1 (gotKey 2 r) q.1, acc.2.1 ||| q.2.1, q.2.2)) ([], 0, s.stats c)
            many [orFlags c z.2.1, whenA (usesStat o) (setStats c z.2.2), setOp c 0 { o with step := 1, outs := z.1, statBegun := true }] ]
      else .nop
    else if o.step = 0 && o.q2.isEmpty then
      let rs := (List.range 64).map (fillTileRow o)
      many [
        forA (List.range 64) (fun m => .put (.acc (accKey c o.tile m) (rs.getD m (0, 0)).1)),
        orFlags c (rs.foldl (fun f r => f ||| r.2) 0),
        setOp c 0 { o with step := 1, got := [] } ]
    else .nop

/-- The carry register as 64 FP32 codes (R190). -/
def CoreS.carryL (m : CoreS) : List Nat := (List.range 64).map (fun i => mget 0 m.carry i)

/-- The vector engine computes the next unit whose rows it has; a unit's rows are named for writing once no row of
another operand still waits to be written (R152, R171). -/
def vectorAdvance (c : Nat) : Act :=
  .get fun s => withA (s.ownOp c 3) fun o =>
    if o.step < vUnits o && unitReady o o.step && s.statTurn c o then
      many [
        statBegin c 3 o,
        .get fun s =>
          let u := vUnit o o.step (s.stats c) (s.core c).carryL
          let other := o.q4.any (fun r => match u.outs with
            | (f, _) :: _ => decide (f.opnd ≠ r.opnd)
            | [] => false)
          if other then .nop
          else many [
            orFlags c u.fl,
            whenA (usesStat o) (setStats c u.st),
            whenA (decide (o.opc = 0x3C)) (updCore c fun m => { m with carry := (List.range 64).foldl (fun k i => mset 0 k i (u.carry.getD i 0)) [] }),
            setOp c 3 { o with
              step := o.step + 1, aux := u.aux, statBegun := true, started := true,
              q4 := o.q4 ++ u.outs.map Prod.fst,
              outs := u.outs.foldl (fun k e => mins k (gotKey e.1.opnd e.1.idx) e.2) o.outs } ] ]
    else .nop

/-- One core cycle of a core: the eight owners, then the engines (R46, R51). No row is served while the clock of the core
is stopped, nor twice in one cycle; while Kickstand has the core only its DMA port goes on (R306). -/
def coreCycle (c : Nat) : Act :=
  .get fun s =>
    let t := s.cyc c
    if !(s.core c).cycRun || decide ((s.core c).lastCyc = some t) || s.bit R.CORE_STATUS_SCRUB c then .nop
    else many [
      updCore c (fun m => { m with lastCyc := some t }),
      many ((if s.bit R.CORE_STATUS_SAVE c then [5, 6] else List.range 8).map (fun k => ownerCycle c k t (s.core c))),
      whenA (!s.bit R.CORE_STATUS_SAVE c) (many (List.replicate 2 (matrixAdvance c) ++ List.replicate 2 (vectorAdvance c))) ]

/-! ### Waits of the control engine -/

/-- No transfer this clause issued in a direction is unfinished (R103). -/
def State.dmaDone (s : State) (c : Nat) (isIn : Bool) : Bool :=
  !s.die.xfers.any (fun e => match e.2 with
    | some v => (match v.org with
        | .insn g k _ _ => decide (g = c) && decide (k = (s.core c).clause)
        | _ => false) &&
        (if isIn then (match v.dst with | .spad _ _ => true | _ => false) else (match v.src with | .spad _ _ => true | _ => false))
    | none => false)

/-- Everything a FENCE mask selects has completed (R103). -/
def State.fenceDone (s : State) (c mask : Nat) : Bool :=
  let m := s.core c
  (!bitOf mask 0 || m.mq.isEmpty) && (!bitOf mask 1 || m.vq.isEmpty) &&
  (!bitOf mask 2 || s.dmaDone c true) && (!bitOf mask 3 || s.dmaDone c false) &&
  (!bitOf mask 4 || m.cq.all (fun r => decide (r.kind = .desc))) &&
  (!bitOf mask 5 || !s.die.reqs.any (fun r => decide (r.core = c)))

/-- The waits of the control engine that end when what they wait for has completed: FENCE and VFLAGS. CEND's end is
CLAUSE_END. -/
def ctlRecheck (c : Nat) : Act :=
  .get fun s =>
    match (s.core c).wait with
    | .fence mask => whenA (s.fenceDone c mask) (.seq (updCore c fun m => { m with wait := .none }) (progress c))
    | .vflags rc clear => whenA (s.fenceDone c 3) (many [
        updCore c (fun m => { m with wait := .none, g := if rc = 0 then m.g else mset 0 m.g rc (BitVec.ofNat 64 (s.arithFlags c)) }),
        whenA clear (clearFlags c), progress c ])
    | _ => .nop

/-- Instructions an engine (0 matrix, 1 vector) has finished are retired (R41, R103). -/
def retireOps (c eng : Nat) : Act :=
  .get fun s => updCore c fun m =>
    let l := if eng = 0 then m.mq else if eng = 1 then m.vq else []
    let m := if l.any EngOp.finished then { m with prog := s.coreTick c } else m
    if eng = 0 then { m with mq := m.mq.filter (fun o => !o.finished) }
    else if eng = 1 then { m with vq := m.vq.filter (fun o => !o.finished) }
    else m

end Sys2Proof.Machine
end

