-- ==== Sys2Proof/Machine/Operands.lean ====
section
/-! DEFINITION. Registers and operands of a core's instructions, its word (R92–R96), the checks on scratchpad operands
(R99), and the issue of one instruction (R93, R94, R116). -/

namespace Sys2Proof.Machine

/-! ### Registers (R83) -/

/-- g[r]; g0 reads 0. -/
def CoreS.gv (m : CoreS) (r : Nat) : Word := if r = 0 then 0 else mget 0 m.g r

/-- g[r] takes a value; a write to g0 is discarded. -/
def CoreS.setG (m : CoreS) (r : Nat) (v : Word) : CoreS := if r = 0 then m else { m with g := mset 0 m.g r v }

/-- p[r]; p0 reads 1. -/
def CoreS.pv (m : CoreS) (r : Nat) : Bool := if r = 0 then true else mget false m.p r

/-- p[r] takes a value; a write to p0 is discarded. -/
def CoreS.setP (m : CoreS) (r : Nat) (v : Bool) : CoreS := if r = 0 then m else { m with p := mset false m.p r v }

/-- a[r]. -/
def CoreS.av (m : CoreS) (r : Nat) : BitVec 48 := mget 0 m.a r

def CoreS.setA (m : CoreS) (r : Nat) (v : BitVec 48) : CoreS := { m with a := mset 0 m.a r v }

/-- The next instruction's address. -/
def CoreS.step8 (m : CoreS) : CoreS := { m with pc := m.pc + 8 }

/-- The second operand of ALU and CMP (R97): a register, or the immediate sign-extended (R96). -/
def opdVal (m : CoreS) : Opd → Word
  | .reg rb => m.gv rb.toNat
  | .imm v => v.signExtend 64

/-! ### The instruction word (R92, R96) -/

/-- A word from its opcode, its guard and its fields (bit place and value), with the bits no field of it names. -/
def wordOf (h : Hd) (opc : Nat) (fs : List (Nat × Nat)) : Nat :=
  (fs.foldl (fun w f => w ||| f.2 * 2 ^ f.1) (opc + h.pred.toNat * 2 ^ 6 + b2n h.pneg * 2 ^ 9)) ||| h.extra.toNat

/-- No bit that the format marks 0 is 1 (R94): `l` lists the runs (lowest bit, length) it marks 0. -/
def zeroOk (h : Hd) (l : List (Nat × Nat)) : Bool := l.all (fun r => decide (bits h.extra.toNat r.1 r.2 = 0))

/-! ### Scratchpad operands (R43, R99) -/

/-- The exception a scratchpad operand of `n` rows at an address takes: 3 row alignment, 4 scratchpad range. -/
def spanExc (a n : Nat) : Option Nat :=
  if a % 512 ≠ 0 then some 3
  else if a / 2 ^ 22 ≠ 0 then some 4
  else if 8192 < a / 512 + n then some 4
  else none

/-- The exception of several operands: the one with the lower priority number wins (R116). -/
def spansExc (l : List (Nat × Nat)) : Option Nat :=
  if l.any (fun x => decide (spanExc x.1 x.2 = some 3)) then some 3
  else if l.any (fun x => (spanExc x.1 x.2).isSome) then some 4
  else none

/-! ### Issue -/

/-- What an instruction does once it may execute: it goes on to the next one, jumps, waits with the PC kept, cannot issue
yet, or raises a synchronous exception. -/
inductive IRes where
  | ok (a : Act)
  | jump (pc : Int) (a : Act)
  | hold (a : Act)
  | stall
  | exn (code detail : Nat)

/-- The clause that runs on a core. -/
def State.running (s : State) (c : Nat) : Option ClauseS :=
  if (s.core c).inClause then
    match s.clause (s.core c).clause with
    | some k => if k.st = .running then some k else none
    | none => none
  else none

/-- The control engine can issue: a clause runs, nothing halts it and it waits for nothing. -/
def State.canIssue (s : State) (c : Nat) : Bool :=
  (s.running c).isSome && !(s.core c).halted && decide ((s.core c).wait = .none) && (s.core c).cycRun &&
  !s.bit R.CORE_STATUS_SAVE c && !s.bit R.CORE_STATUS_SCRUB c

/-- The row of the instruction comes into the fetch buffer where it is not there, and with the first instruction of a
row the row after it (R84, R85). -/
def fetchRows (c : Nat) : Act :=
  .get fun s =>
    let n := (s.core c).pc.toNat / 512
    let bring := fun (r : Nat) (m : CoreS) => if m.fbuf.any (fun e => decide (e.1 = r)) || decide (8192 ≤ r) then m else fbufPush m r (s.spadRow c r)
    updCore c fun m =>
      let m1 := { bring n m with prog := s.coreTick c }
      if m.lastRow = some n then m1 else { bring (n + 1) m1 with lastRow := some n }

/-- A synchronous exception; ROW_ALIGN and its record go with code 3 (R43, R78). -/
def syncExc (c code detail word : Nat) : Act :=
  many [
    whenA (decide (code = 3)) (.seq (excInfo c 0 0 0 0) (setR R.CORE_EXC_STATUS_ROW_ALIGN 1 c)),
    takeExc c code detail word ]

/-- One instruction issues on its core (R41, R87, R93, R94, R117): a PC outside the scratchpad takes a fetch exception;
decoding checks are made whatever the guard; a false guard costs only the cycle. -/
def issue (h : Hd) (word : Nat) (legal : Bool) (body : State → IRes) : Act :=
  .get fun s =>
    let c := h.core.toNat
    let m := s.core c
    if !s.canIssue c then .nop
    else if m.pc < 0 || 0x3FFFF8 < m.pc || m.pc % 8 ≠ 0 then freshV fun w => takeExc c 1 0 w
    else if !legal then .seq (fetchRows c) (syncExc c 2 0 word)
    else if (m.pv h.pred.toNat != h.pneg) = false then .seq (fetchRows c) (updCore c CoreS.step8)
    else match body s with
      | .ok a => many [fetchRows c, a, updCore c CoreS.step8]
      | .jump p a => many [fetchRows c, a, updCore c fun m => { m with pc := p }]
      | .hold a => .seq (fetchRows c) a
      | .stall => .nop
      | .exn e d => .seq (fetchRows c) (syncExc c e d word)

end Sys2Proof.Machine
end

