-- ==== Sys2Proof/Machine/Scalar.lean ====
section
/-! DEFINITION. The scalar, predicate, address, control-flow, row-staging and system instructions (R97–R103, R86, R89,
R91). One meaning per instruction. -/

namespace Sys2Proof.Machine

/-- The outcome of a meaning: the state its act leaves. -/
def does (a : Act) (s : State) : Host.Outcome State Fault Refusal := .next (run a s)

/-! ### ALU (R97) -/

/-- The word of an ALU or CMP instruction in format R or I (R95, R96). -/
def aluWord (h : Hd) (opR fn rd ra : Nat) : Opd → Nat
  | .reg rb => wordOf h opR [(10, rd), (16, ra), (22, rb.toNat), (28, fn)]
  | .imm v => wordOf h (opR + 1) [(10, rd), (16, ra), (22, fn), (28, v.toNat)]

/-- Format R marks bits [63:34] 0; format I marks none (R96). -/
def aluLegal (h : Hd) : Opd → Bool
  | .reg _ => zeroOk h [(34, 30)]
  | .imm _ => true

/-- g[RD] ← g[RA] op operand. -/
def alu (h : Hd) (fn : Nat) (rd ra : BitVec 6) (b : Opd) (op : Word → Word → Word) : Act :=
  issue h (aluWord h 1 fn rd.toNat ra.toNat b) (aluLegal h b) fun s =>
    let m := s.core h.core.toNat
    .ok (updCore h.core.toNat fun k => k.setG rd.toNat (op (m.gv ra.toNat) (opdVal m b)))

def execAdd (h : Hd) (rd ra : BitVec 6) (b : Opd) := does (alu h 0 rd ra b fun x y => x + y)
def execSub (h : Hd) (rd ra : BitVec 6) (b : Opd) := does (alu h 1 rd ra b fun x y => x - y)
def execAnd (h : Hd) (rd ra : BitVec 6) (b : Opd) := does (alu h 2 rd ra b fun x y => x &&& y)
def execOr (h : Hd) (rd ra : BitVec 6) (b : Opd) := does (alu h 3 rd ra b fun x y => x ||| y)
def execXor (h : Hd) (rd ra : BitVec 6) (b : Opd) := does (alu h 4 rd ra b fun x y => x ^^^ y)
def execShl (h : Hd) (rd ra : BitVec 6) (b : Opd) := does (alu h 5 rd ra b fun x y => x <<< (y.toNat % 64))
def execShr (h : Hd) (rd ra : BitVec 6) (b : Opd) := does (alu h 6 rd ra b fun x y => x >>> (y.toNat % 64))
def execSra (h : Hd) (rd ra : BitVec 6) (b : Opd) := does (alu h 7 rd ra b fun x y => x.sshiftRight (y.toNat % 64))
def execMul (h : Hd) (rd ra : BitVec 6) (b : Opd) := does (alu h 8 rd ra b fun x y => x * y)
def execMulhu (h : Hd) (rd ra : BitVec 6) (b : Opd) := does (alu h 9 rd ra b fun x y => BitVec.ofNat 64 (x.toNat * y.toNat / 2 ^ 64))
def execMulhs (h : Hd) (rd ra : BitVec 6) (b : Opd) := does (alu h 10 rd ra b fun x y => BitVec.ofInt 64 (x.toInt * y.toInt / 2 ^ 64))
def execMin (h : Hd) (rd ra : BitVec 6) (b : Opd) := does (alu h 11 rd ra b fun x y => if x.slt y then x else y)
def execMax (h : Hd) (rd ra : BitVec 6) (b : Opd) := does (alu h 12 rd ra b fun x y => if x.slt y then y else x)
def execMinu (h : Hd) (rd ra : BitVec 6) (b : Opd) := does (alu h 13 rd ra b fun x y => if x.ult y then x else y)
def execMaxu (h : Hd) (rd ra : BitVec 6) (b : Opd) := does (alu h 14 rd ra b fun x y => if x.ult y then y else x)

/-! ### CMP (R97) -/

/-- p[PD] ← g[RA] rel operand; RD[5:3] must be 0 (R96). -/
def cmp (h : Hd) (fn : Nat) (pd ra : BitVec 6) (b : Opd) (rel : Word → Word → Bool) : Act :=
  issue h (aluWord h 3 fn pd.toNat ra.toNat b) (aluLegal h b && decide (pd.toNat < 8)) fun s =>
    let m := s.core h.core.toNat
    .ok (updCore h.core.toNat fun k => k.setP pd.toNat (rel (m.gv ra.toNat) (opdVal m b)))

def execCmpEq (h : Hd) (pd ra : BitVec 6) (b : Opd) := does (cmp h 0 pd ra b fun x y => x == y)
def execCmpNe (h : Hd) (pd ra : BitVec 6) (b : Opd) := does (cmp h 1 pd ra b fun x y => x != y)
def execCmpLt (h : Hd) (pd ra : BitVec 6) (b : Opd) := does (cmp h 2 pd ra b fun x y => x.slt y)
def execCmpGe (h : Hd) (pd ra : BitVec 6) (b : Opd) := does (cmp h 3 pd ra b fun x y => !x.slt y)
def execCmpLtu (h : Hd) (pd ra : BitVec 6) (b : Opd) := does (cmp h 4 pd ra b fun x y => x.ult y)
def execCmpGeu (h : Hd) (pd ra : BitVec 6) (b : Opd) := does (cmp h 5 pd ra b fun x y => !x.ult y)

/-! ### PLOG (R98) -/

def plog (h : Hd) (fn : Nat) (pd pa : BitVec 3) (na : Bool) (pb : BitVec 3) (nb : Bool) (op : Bool → Bool → Bool) : Act :=
  issue h (wordOf h 5 [(10, pd.toNat), (16, pa.toNat), (19, b2n na), (20, pb.toNat), (23, b2n nb), (24, fn)])
    (zeroOk h [(13, 3), (28, 36)]) fun s =>
    let m := s.core h.core.toNat
    .ok (updCore h.core.toNat fun k => k.setP pd.toNat (op (m.pv pa.toNat != na) (m.pv pb.toNat != nb)))

def execPlogAnd (h : Hd) (pd pa : BitVec 3) (na : Bool) (pb : BitVec 3) (nb : Bool) := does (plog h 0 pd pa na pb nb (· && ·))
def execPlogOr (h : Hd) (pd pa : BitVec 3) (na : Bool) (pb : BitVec 3) (nb : Bool) := does (plog h 1 pd pa na pb nb (· || ·))
def execPlogXor (h : Hd) (pd pa : BitVec 3) (na : Bool) (pb : BitVec 3) (nb : Bool) := does (plog h 2 pd pa na pb nb (· != ·))

/-! ### MOVI and ADDR (R98) -/

def execMoviG (h : Hd) (rd : BitVec 6) (imm : BitVec 48) :=
  does (issue h (wordOf h 7 [(10, rd.toNat), (16, imm.toNat)]) true fun _ =>
    .ok (updCore h.core.toNat fun k => k.setG rd.toNat (imm.signExtend 64)))

def execMoviA (h : Hd) (ad : BitVec 4) (imm : BitVec 48) :=
  does (issue h (wordOf h 0x11 [(10, ad.toNat), (16, imm.toNat)]) (zeroOk h [(14, 2)]) fun _ =>
    .ok (updCore h.core.toNat fun k => k.setA ad.toNat imm))

/-- The word of an ADDR instruction; bits [15:14] and [21:20] are marked 0. -/
def addrOp (h : Hd) (fn ad aa gb imm : Nat) (legal : Bool) (f : CoreS → CoreS → CoreS) : Act :=
  issue h (wordOf h 6 [(10, ad), (16, aa), (22, gb), (28, fn), (30, imm)]) (zeroOk h [(14, 2), (20, 2)] && legal) fun s =>
    let m := s.core h.core.toNat
    .ok (updCore h.core.toNat fun k => f m k)

def execAddrAddG (h : Hd) (ad aa : BitVec 4) (gb : BitVec 6) :=
  does (addrOp h 0 ad.toNat aa.toNat gb.toNat 0 true fun m k => k.setA ad.toNat (m.av aa.toNat + (m.gv gb.toNat).setWidth 48))
def execAddrAddImm (h : Hd) (ad aa : BitVec 4) (imm : BitVec 34) :=
  does (addrOp h 1 ad.toNat aa.toNat 0 imm.toNat true fun m k => k.setA ad.toNat (m.av aa.toNat + imm.signExtend 48))
def execAddrSet (h : Hd) (ad : BitVec 4) (gb : BitVec 6) :=
  does (addrOp h 2 ad.toNat 0 gb.toNat 0 true fun m k => k.setA ad.toNat ((m.gv gb.toNat).setWidth 48))
def execAddrGet (h : Hd) (ad aa : BitVec 4) (gb : BitVec 6) :=
  does (addrOp h 3 ad.toNat aa.toNat gb.toNat 0 (decide (ad = 0)) fun m k => k.setG gb.toNat ((m.av aa.toNat).setWidth 64))

/-! ### Control flow (R100) -/

def execNop (h : Hd) := does (issue h (wordOf h 0 []) (zeroOk h [(10, 54)]) fun _ => .ok .nop)

def execBr (h : Hd) (rl : BitVec 6) (off : BitVec 32) :=
  does (issue h (wordOf h 8 [(10, rl.toNat), (32, off.toNat)]) (zeroOk h [(16, 16)]) fun s =>
    let m := s.core h.core.toNat
    .jump (m.pc + 8 * off.toInt) (updCore h.core.toNat fun k => k.setG rl.toNat (BitVec.ofInt 64 (m.pc + 8))))

/-- The link is written first (R100): with RA = RD the jump goes to the next instruction. -/
def execBrr (h : Hd) (rd ra : BitVec 6) :=
  does (issue h (wordOf h 0xA [(10, rd.toNat), (16, ra.toNat)]) (zeroOk h [(22, 42)]) fun s =>
    let m := s.core h.core.toNat
    let v := BitVec.ofInt 64 (m.pc + 8)
    .jump (bits ((m.setG rd.toNat v).gv ra.toNat).toNat 0 22) (updCore h.core.toNat fun k => k.setG rd.toNat v))

def execLoop (h : Hd) (rl : BitVec 6) (off : BitVec 32) :=
  does (issue h (wordOf h 9 [(10, rl.toNat), (32, off.toNat)]) (zeroOk h [(16, 16)] && decide (rl ≠ 0)) fun s =>
    let m := s.core h.core.toNat
    let v := m.gv rl.toNat - 1
    .jump (if v = 0 then m.pc + 8 else m.pc + 8 * off.toInt) (updCore h.core.toNat fun k => k.setG rl.toNat v))

/-! ### Row staging (R101) -/

/-- A row access joins owner 7's list. -/
def pushRow (c : Nat) (kind : CtlKind) (mode row : Nat) (v : Row) : Act :=
  updCore c fun m => { m with cq := m.cq ++ [⟨kind, ⟨0, mode, row, 0⟩, v⟩] }

/-- RS is not yet loaded by an earlier LDRS (R114). -/
def CoreS.rsBusy (m : CoreS) : Bool := m.cq.any (fun r => decide (r.kind = .ldrs))

def execLdrs (h : Hd) (aa : BitVec 4) (mode : BitVec 2) :=
  does (issue h (wordOf h 0xB [(10, aa.toNat), (14, mode.toNat), (28, 0)]) (zeroOk h [(16, 12), (32, 32)] && decide (mode ≠ 3)) fun s =>
    let a := ((s.core h.core.toNat).av aa.toNat).toNat
    match spanExc a 1 with
    | some e => .exn e 0
    | none => .ok (pushRow h.core.toNat .ldrs mode.toNat (a / 512) 0))

def execStrs (h : Hd) (aa : BitVec 4) (mode : BitVec 2) :=
  does (issue h (wordOf h 0xB [(10, aa.toNat), (14, mode.toNat), (28, 1)]) (zeroOk h [(16, 12), (32, 32)] && decide (mode ≠ 3)) fun s =>
    let m := s.core h.core.toNat
    let a := (m.av aa.toNat).toNat
    match spanExc a 1 with
    | some e => .exn e 0
    | none => if m.rsBusy then .stall else .ok (pushRow h.core.toNat .strs mode.toNat (a / 512) m.rs))

def execRsget (h : Hd) (rg word : BitVec 6) :=
  does (issue h (wordOf h 0xB [(16, rg.toNat), (22, word.toNat), (28, 2)]) (zeroOk h [(10, 6), (32, 32)]) fun s =>
    let m := s.core h.core.toNat
    if m.rsBusy then .stall
    else .ok (updCore h.core.toNat fun k => k.setG rg.toNat (m.rs.extractLsb' (64 * word.toNat) 64)))

def execRsput (h : Hd) (rg word : BitVec 6) :=
  does (issue h (wordOf h 0xB [(16, rg.toNat), (22, word.toNat), (28, 3)]) (zeroOk h [(10, 6), (32, 32)]) fun s =>
    let m := s.core h.core.toNat
    if m.rsBusy then .stall
    else .ok (updCore h.core.toNat fun k => { k with rs := rowPut m.rs (64 * word.toNat) 64 (m.gv rg.toNat).toNat }))

/-! ### System instructions (R102) -/

/-- The word of a SYS instruction. -/
def sysWord (h : Hd) (fn rd ra mask : Nat) : Nat := wordOf h 0xC [(10, rd), (16, ra), (22, fn), (28, mask)]

/-- Format S marks bits [63:36] 0. -/
def sysLegal (h : Hd) : Bool := zeroOk h [(36, 28)]

def execRdcad (h : Hd) (rd : BitVec 6) :=
  does (issue h (sysWord h 0 rd.toNat 0 0) (sysLegal h) fun s =>
    .ok (updCore h.core.toNat fun k => k.setG rd.toNat (BitVec.ofNat 64 (s.coreTick h.core.toNat))))

def execRdcyc (h : Hd) (rd : BitVec 6) :=
  does (issue h (sysWord h 1 rd.toNat 0 0) (sysLegal h) fun s =>
    .ok (updCore h.core.toNat fun k => k.setG rd.toNat (BitVec.ofNat 64 (s.cyc h.core.toNat))))

/-- FENCE goes on at once where nothing it selects is outstanding, and waits otherwise (R103). -/
def execFence (h : Hd) (mask : BitVec 8) :=
  does (issue h (sysWord h 2 0 0 mask.toNat) (sysLegal h && decide (mask.toNat < 64)) fun s =>
    .ok (whenA (!s.fenceDone h.core.toNat mask.toNat) (updCore h.core.toNat fun k => { k with wait := .fence mask.toNat })))

def execIflush (h : Hd) :=
  does (issue h (sysWord h 3 0 0 0) (sysLegal h) fun _ => .ok (updCore h.core.toNat fun k => { k with fbuf := [], lastRow := none }))

/-- CEND: nothing more issues until CLAUSE_END finds everything complete (R89). -/
def execCend (h : Hd) :=
  does (issue h (sysWord h 4 0 0 0) (sysLegal h) fun _ => .hold (updCore h.core.toNat fun k => { k with wait := .cend (sysWord h 4 0 0 0) }))

def execDltight (h : Hd) (ra : BitVec 6) :=
  does (issue h (sysWord h 5 0 ra.toNat 0) (sysLegal h) fun s =>
    let m := s.core h.core.toNat
    let v := s.coreTick h.core.toNat + (m.gv ra.toNat).toNat
    .ok (updCore h.core.toNat fun k => { k with dl := some (match m.dl with | some d => Nat.min d v | none => v) }))

def execRddl (h : Hd) (rd : BitVec 6) :=
  does (issue h (sysWord h 6 rd.toNat 0 0) (sysLegal h) fun s =>
    let m := s.core h.core.toNat
    .ok (updCore h.core.toNat fun k => k.setG rd.toNat (match m.dl with
      | none => BitVec.ofNat 64 (2 ^ 64 - 1)
      | some d => BitVec.ofNat 64 (d - s.coreTick h.core.toNat))))

def execTrap (h : Hd) (ra : BitVec 6) :=
  does (issue h (sysWord h 7 0 ra.toNat 0) (sysLegal h) fun s =>
    .exn 8 (((s.core h.core.toNat).gv ra.toNat).toNat % 2 ^ 16))

end Sys2Proof.Machine
end

