-- ==== Sys2Proof/Machine/CoreSem.lean ====
section
/-! DEFINITION. Semaphore and queue instructions, their requests and responses, the DMA instruction, and the events that
end a control wait or a clause from outside its program (R105–R112, R260, R283, R317). -/

namespace Sys2Proof.Machine

/-! ### Words and checks -/

/-- A SEM or QUE word in format Q; bits [15], [35] and [63:40] are marked 0. -/
def wordQ (h : Hd) (opc fn sn ra rb aa pd : Nat) : Nat :=
  wordOf h opc [(10, sn), (16, ra), (22, rb), (28, aa), (32, pd), (36, fn)]
def legalQ (h : Hd) : Bool := zeroOk h [(15, 1), (35, 1), (40, 24)]

/-- The handle in s[n], where it is valid. -/
def CoreS.sv (m : CoreS) (n : Nat) : Option Nat := mget none m.sh n

/-- The partition of the clause that a core runs. -/
def State.clausePart (s : State) (c : Nat) : Nat := match s.clause (s.core c).clause with
  | some k => k.part
  | none => 0

/-- A handle is well formed and allocated in the clause's partition (R105). -/
def State.handleOk (s : State) (c v : Nat) : Bool :=
  decide (v < 2 ^ 14) && decide (s.smf R.QUE_SEM_W0_VALID v = 1) && decide (s.smf R.QUE_SEM_W0_PART v = s.clausePart c)

/-- The misuse of R107 that SACQ, STRY, SREL, SWAIT or SPOLL makes of s[n], in the order of the details. A handle whose semaphore
is no longer allocated in the clause's partition is invalid (R105). -/
def State.semMisuse (s : State) (c fn : Nat) (h : Option Nat) (bound : Nat) : Option Nat :=
  match h with
  | none => some 1
  | some v =>
    let lock := fn = 1 || fn = 2 || fn = 3
    let m := s.core c
    if !s.handleOk c v || decide ((s.smf R.QUE_SEM_W0_KIND v = 0) ≠ (lock = true)) then some 1
    else if (fn = 1 || fn = 2) && 8 ≤ m.held.length && !m.held.contains v then some 3
    else if (fn = 1 || fn = 2) && m.held.contains v then some 4
    else if fn = 3 && !m.held.contains v then some 5
    else if (fn = 1 || fn = 2) && (bound = 0 || 2 ^ 32 ≤ bound) then some 7
    else none

/-- The misuse a SEM function makes. SSIG is judged by the kind that SHDL found: where the semaphore has been freed or reallocated
since, its signal is lost at the home block (R278). -/
def State.semFault (s : State) (c fn sn bound : Nat) : Option Nat :=
  let m := s.core c
  if fn = 6 then (if (m.sv sn).isSome && mget false m.shEvent sn then none else some 1) else s.semMisuse c fn (m.sv sn) bound

/-- A request leaves the core for its object's home block. -/
def sendReq (r : Req) : Act := .put (.die fun d => { d with reqs := d.reqs ++ [r] })

/-- CORE_SEMWAIT holds a control wait (R109, R123). -/
def noteWait (c kind obj : Nat) : Act :=
  .get fun s => many [
    setR R.CORE_SEMWAIT_W0_VALID 1 c, setR R.CORE_SEMWAIT_W0_KIND kind c, setR R.CORE_SEMWAIT_W0_OBJECT obj c,
    setR R.CORE_SEMWAIT_W1_START (s.coreTick c) c ]

/-- The shared shape of SACQ, STRY, SREL, SWAIT, SPOLL and SSIG: the misuse raises its exception, a waiting function
keeps the PC until the response, a posted one goes on. -/
def semInsn (h : Hd) (fn : Nat) (sn : BitVec 5) (rb : BitVec 6) (pd : BitVec 3) : Act :=
  let c := h.core.toNat
  issue h (wordQ h 0xD fn sn.toNat 0 rb.toNat 0 pd.toNat) (legalQ h) fun s =>
    let m := s.core c
    let b := (m.gv rb.toNat).toNat
    match s.semFault c fn sn.toNat b with
    | some d => .exn 5 d
    | none =>
      let v := (m.sv sn.toNat).getD 0
      let t := s.coreTick c
      if fn = 3 then .ok (.seq (updCore c fun k => { k with held := k.held.erase v }) (sendReq ⟨c, false, 3, v, m.clause, t, 0, 0⟩))
      else if fn = 6 then .ok (sendReq ⟨c, false, 6, v, s.clausePart c, t, 0, 0⟩)
      else .hold (many [
        sendReq ⟨c, false, fn, v, b, t, 0, 0⟩,
        updCore c (fun k => { k with wait := .sem fn v b pd.toNat t }),
        whenA (fn = 1 || fn = 4) (noteWait c (if fn = 1 then 0 else 1) v) ])

/-! ### SEM instructions -/

def execShdl (h : Hd) (sn : BitVec 5) (ra : BitVec 6) :=
  does (issue h (wordQ h 0xD 0 sn.toNat ra.toNat 0 0 0) (legalQ h) fun s =>
    let v := ((s.core h.core.toNat).gv ra.toNat).toNat
    if s.handleOk h.core.toNat v then .ok (updCore h.core.toNat fun k => { k with sh := mset none k.sh sn.toNat (some v), shEvent := mset false k.shEvent sn.toNat (decide (s.smf R.QUE_SEM_W0_KIND v = 1)) })
    else .exn 5 2)

def execSacq (h : Hd) (sn : BitVec 5) (rb : BitVec 6) := does (semInsn h 1 sn rb 0)
def execStry (h : Hd) (sn : BitVec 5) (rb : BitVec 6) (pd : BitVec 3) := does (semInsn h 2 sn rb pd)
def execSrel (h : Hd) (sn : BitVec 5) := does (semInsn h 3 sn 0 0)
def execSwait (h : Hd) (sn : BitVec 5) := does (semInsn h 4 sn 0 0)
def execSpoll (h : Hd) (sn : BitVec 5) (pd : BitVec 3) := does (semInsn h 5 sn 0 pd)
def execSsig (h : Hd) (sn : BitVec 5) := does (semInsn h 6 sn 0 0)

/-! ### QUE instructions (R110) -/

/-- The queue exists and belongs to the clause's partition. -/
def State.queueOk (s : State) (c q : Nat) : Bool := decide (q < 32768) && decide (s.qf R.QUE_QCFG_PART q = s.clausePart c)

/-- QSUB (fn 0) and QSUBW (fn 1): the descriptor row is read through owner 7 in mode RAW, and the request is out. -/
def submitInsn (h : Hd) (fn : Nat) (ra : BitVec 6) (aa : BitVec 4) (pd : BitVec 3) : Act :=
  let c := h.core.toNat
  let w := wordQ h 0xE fn 0 ra.toNat 0 aa.toNat pd.toNat
  issue h w (legalQ h && decide (fn = 0 ∨ pd = 0)) fun s =>
    let m := s.core c
    let a := (m.av aa.toNat).toNat
    let q := (m.gv ra.toNat).toNat
    match spanExc a 1 with
    | some e => .exn e 0
    | none =>
      if !s.queueOk c q then .exn 6 1
      else .hold (many [
        pushRow c .desc 0 (a / 512) 0,
        sendReq ⟨c, true, fn, q, 0, s.coreTick c, 0, 0⟩,
        updCore c (fun k => { k with wait := .que fn q w pd.toNat 0 (s.coreTick c) }),
        whenA (decide (fn = 1)) (noteWait c 2 q) ])

def execQsub (h : Hd) (ra : BitVec 6) (aa : BitVec 4) (pd : BitVec 3) := does (submitInsn h 0 ra aa pd)
def execQsubw (h : Hd) (ra : BitVec 6) (aa : BitVec 4) (pd : BitVec 3) := does (submitInsn h 1 ra aa pd)

def execQdone (h : Hd) (ra rb : BitVec 6) :=
  let w := wordQ h 0xE 2 0 ra.toNat rb.toNat 0 0
  does (issue h w (legalQ h) fun s =>
    let c := h.core.toNat
    let q := ((s.core c).gv ra.toNat).toNat
    if !s.queueOk c q then .exn 6 1
    else .hold (many [
      updCore c (fun k => { k with wait := .que 2 q w 0 rb.toNat (s.coreTick c) }),
      respond ⟨c, true, 2, q, true, 0, 0⟩ ]))

/-! ### DMA (R111, R112) -/

/-- A transfer joins the port entries of the cores whose scratchpads it touches; the port serves in that order (R276). -/
def enterPort (c x : Nat) : Act := updCore c fun k => { k with port := k.port ++ [x] }

def execDma (h : Hd) (asp : BitVec 4) (mode : BitVec 2) (am : BitVec 4) (rl : BitVec 6) (sn : BitVec 5) (sen : Bool)
    (dir : BitVec 2) (ag : Bool) :=
  let c := h.core.toNat
  let w := wordOf h 0xF [(10, asp.toNat), (14, mode.toNat), (16, am.toNat), (20, rl.toNat), (26, sn.toNat), (31, b2n sen), (32, dir.toNat), (34, b2n ag)]
  does (issue h w (zeroOk h [(35, 29)] && (if dir = 0 then decide (mode = 0) || decide (mode = 2) else decide (dir = 1) && decide (mode ≠ 3))) fun s =>
    let m := s.core c
    let a := (m.av asp.toNat).toNat
    let d := (m.av am.toNat).toNat
    let len := (m.gv rl.toNat).toNat
    let lenOk := decide (1 ≤ len) && decide (len ≤ 4194304)
    let spans := [(a, if lenOk then cdiv len 512 else 1)] ++ (if ag then [(d, 1)] else [])
    if 16 ≤ m.port.length then .stall
    else match spansExc spans with
    | some e => .exn e 0
    | none =>
      if sen && (m.sv sn.toNat).isNone then .exn 5 1
      else if !lenOk then .exn 7 1
      else if !ag && d % 64 ≠ 0 then .exn 7 2
      else
        let pad : Side := .spad c (a / 512)
        let dev : Side := .dev (if ag then 0 else d)
        let x := s.die.nextX
        .ok (many [
          setXfer x (some {
            org := .insn c m.clause (if sen then m.sv sn.toNat else none) m.opSeq,
            ctx := (match s.clause m.clause with | some k => k.ctx | none => 0), part := s.clausePart c, die := dieOf c,
            src := if dir = 0 then dev else pad, dst := if dir = 0 then pad else dev, len := len,
            smode := if dir = 0 then 0 else mode.toNat, dmode := if dir = 0 then mode.toNat else 0,
            ag := if ag then some (d / 512) else none, place := 0, k := 0, segs := [], done := 0, fin := none, susp := none,
            order := m.opSeq, aside := none }),
          .put (.die fun y => { y with nextX := y.nextX + 1 }),
          enterPort c x,
          updCore c fun k => { k with opSeq := k.opSeq + 1 } ]))

/-! ### At the home block (R283, R260) -/

/-- The first request of a die's semaphores. -/
def State.firstSem (s : State) (d : Nat) : Option Req := s.die.reqs.find? (fun r => !r.isQue && decide (r.obj / 4096 = d))

/-- A request leaves the way to its home block. -/
def dropReq (r : Req) : Act := .put (.die fun d => { d with reqs := d.reqs.erase r })

/-- The semaphore is there and of the kind a function needs (a handle can be freed after SHDL checked it). -/
def State.semLive (s : State) (r : Req) : Bool :=
  decide (s.smf R.QUE_SEM_W0_VALID r.obj = 1) && decide (s.smf R.QUE_SEM_W0_PART r.obj = s.clausePart r.core) &&
  decide (s.smf R.QUE_SEM_W0_KIND r.obj = if r.fn = 1 ∨ r.fn = 2 then 0 else 1)

/-- A probe asks for, or gives back, a lock that the image of its clause holds (R474). -/
def State.probeLock (s : State) (r : Req) : Bool :=
  let id := if r.fn = 3 then r.bound else (s.core r.core).clause
  (decide (r.fn = 1) || decide (r.fn = 2) || decide (r.fn = 3)) && (s.probeCore id).isSome &&
  decide (s.smf R.QUE_SEM_W0_HELD r.obj = 1) && decide (s.smf R.QUE_SEM_W0_SUSPENDED r.obj = 1) && decide ((s.sem r.obj).clause = id)

def applySem (r : Req) : Act :=
  .get fun s =>
    let ans := fun ok => respond ⟨r.core, false, r.fn, r.obj, ok, 0, 0⟩
    if s.probeLock r then (if r.fn = 3 then .nop else ans true)
    else match r.fn with
    | 1 => many [
        updSem r.obj (fun m => { m with waiters := m.waiters ++ [⟨r.core, 1, r.start, r.bound⟩] }),
        whenA (s.semLive r) (grantOne r.obj), settleClasses ]
    | 2 =>
      if s.semLive r && decide (s.smf R.QUE_SEM_W0_HELD r.obj = 0) then .seq (giveLock r.obj r.core r.bound) (ans true) else ans false
    | 3 => whenA (decide (s.smf R.QUE_SEM_W0_HELD r.obj = 1) && decide ((s.sem r.obj).clause = r.bound)) (releaseLock r.obj)
    | 4 => many [
        updSem r.obj (fun m => { m with waiters := m.waiters ++ [⟨r.core, 4, r.start, 0⟩] }),
        whenA (s.semLive r) (grantOne r.obj) ]
    | 5 =>
      if s.semLive r && decide (0 < s.smf R.QUE_SEM_W0_COUNT r.obj) then
        .seq (setS R.QUE_SEM_W0_COUNT r.obj (s.smf R.QUE_SEM_W0_COUNT r.obj - 1)) (ans true)
      else ans false
    | _ => signal r.obj 1 r.bound 2 0xFFFF 0

/-- SEM_REQUEST: the oldest request to a semaphore of the die takes effect. -/
def execSemRequest (die : BitVec 2) :=
  does (.get fun s => withA (s.firstSem die.toNat) fun r => many [dropReq r, applySem r, ctlRecheck r.core])

/-- Why a queue turns a request away (R261), detail 2 or 3. -/
def State.queRefusal (s : State) (q : Nat) : Option Nat :=
  if !s.bit R.QUE_CTL_ENABLE (q / 8192) || s.qf R.QUE_QCFG_ENABLE q = 0 || s.qf R.QUE_QSTATE_ERROR q = 1 then some 2
  else if s.qf R.QUE_QCFG_PRODUCER q = 0 then some 3
  else none

def State.queFull (s : State) (q : Nat) : Bool :=
  decide ((s.qf R.QUE_TAIL_TAIL q + 2 ^ 32 - s.qf R.QUE_HEAD_HEAD q) % 2 ^ 32 = s.depth q)

/-- The oldest request to a queue of the die whose row is there and that does not wait for space. -/
def State.firstQue (s : State) (d : Nat) : Option Req :=
  s.die.reqs.find? (fun r => r.isQue && decide (r.obj / 8192 = d) && decide (2 ^ 1024 ≤ r.data) &&
    ((s.queRefusal r.obj).isSome || !s.queFull r.obj || decide (r.fn = 0)))

/-- The descriptor enters: the ring write, TAIL, the response (R260). -/
def submitQue (r : Req) : Act :=
  .get fun s =>
    let q := r.obj
    let die := q / 8192
    let ans := fun (ok : Bool) (d : Nat) => respond ⟨r.core, true, r.fn, q, ok, d, 0⟩
    match s.queRefusal q with
    | some d => ans false d
    | none =>
      if s.queFull q then ans false 0
      else
        let t := s.qf R.QUE_TAIL_TAIL q
        let ctx := s.qf R.QUE_QCFG_CTX q
        let da := s.qf R.QUE_RING_BASE_ADDR q * 4096 + 128 * (t % s.depth q)
        let write := daWrite die ctx da 128 (r.data % 2 ^ 1024) 8 false true
        match s.daWriteFault die ctx da 128 with
        | some cls => many [write, queueErr q 4 cls, logEv die (srcQue die) 4 cls (q % 2 ^ 16 + t * 2 ^ 16), ans false 2]
        | none => many [
            write, setQ R.QUE_TAIL_TAIL q (t + 1),
            updQueue q (fun k => { k with stamps := k.stamps ++ [(t, 1, s.count die)] }),
            ans true 0 ]

/-- SUBMIT_REQUEST. -/
def execSubmitRequest (die : BitVec 2) :=
  does (.get fun s => withA (s.firstQue die.toNat) fun r => many [dropReq r, submitQue r, ctlRecheck r.core])

/-! ### Responses (R109, R114) -/

/-- The waiting instruction ends: the PC moves on and the record of the wait is cleared. -/
def endWait (c : Nat) (f : CoreS → CoreS) : Act :=
  .seq (setR R.CORE_SEMWAIT_W0_VALID 0 c) (.seq (updCore c fun m => { f m with wait := .none, pc := m.pc + 8 }) (progress c))

def deliver (r : Resp) : Act :=
  .get fun s =>
    let c := r.core
    match (s.core c).wait with
    | .sem fn h _ pd _ =>
      if r.isQue || r.fn ≠ fn || r.obj ≠ h then returnGrant r
      else endWait c fun m =>
        let m := if fn = 2 || fn = 5 then m.setP pd r.ok else m
        if r.ok && (fn = 1 || fn = 2) then { m with held := m.held ++ [h] } else m
    | .que fn q w pd rb _ =>
      if !r.isQue || r.fn ≠ fn || r.obj ≠ q then returnGrant r
      else if r.detail ≠ 0 then takeExc c 6 r.detail w
      else if fn = 2 then endWait c fun m => m.setG rb (BitVec.ofNat 64 (s.qf R.QUE_DONE_COUNT q))
      else endWait c fun m => if fn = 0 then m.setP pd r.ok else m
    | _ => returnGrant r

/-- CONTROL_RESPONSE: the oldest response to a core arrives. -/
def execControlResponse (core : BitVec 6) :=
  does (.get fun s => withA (s.die.resps.find? (fun r => decide (r.core = core.toNat))) fun r =>
    .seq (.put (.die fun d => { d with resps := d.resps.erase r })) (deliver r))

/-- The request of a core's control wait is withdrawn. -/
def withdraw (c : Nat) : Act :=
  many [
    withdrawWaits c,
    updCore c (fun m => { m with cq := m.cq.filter (fun r => decide (r.kind ≠ .desc)) }),
    setR R.CORE_SEMWAIT_W0_VALID 0 c ]

/-- CONTROL_WAIT_TIMEOUT (R109): only SACQ, SWAIT and QSUBW are control waits. -/
def execControlWaitTimeout (core : BitVec 6) (dt : Nat) :=
  does (after dt (.get fun s =>
    let c := core.toNat
    let late := fun start => decide (s.reg R.CORE_SEMWAIT_LIMIT_TICKS c ≤ s.coreTick c - start)
    let hit := match (s.core c).wait with
      | .sem fn _ _ _ start => (decide (fn = 1) || decide (fn = 4)) && late start
      | .que fn _ _ _ _ start => decide (fn = 1) && late start
      | _ => false
    whenA hit (many [withdraw c, updCore c (fun m => { m with wait := .none }), takeExc c 0x14 0 0])))

/-! ### Hold bounds and deadlines (R108, R310, R315–R318) -/

/-- The blocked access with the lowest wheel position. -/
def State.firstBlk (s : State) (c : Nat) : Option (Nat × Blk) :=
  (List.range 8).findSome? (fun k => (mget OwnS.idle (s.core c).own k).blk.map (fun b => (k, b)))

/-- The holder of a lock whose bound is reached is faulted (R108, R310): while it is saved or restored, or under recovery, the fault waits. -/
def holdFault (h : Nat) : Act :=
  .get fun s =>
    let m := s.sem h
    if s.smf R.QUE_SEM_W0_HELD h = 1 && decide (m.expiry ≤ s.count (h / 4096)) && !s.candidate m.clause then
      withA (s.clause m.clause) fun k =>
        match k.st with
        | .running => takeExc k.core 0x11 0 0
        | .suspended => faultClause m.clause stDeadline 0x11 0
        | _ => .nop
    else .nop

def execHoldBoundExpiry (handle : BitVec 14) (dt : Nat) := does (after dt (holdFault handle.toNat))

/-- The deadline DL holds: of the running core, or in the image of a suspended clause. -/
def State.dlOf (s : State) (k : ClauseS) : Option Nat :=
  match k.st with
  | .running => (s.core k.core).dl
  | .suspended => match mget none s.sch.images (k.core * 4 + k.slot) with
    | some im => im.core.dl
    | none => none
  | _ => none

/-- A clause's deadline has passed at the cadence count of its core. -/
def State.past (s : State) (k : ClauseS) (d : Option Nat) : Bool :=
  match d with
  | some v => decide (v ≤ s.coreTick k.core)
  | none => false

/-- What a passed deadline does (R316, R317); a clause whose code loads, or has been loaded, has started (R299). -/
def deadlineFault (id : Nat) : Act :=
  .get fun s => withA (s.clause id) fun k =>
    let dl := s.past k (s.dlOf k)
    let any := dl || s.past k k.deadline
    if !any || s.candidate id then .nop
    else match k.st with
    | .running => .seq (recordMiss id) (whenA dl (.seq
        (withA (s.firstBlk k.core) fun b => .seq (excInfo k.core b.1 (b.2.ref.row / 8) b.2.tag b.2.ref.mode) (setR R.CORE_EXC_STATUS_DEADLINE_BLOCKED 1 k.core))
        (takeExc k.core 0x10 0 0)))
    | .suspended => .seq (recordMiss id) (whenA (dl || decide (k.policy ≠ 0)) (faultClause id stDeadline 0x10 0))
    | .saving => .nop
    | .restoring => .nop
    | .loading => .seq (recordMiss id) (whenA (decide (k.policy ≠ 0)) (faultClause id stDeadline 0x10 0))
    | _ => .seq (recordMiss id) (
        if k.policy = 0 then .nop
        else if k.st = .chosen ∧ k.code ≠ 0 then faultClause id stDeadline 0x10 0
        else if k.policy = 2 && decide (k.runs < k.replays) then many [
          bump R.SEQ_REPLAY_COUNT 1 0 k.part,
          forA k.streams (fun n => setR R.SEQ_STREAM_TABLE_RESIDENT 0 0 n),
          updClause id fun x => { x with runs := x.runs + 1, miss := true, deadline := if x.allow = 0 then none else some (s.coreTick k.core + x.allow) } ]
        else endClause id stDeadline 0x10 0)

/-- DEADLINE_EXPIRY. -/
def execDeadlineExpiry (clause : Nat) (dt : Nat) := does (after dt (deadlineFault clause))

end Sys2Proof.Machine
end

