-- ==== Sys2Proof/Machine/EngineInsn.lean ====
section
/-! DEFINITION. The instructions of the matrix and the vector engine (R113, R129, R143, R168, R172, R190, R214): their
checks at issue and their dispatch; and VSEED and VFLAGS, which the control engine executes (R142, R143). -/

namespace Sys2Proof.Machine

/-- The word of an engine instruction in format E. -/
def wordE (h : Hd) (opc : Nat) (e : EF) : Nat :=
  wordOf h opc [(10, e.aa.toNat), (14, e.ma.toNat), (16, e.ab.toNat), (20, e.mb.toNat), (22, e.ad.toNat), (26, e.md.toNat),
    (28, e.tile.toNat), (32, e.rc.toNat), (38, e.opx.toNat)]

/-- The count of an engine instruction: g[RC], or the opcode's default where RC is 0. -/
def engCount (m : CoreS) (opc : Nat) (rc : BitVec 6) : Nat :=
  if opc = 0x3A ∨ opc = 0x3B then (m.gv rc.toNat).toNat
  else if rc ≠ 0 then (m.gv rc.toNat).toNat
  else if isMMA opc ∨ opc = 0x34 then 1
  else 64

/-- The instruction as it enters a dispatch queue: row numbers, count, and the rounding seed and index of R142. -/
def engOp (s : State) (c opc : Nat) (e : EF) : EngOp :=
  let m := s.core c
  { opc := opc, opx := e.opx.toNat,
    ra := (m.av e.aa.toNat).toNat / 512, ma := e.ma.toNat, rb := (m.av e.ab.toNat).toNat / 512, mb := e.mb.toNat,
    rd := (m.av e.ad.toNat).toNat / 512, md := e.md.toNat, tile := e.tile.toNat, cnt := engCount m opc e.rc,
    srSeed := s.reg R.CORE_SR_SEED_SEED c, srIndex := s.reg R.CORE_SR_CTR_COUNT c, seq := m.opSeq, started := false,
    q0 := [], q1 := [], q2 := [], q3 := [], q4 := [], got := [], outs := [], step := 0, aux := [], statBegun := false }

/-- The address of operand 0 (A), 1 (B) or 2 (D). -/
def opndAddr (m : CoreS) (e : EF) (k : Nat) : Nat :=
  (m.av (if k = 0 then e.aa else if k = 1 then e.ab else e.ad).toNat).toNat

/-- The exception an engine instruction takes at issue (R99, R129, R145): a misaligned operand first, then a count out of
its range, then a span that leaves the scratchpad. -/
def engExc (m : CoreS) (e : EF) (countOk : Bool) (spans : List (Nat × Nat)) : Option Nat :=
  let l := spans.map (fun x => (opndAddr m e x.1, x.2))
  if spansExc l = some 3 then some 3 else if !countOk then some 4 else spansExc l

/-- SRCTR advances by an instruction's output elements where it selects stochastic rounding (R142). -/
def advanceSr (c : Nat) (o : EngOp) (rnd : Bool) : Act :=
  .get fun s => whenA rnd (setR R.CORE_SR_CTR_COUNT (s.reg R.CORE_SR_CTR_COUNT c + outElems o) c)

/-- A matrix instruction issues: it enters the matrix queue (R40, R41). A full queue stalls it before anything is checked at issue. -/
def matrixInsn (h : Hd) (opc : Nat) (e : EF) : Act :=
  let c := h.core.toNat
  issue h (wordE h opc e)
    (matrixLegal opc e.aa.toNat e.ma.toNat e.ab.toNat e.mb.toNat e.ad.toNat e.md.toNat e.rc.toNat e.opx.toNat) fun s =>
    let m := s.core c
    let o := engOp s c opc e
    if 8 ≤ m.mq.length then .stall
    else if isMMA opc && o.cnt = 0 then .ok .nop
    else match engExc m e (!isMMA opc || decide (o.cnt ≤ 1024)) (matrixSpans o) with
    | some x => .exn x 0
    | none =>
      .ok (.seq (updCore c fun k => { k with mq := k.mq ++ [planMatrix o], opSeq := k.opSeq + 1 })
        (advanceSr c o (decide (opc = 0x22) && oxRND o.opx)))

/-- The operand fields with the FN of the mnemonic in OPX [14:12] (R144). -/
def withFn (e : EF) (fn : Nat) : EF := { e with opx := BitVec.ofNat 26 (setBits e.opx.toNat 12 3 fn) }

/-- A vector instruction issues: it enters the vector queue. VSMXB needs a clause that began with TUNE at 1 (R175). -/
def vectorInsn (h : Hd) (opc : Nat) (e : EF) : Act :=
  let c := h.core.toNat
  .get fun s0 =>
    issue h (wordE h opc e)
      (vectorLegal opc e.aa.toNat e.ma.toNat e.ab.toNat e.mb.toNat e.ad.toNat e.md.toNat e.tile.toNat e.rc.toNat e.opx.toNat &&
        (decide (opc ≠ 0x3B) || (s0.core c).tune)) fun s =>
      let m := s.core c
      let o := engOp s c opc e
      if 8 ≤ m.vq.length then .stall
      else match engExc m e (vectorCount o) (vectorSpans o) with
      | some x => .exn x 0
      | none =>
        .ok (.seq (updCore c fun k => { k with vq := k.vq ++ [planVector o], opSeq := k.opSeq + 1, vsmxb := k.vsmxb || decide (opc = 0x3B) })
          (advanceSr c o (oxRND o.opx)))

/-! ### Matrix -/

def execMma (h : Hd) (e : EF) := does (matrixInsn h 0x20 e)
def execMmas (h : Hd) (e : EF) := does (matrixInsn h 0x21 e)
def execMmar (h : Hd) (e : EF) := does (matrixInsn h 0x24 e)
def execSpill (h : Hd) (e : EF) := does (matrixInsn h 0x22 e)
def execFill (h : Hd) (e : EF) := does (matrixInsn h 0x23 e)

/-! ### Vector -/

def execVbinAdd (h : Hd) (e : EF) := does (vectorInsn h 0x30 (withFn e 0))
def execVbinSub (h : Hd) (e : EF) := does (vectorInsn h 0x30 (withFn e 1))
def execVbinMul (h : Hd) (e : EF) := does (vectorInsn h 0x30 (withFn e 2))
def execVbinMax (h : Hd) (e : EF) := does (vectorInsn h 0x30 (withFn e 3))
def execVbinMin (h : Hd) (e : EF) := does (vectorInsn h 0x30 (withFn e 4))
def execVfma (h : Hd) (e : EF) := does (vectorInsn h 0x31 (withFn e 0))
def execVunCvt (h : Hd) (e : EF) := does (vectorInsn h 0x32 (withFn e 0))
def execVunAbs (h : Hd) (e : EF) := does (vectorInsn h 0x32 (withFn e 1))
def execVunNeg (h : Hd) (e : EF) := does (vectorInsn h 0x32 (withFn e 2))
def execVunExp (h : Hd) (e : EF) := does (vectorInsn h 0x32 (withFn e 3))
def execVunExp2 (h : Hd) (e : EF) := does (vectorInsn h 0x32 (withFn e 4))
def execVunRcp (h : Hd) (e : EF) := does (vectorInsn h 0x32 (withFn e 5))
def execVunRsqrt (h : Hd) (e : EF) := does (vectorInsn h 0x32 (withFn e 6))
def execVredSum (h : Hd) (e : EF) := does (vectorInsn h 0x33 (withFn e 0))
def execVredMax (h : Hd) (e : EF) := does (vectorInsn h 0x33 (withFn e 1))
def execVredAbsmax (h : Hd) (e : EF) := does (vectorInsn h 0x33 (withFn e 2))
def execVshuf (h : Hd) (e : EF) := does (vectorInsn h 0x34 e)
def execVstat (h : Hd) (e : EF) := does (vectorInsn h 0x35 e)
def execQuant (h : Hd) (e : EF) := does (vectorInsn h 0x36 e)
def execVstrd (h : Hd) (e : EF) := does (vectorInsn h 0x39 (withFn e 0))
def execVstld (h : Hd) (e : EF) := does (vectorInsn h 0x39 (withFn e 1))
def execVsmx (h : Hd) (e : EF) := does (vectorInsn h 0x3A e)
def execVsmxb (h : Hd) (e : EF) := does (vectorInsn h 0x3B e)
def execVscan (h : Hd) (e : EF) := does (vectorInsn h 0x3C (withFn e 0))
def execVscanLoadCarry (h : Hd) (e : EF) := does (vectorInsn h 0x3C (withFn e 1))
def execVscanStoreCarry (h : Hd) (e : EF) := does (vectorInsn h 0x3C (withFn e 2))
def execVpoolMax (h : Hd) (e : EF) := does (vectorInsn h 0x3D (withFn e 0))
def execVpoolAvg (h : Hd) (e : EF) := does (vectorInsn h 0x3D (withFn e 1))
def execVrsz (h : Hd) (e : EF) := does (vectorInsn h 0x3E e)

/-! ### VSEED and VFLAGS (R142, R143) -/

/-- SRSEED takes g[RC] and SRCTR becomes 0; every other field is 0. -/
def execVseed (h : Hd) (e : EF) :=
  let c := h.core.toNat
  does (issue h (wordE h 0x37 e)
    (vectorLegal 0x37 e.aa.toNat e.ma.toNat e.ab.toNat e.mb.toNat e.ad.toNat e.md.toNat e.tile.toNat e.rc.toNat e.opx.toNat) fun s =>
      .ok (.seq (setR R.CORE_SR_SEED_SEED ((s.core c).gv e.rc.toNat).toNat c) (setR R.CORE_SR_CTR_COUNT 0 c)))

/-- g[RC] takes CORE_ARITH_FLAGS once every earlier matrix and vector instruction has completed; X clears them then. -/
def execVflags (h : Hd) (e : EF) :=
  let c := h.core.toNat
  does (issue h (wordE h 0x38 e)
    (vectorLegal 0x38 e.aa.toNat e.ma.toNat e.ab.toNat e.mb.toNat e.ad.toNat e.md.toNat e.tile.toNat e.rc.toNat e.opx.toNat) fun _ =>
      .ok (.seq (updCore c fun k => { k with wait := .vflags e.rc.toNat (oxX e.opx.toNat) }) (ctlRecheck c)))

end Sys2Proof.Machine
end

