-- ==== Sys2Proof/Machine/CoreEvents.lean ====
section
/-! DEFINITION. What happens on a core between instructions: a cycle of the slot wheel, limits of blocked accesses, local
deadlock, and the completion of instructions (R49, R61, R62, R103). -/

namespace Sys2Proof.Machine

/-- ROW_SERVICE: after `dt` periods, one core cycle of a core. -/
def execRowService (core : BitVec 6) (dt : Nat) := does (after dt (.seq (coreCycle core.toNat) (ctlRecheck core.toNat)))

/-- TAG_WAIT_TIMEOUT (R61): an owner 0–4 or 7 reaches CORE_TAGWAIT_LIMIT. In the tick of the deadline only the deadline
fault is raised (R64). -/
def execTagWaitTimeout (core : BitVec 6) (owner : BitVec 3) (dt : Nat) :=
  does (after dt (.get fun s =>
    let c := core.toNat
    let k := owner.toNat
    match (mget OwnS.idle (s.core c).own k).blk with
    | none => .nop
    | some b =>
      let due := match (s.core c).dl with | some v => decide (v ≤ s.coreTick c) | none => false
      if k = 5 ∨ k = 6 ∨ due = true ∨ s.coreTick c - b.start < s.reg R.CORE_TAGWAIT_LIMIT_TICKS c then .nop
      else many [
        excInfo c k (b.ref.row / 8) b.tag b.ref.mode,
        setR R.CORE_EXC_STATUS_TAGWAIT_TO 1 c,
        if (s.running c).isSome then takeExc c 0x13 0 0 else stopEngines c ]))

/-- A transfer that a clause issued has ended with a bad status: the clause ends as faulted, with that status (R277). -/
def insnFault (x : Nat) (v : Xfer) (status : Nat) : Act :=
  .get fun s => match v.org with
    | .insn c k _ _ => .seq (logEv (dieOf c) (srcQue (dieOf c)) 4 (status % 256) (0xFFFF + v.prefixBytes % 2 ^ 32 * 2 ^ 48))
        (.seq (dropXfer x) (whenA ((s.clause k).isSome) (faultClause k status 0 0)))
    | _ => dropXfer x

/-- A transfer ends with a status (R268, R275, R277): its record, or the clause it belongs to. -/
def endXfer (x status : Nat) : Act :=
  .get fun s => withA (s.xfer x) fun v =>
    match v.org with
    | .desc q n => .seq (dropXfer x) (endDesc q n status v.die (dmaExtra v.prefixBytes
        (match (s.queue q).fetched.find? (fun d => decide (d.n = n)) with | some d => d.raw | none => 0)))
    | .insn _ _ sem _ =>
      if status = 0 then .seq (dropXfer x) (withA sem fun h => signal h 1 v.part 1 0xFFFF 0)
      else if status = stCancelled then dropXfer x
      else insnFault x v status
    | .code k => .seq (dropXfer x) (if status = 0 then updClause k fun c => { c with st := if c.st = .loading then .chosen else c.st }
        else faultClause k status 0 0)

/-- A transfer whose status is fixed ends once no segment of it is outstanding (R275, R279). -/
def settleXfer (x : Nat) : Act :=
  .get fun s => withA (s.xfer x) fun v => withA v.fin fun st =>
    if v.segs.any (fun g => decide (g.st ≠ .ended)) then .nop else endXfer x st

/-- The blocked transfer of owner 5 or 6 whose count has run longest: the one on the owner, or one set aside (R276). -/
def State.oldBlk (s : State) (c k : Nat) : Option Blk :=
  let l := (match (mget OwnS.idle (s.core c).own k).blk with | some b => [b] | none => []) ++
    (s.core c).port.filterMap (fun x => match s.xfer x with
      | some v => match v.dst, v.src with
        | .spad d _, .spad _ _ => if (k = 5) = (d = c) then v.aside else none
        | .spad _ _, _ => if k = 5 then v.aside else none
        | _, _ => if k = 6 then v.aside else none
      | none => none)
  l.foldl (fun a b => match a with
    | some x => if b.start < x.start then some b else a
    | none => some b) none

/-- DMA_TAG_WAIT_TIMEOUT (R61, R279): the transfer ends with TAG_TIMEOUT once what it issued has ended; it has claimed
nothing of the blocked slot and moves no row of it. -/
def execDmaTagWaitTimeout (core : BitVec 6) (owner : BitVec 3) (dt : Nat) :=
  does (after dt (.get fun s =>
    let c := core.toNat
    let k := owner.toNat
    match s.oldBlk c k with
    | none => .nop
    | some b =>
      if (k ≠ 5 ∧ k ≠ 6) ∨ s.coreTick c - b.start < s.reg R.CORE_TAGWAIT_DMA_LIMIT_TICKS c then .nop
      else many [
        excInfo c k (b.ref.row / 8) b.tag b.ref.mode,
        setR R.CORE_EXC_STATUS_DMA_TAGWAIT_TO 1 c,
        unblockXfer b.ref.opnd,
        updXfer b.ref.opnd (fun v => { v with fin := some (v.fin.getD stTagTimeout), susp := none, aside := none, segs := v.runOn }),
        settleXfer b.ref.opnd ]))

/-- The condition of R62: every owner that has work is blocked, and the port holds no transfer. -/
def State.lockedUp (s : State) (c : Nat) : Bool :=
  let m := s.core c
  let work := (List.range 8).filter (fun k => !(s.ownRows c k).isEmpty)
  m.port.isEmpty && !work.isEmpty && work.all (fun k => (mget OwnS.idle m.own k).blk.isSome)

/-- LOCAL_DEADLOCK: the condition holds, has held for `dt` or since the last row moved, and the grace is over. -/
def execLocalDeadlock (core : BitVec 6) (dt : Nat) :=
  does (after dt (.get fun s =>
    let c := core.toNat
    let since := (List.range 8).foldl (fun a k => match (mget OwnS.idle (s.core c).own k).blk with | some b => max a b.start | none => a) ((s.core c).lockT.getD 0)
    if s.lockedUp c && s.bit R.CORE_TAGWAIT_CTRL_LOCAL_DETECT c && decide (s.reg R.CORE_TAGWAIT_CTRL_LOCAL_GRACE c ≤ s.coreTick c - since) then
      many [
        withA (s.firstBlk c) (fun b => excInfo c b.1 (b.2.ref.row / 8) b.2.tag b.2.ref.mode),
        setR R.CORE_EXC_STATUS_LOCAL_DEADLOCK 1 c,
        if (s.running c).isSome then takeExc c 0x12 0 0 else stopEngines c ]
    else .nop))

/-- ENGINE_COMPLETE: finished instructions of the matrix (0) or vector (1) engine leave, and a wait for completion ends
where nothing it selects is outstanding; row staging (2) and DMA (3) leave their queues as their last row is served. -/
def execEngineComplete (core : BitVec 6) (eng : BitVec 2) :=
  does (.seq (retireOps core.toNat eng.toNat) (ctlRecheck core.toNat))

end Sys2Proof.Machine
end

