-- ==== Sys2Proof/Machine/Gate.lean ====
section
/-! DEFINITION. Which register accesses reach their register: the boot gate (R534), the availability of a die (R39), the
sideband port's lock (R525), and what a virtual function's mirror admits (R490, R515). -/

namespace Sys2Proof.Machine

/-! ### Reset domains and power (R445, R478) -/

/-- The key of a reset domain: 1 core, 2 compute die, 3 Hub block. -/
def rstKey (dom idx : Nat) : Nat := dom * 64 + idx

/-- A domain is in reset. -/
def State.inReset (s : State) (dom idx : Nat) : Bool := s.pkg.held || decide (mget 0 s.pkg.rst (rstKey dom idx) ≠ 0)

/-- A compute die is in Run and out of reset. -/
def State.dieUp (s : State) (d : Nat) : Bool := !s.inReset 2 d && decide (s.reg R.PWR_STATE_DIE 0 d = 0)

/-- The boot is complete (R533). -/
def State.ready (s : State) : Bool := !s.pkg.held && decide (s.reg R.HUB_BOOT_STAGE = 6)

/-! ### BAR0 offsets (R35, R36) -/

/-- The base of compute die d's window. -/
def dieBase (d : Nat) : Nat := 0x10000000 + d * 0x04000000
/-- The offset of a register of the queue block. -/
def queOff (d o : Nat) : Nat := dieBase d + 0x02800000 + o
/-- The offset of register `o` of local queue `q`. -/
def queueOff (d q o : Nat) : Nat := queOff d (0x100000 + 64 * q + o)
/-- The offset of word `w` of semaphore n. -/
def semOff (d n w : Nat) : Nat := queOff d (0x10000 + 8 * n + 4 * w)
/-- The offset of a register of the translation block and of the DRAM controllers. -/
def xltOff (d o : Nat) : Nat := dieBase d + 0x03000000 + o
def dmcOff (d o : Nat) : Nat := dieBase d + 0x02000000 + o
def pwrOff (o : Nat) : Nat := 0x00100000 + o
def timeOff (o : Nat) : Nat := 0x00200000 + o
def secOff (o : Nat) : Nat := 0x00300000 + o
def logOff (o : Nat) : Nat := 0x00400000 + o
def sbpOff (o : Nat) : Nat := 0x00500000 + o
def ispOff (o : Nat) : Nat := 0x01000000 + o
def audOff (o : Nat) : Nat := 0x01100000 + o
def inpOff (o : Nat) : Nat := 0x01200000 + o
def fabOff (o : Nat) : Nat := 0x02000000 + o
def chrOff (o : Nat) : Nat := 0x02100000 + o
def seqOff (o : Nat) : Nat := 0x03000000 + o

/-- The compute die whose window holds an offset. -/
def offDie (off : Nat) : Option Nat := if 0x10000000 ≤ off ∧ off < 0x20000000 then some ((off - 0x10000000) / 0x04000000) else none

/-! ### Virtual functions (R490, R515) -/

/-- The partition that VF v + 1 serves. -/
def State.vfPart (s : State) (v : Nat) : Option Nat := findUp (fun p => decide (s.reg R.SEC_PART_CFG_VF 0 p = v + 1)) 0 16

/-- The port code of R396. -/
def portCode : Port → Nat
  | .pf => 0
  | .sbp => 1
  | .vf _ => 2
  | .fw => 0

/-- The number of a port. -/
def portNum : Port → Nat
  | .pf => 0
  | .sbp => 1
  | .fw => 2
  | .vf v => 3 + v.toNat

/-- The key of a word of a port's staging copy or latch, and the offset in it (R12, R13). -/
def wordKey (p : Port) (off : Nat) : Nat := portNum p * 2 ^ 27 + off / 4
def keyOff (k : Nat) : Nat := k % 2 ^ 27 * 4

/-- A reset of a domain discards the latches of its registers (R12). -/
def dropLatches (inDom : Nat → Bool) : Act := .put (.bus fun b => { b with latch := mkeep (fun k => !inDom (keyOff k)) b.latch })

/-- The die whose translation agents of the Hub die use. DESIGN CHOICE: the spec names none. -/
def hubXlt : Nat := 0

/-- The mirror of a VF that serves partition `p` reaches the register at an offset (R515). -/
def State.vfReach (s : State) (p off : Nat) (isRead : Bool) : Bool :=
  match offDie off with
  | some d =>
    let o := (off - 0x10000000) % 0x04000000
    if o < 0x01000000 then isRead && bitOf (s.reg R.SEC_PART_CORES_CORES 0 p) (16 * d + o / 0x00100000)
    else if 0x02800000 ≤ o ∧ o < 0x03000000 then
      let q := o - 0x02800000
      if 0x100000 ≤ q ∧ q < 0x180000 then
        let n := (q - 0x100000) / 64
        let r := (q - 0x100000) % 64
        decide (s.reg R.QUE_QCFG_PART d n = p) && (isRead || decide (r / 4 = 6) || decide (r / 4 = 10))
      else if 0x10000 ≤ q ∧ q < 0x18000 then
        let n := (q - 0x10000) / 8
        decide (s.reg R.QUE_SEM_W0_VALID d n = 0) || decide (s.reg R.QUE_SEM_W0_PART d n = p)
      else false
    else false
  | none =>
    if 0x03000000 ≤ off ∧ off < 0x04000000 then
      let o := off - 0x03000000
      if 0x420000 ≤ o ∧ o < 0x420010 then isRead || decide (o < 0x42000C)
      else if o < 0x1000 then isRead && decide (o / 0x100 = p)
      else if 0x400000 ≤ o ∧ o < 0x400400 then isRead && decide ((o - 0x400000) / 0x40 = p)
      else false
    else if 0x01001000 ≤ off ∧ off < 0x01001800 then
      let st := (off - 0x01001000) / 0x100
      let r := off % 0x100
      s.bit R.ISP_PORT_CFG_PART_VALID 0 (s.reg R.ISP_STRM_CFG_PORT 0 st) && decide (s.reg R.ISP_PORT_CFG_PART 0 (s.reg R.ISP_STRM_CFG_PORT 0 st) = p) &&
        (isRead || decide (r = 0x18) || decide (r = 0x1C) || decide (r = 0x20) || decide (r = 0x24))
    else if 0x01201000 ≤ off ∧ off < 0x01202000 then
      decide (s.ctxPart hubXlt (s.reg R.INP_PIPE_CFG_CTX 0 ((off - 0x01201000) / 0x100)) = some p)
    else if off = secOff 0x400 ∨ off = secOff 0x404 then true
    else isRead && decide (timeOff 8 ≤ off) && decide (off < timeOff 0x20)

/-! ### The gate -/

/-- What an access meets before it reaches a register: nothing, a discard that is logged as an event of class 0x01
(2 unoccupied, 3 die unavailable), a discard counted in SBP_DISCARD, or a silent one while the package is in reset. -/
inductive GateRes where
  | open
  | log (ev : Nat)
  | locked
  | silent
  deriving DecidableEq, Repr

/-- The offsets that BAR0 reaches before READY (R534). -/
def bootReach (off : Nat) : Bool :=
  decide (off = 0) || (decide (0x10 ≤ off) && decide (off < 0x20)) || decide (off = 0x100) ||
  (decide (0x00300000 ≤ off) && decide (off < 0x00500000))

/-- What the Hub firmware reaches: everything on the Hub die while it runs, a die that is up, and the training registers of dies held in
reset (R533, R536). -/
def State.gateFw (s : State) (off : Nat) : GateRes :=
  let st := s.reg R.HUB_BOOT_STAGE
  if s.pkg.held || decide (st < 3) || decide (6 < st) then .silent
  else match offDie off with
    | none => .open
    | some d =>
      let o := off - dieBase d
      if s.dieUp d || (decide (st = 4) && decide (0x02000600 ≤ o) && decide (o < 0x02000680)) then .open else .log 3

def State.gate (s : State) (p : Port) (off : Nat) (isRead : Bool) : GateRes :=
  let isSbp := decide (0x00500000 ≤ off) && decide (off < 0x00600000)
  if s.pkg.held then .silent
  else if p = .fw then s.gateFw off
  else if p = .sbp ∧ s.inReset 3 5 then .silent
  else if s.reg R.HUB_BOOT_STAGE ≠ 6 ∧ bootReach off = false then .log 2
  else if p = .sbp ∧ isRead = false ∧ s.bit R.SBP_CTL_WRITE_LOCK ∧ isSbp = false then .locked
  else match p with
  | .vf v => match s.vfPart v.toNat with
    | none => .log 2
    | some q =>
      if !s.vfReach q off isRead then .log 2
      else match offDie off with
        | some d => if s.dieUp d then .open else .log 3
        | none => .open
  | _ => match offDie off with
    | some d => if s.dieUp d then .open else .log 3
    | none => .open

/-- The die on which a register access takes place: the compute die of the window, or the Hub die. -/
def eventDie (off : Nat) : Nat := (offDie off).getD 4

/-- A log entry of class 0x01 (R396). -/
def logReg (p : Port) (off v ev : Nat) (isRead : Bool) : Act :=
  .get fun s => logPut (LogEnt.mk (s.count 4) (if ev = 3 then eventDie off else 4) srcHub (256 + ev) (off + v % 2 ^ 32 * 2 ^ 32 + portCode p * 2 ^ 64 + b2n isRead * 2 ^ 72))

/-- What happens to an access that the gate turns away. -/
def turnAway (p : Port) (off v : Nat) (isRead : Bool) : GateRes → Act
  | .open => .nop
  | .log ev => logReg p off v ev isRead
  | .locked => bump R.SBP_DISCARD_COUNT
  | .silent => .nop

/-! ### The configuration class (R360–R362, R481) -/

/-- The fields of the configuration class. -/
def classFlds : List Fld :=
  [R.CORE_TAGWAIT_LIMIT_TICKS, R.CORE_TAGWAIT_DMA_LIMIT_TICKS, R.CORE_TAGWAIT_CTRL_LOCAL_GRACE, R.CORE_TAGWAIT_CTRL_LOCAL_DETECT,
   R.CORE_SEMWAIT_LIMIT_TICKS, R.CORE_STREAM_REGION_BASE_ROW, R.CORE_STREAM_REGION_FRAME_ROWS, R.CORE_STREAM_REGION_FRAMES_M1,
   R.DMC_NBR_K_M6, R.DMC_NBR_RADIUS2, R.DMC_NBR_ENABLE, R.DMC_PATROL_HOURS, R.DMC_PATROL_ENABLE, R.DMC_GROUP_CHMASK, R.DMC_GROUP_GRAIN,
   R.DMC_GROUP_ECC, R.DMC_GROUP_ENC, R.DMC_GROUP_PART_VALID, R.DMC_GROUP_PART, R.DMC_GROUP_ENABLE, R.DMC_GROUP_SCRUB_ON_EN, R.DMC_PART_KEY_SLOT,
   R.XLT_CTL_ENABLE, R.XLT_CTL_MIG_ENABLE, R.XLT_MIG_TIMEOUT_US, R.XLT_BULK_SRC_CFG_ENABLE, R.XLT_BULK_SRC_CFG_KIND, R.XLT_BULK_SRC_CFG_LBA4K,
   R.XLT_BULK_SRC_CFG_DEPTH_M1, R.XLT_MIG_CFG_ENTRIES,
   R.QUE_CTL_ENABLE, R.QUE_PART_OPS_LIMIT, R.QUE_SEM_W0_VALID, R.QUE_SEM_W0_KIND, R.QUE_SEM_W0_PART, R.QUE_SEM_W0_COUNT,
   R.QUE_QCFG_ENABLE, R.QUE_QCFG_KIND, R.QUE_QCFG_PRODUCER, R.QUE_QCFG_LOG2_DEPTH, R.QUE_QCFG_PART, R.QUE_QCFG_CTX, R.QUE_QCFG_INFLIGHT_LOG2,
   R.QUE_QCFG_CQ_EN, R.QUE_QCFG_CQ_HOST, R.QUE_IRQ_VECTOR, R.QUE_IRQ_EN, R.QUE_IRQ_COUNT, R.QUE_IRQ_TIME,
   R.SEQ_KV_POOL_CFG_BLOCKS, R.SEQ_KV_POOL_CFG_FMT, R.SEQ_KV_POOL_CFG_SFMT, R.SEQ_KV_POOL_CFG_ENABLE, R.SEQ_KV_SHAPE_LAYERS, R.SEQ_KV_SHAPE_KV_HEADS,
   R.SEQ_KV_SHAPE_PANELS, R.SEQ_PART_TUNE_TUNE, R.SEQ_PART_TUNE_YIELD, R.SEQ_ATT_CFG_HEADS_PER_CORE, R.SEQ_ATT_CFG_SPLIT_MIN,
   R.SEQ_ATT_CFG_STALL_LIMIT, R.SEQ_STREAM_XCMD_STREAM, R.SEQ_STREAM_XCMD_KEEP,
   R.SEQ_SCHED_SLICE, R.SEQ_SCHED_PREEMPT, R.SEQ_AGE_AGE_LIMIT, R.SEQ_PROG_CFG_ENTRIES, R.SEQ_BATCH_CFG_ENABLE, R.SEQ_BATCH_CFG_CTX,
   R.SEQ_BATCH_CFG_POLICY, R.SEQ_BATCH_CFG_REPLAYS, R.SEQ_BATCH_LIM_MAX_SEQ, R.SEQ_BATCH_LIM_CHUNK, R.SEQ_BATCH_BUDGET_BUDGET, R.SEQ_WORK_CFG_ROWS,
   R.SEQ_KICK_CFG_MAX, R.SEQ_KICK_CFG_DRAIN,
   R.FAB_TIMEOUT_LINK_US, R.FAB_TIMEOUT_E2E_MS, R.FAB_TIMEOUT_PEER_US, R.FAB_PERIOD_PRESENCE_US, R.FAB_PERIOD_DIGEST_MS, R.FAB_PERIOD_SETTLE_MS,
   R.FAB_PERIOD_RESTORE_MS, R.FAB_WIN_CTL_OPEN, R.FAB_WIN_CTL_RD_EN, R.FAB_WIN_CTL_WR_EN, R.FAB_WIN_CTL_BELL, R.FAB_WIN_CTL_CTX, R.FAB_WIN_SIZE_PAGES,
   R.FAB_WIN_JOB_SEM_JOB, R.FAB_WIN_JOB_SEM_SEM, R.FAB_PART_W0_JOB, R.FAB_PART_W0_EN, R.FAB_PART_W1_LIMIT]

def classIds : List Nat := classFlds.map Fld.id

/-- The register-file entries of the class. -/
def State.classRegs (s : State) : SMap Nat := s.regs.filter (fun e => classIds.contains (keyId e.1))

/-- DIRTY is set, and the settling time begins again. -/
def setDirty : Act := .get fun s => .seq (setR R.FAB_DIGEST_CTL_DIRTY 1) (.put (.fab fun f => { f with dirtyAt := s.t }))

/-- A write that changes a field of the class sets DIRTY. -/
def classWrite (a : Act) : Act :=
  .get fun s => .seq a (.get fun u => whenA (decide (u.classRegs ≠ s.classRegs)) setDirty)

/-- A command written to a register through a port, where the gate lets it reach the register. -/
def portCmd (p : Port) (off v : Nat) (a : Act) : Act :=
  .get fun s => match s.gate p off false with
    | .open => classWrite a
    | g => turnAway p off v false g

/-- A command that is ignored because another runs (class 0x01, event 4). -/
def ignored (p : Port) (off v : Nat) : Act := logReg p off v 4 false

/-- A reserved encoding (R9, R10): class 0x01, event 1. -/
def reserved (p : Port) (off v : Nat) : Act := logReg p off v 1 false

end Sys2Proof.Machine
end

