-- ==== Sys2Proof/Machine/Queue.lean ====
section
/-! DEFINITION. Queues: doorbells, fetch, the descriptors of DMA queues, completion records, interrupts, the queue
commands that need no other family, and the allocation and signalling of semaphores (R256–R271, R282, R293, R304). -/

namespace Sys2Proof.Machine

/-! ### Doorbells (R259) -/

/-- A bad doorbell: counted, recorded and logged; the queue keeps running. -/
def badDoorbell (q : Nat) : Act :=
  .get fun s => many [
    setQ R.QUE_ERR_CODE q 2, setQ R.QUE_ERR_CLASS q 0, setQ R.QUE_ERR_VALID q 1,
    bump R.QUE_DOORBELL_BAD_COUNT 1 (q / 8192),
    logEv (q / 8192) (srcQue (q / 8192)) 4 0x80 (q % 2 ^ 16 + s.qf R.QUE_TAIL_TAIL q * 2 ^ 16) ]

/-- The two tests of R259 and PRODUCER = 0. -/
def State.doorbellOk (s : State) (q v : Nat) : Bool :=
  decide (s.qf R.QUE_QCFG_PRODUCER q = 0) &&
  decide ((v + 2 ^ 32 - s.qf R.QUE_HEAD_HEAD q) % 2 ^ 32 ≤ s.depth q) &&
  decide ((v + 2 ^ 32 - s.qf R.QUE_TAIL_TAIL q) % 2 ^ 32 ≤ s.depth q)

def doorbell (q v : Nat) : Act :=
  .get fun s =>
    let t := s.qf R.QUE_TAIL_TAIL q
    if !s.doorbellOk q v then badDoorbell q
    else .seq (setQ R.QUE_TAIL_TAIL q v) (whenA (decide (v ≠ t))
      (updQueue q fun k => { k with stamps := k.stamps ++ [(t, (v + 2 ^ 32 - t) % 2 ^ 32, s.count (q / 8192))] }))

/-- A queue's number from its home die and its local number (R256). -/
def qNum (die : BitVec 2) (q : BitVec 13) : Nat := die.toNat * 8192 + q.toNat

def execDoorbell (port : Port) (die : BitVec 2) (q : BitVec 13) (v : BitVec 32) :=
  does (portCmd port (queueOff die.toNat q.toNat 0x18) v.toNat (doorbell (qNum die q) v.toNat))

/-! ### Fetch (R258, R304) -/

/-- The local queues of a die whose ENABLE is 1, ascending. -/
def State.enabledQ (s : State) (d : Nat) : List Nat :=
  (s.regs.filter (fun e => decide (keyId e.1 = R.QUE_QCFG_ENABLE.id) && decide (keyI e.1 = d) && decide (e.2 = 1))).map (fun e => keyJ e.1)

/-- A kill of the context runs (R497). -/
def State.killing (s : State) (ctx : Nat) : Bool := s.bit R.SEC_KILL_STATUS_BUSY && decide (s.reg R.SEC_KILL_STATUS_CTX = ctx)

/-- The queue may fetch its descriptor HEAD. -/
def State.canFetch (s : State) (q : Nat) : Bool :=
  decide (s.qf R.QUE_QCFG_ENABLE q = 1) && decide (s.qf R.QUE_QSTATE_ERROR q = 0) && !s.killing (s.qf R.QUE_QCFG_CTX q) &&
  decide (s.qf R.QUE_HEAD_HEAD q ≠ s.qf R.QUE_TAIL_TAIL q) &&
  decide ((s.queue q).fetched.length < 2 ^ s.qf R.QUE_QCFG_INFLIGHT_LOG2 q)

/-- The element of an ascending list that comes next after `k` with wrap. -/
def nextWrap (l : List Nat) (k : Nat) : Option Nat := match l.find? (fun x => decide (k < x)) with
  | some x => some x
  | none => l.head?

/-- The queue whose turn it is (R304): partitions in ascending order with wrap, and queues within the partition. The
turns hold one more than the number served last. -/
def State.fetchTurn (s : State) (d : Nat) : Option Nat :=
  let qs := (s.enabledQ d).filter (fun q => s.canFetch (d * 8192 + q))
  let ps := (List.range 16).filter (fun p => qs.any (fun q => decide (s.reg R.QUE_QCFG_PART d q = p)))
  match nextWrap (ps.map (· + 1)) (mget 0 s.die.turn d) with
  | none => none
  | some p1 => (nextWrap ((qs.filter (fun q => decide (s.reg R.QUE_QCFG_PART d q = p1 - 1))).map (· + 1)) (mget 0 s.die.qturn (16 * d + (p1 - 1)))).map (· - 1)

/-- The accept stamp of descriptor n. -/
def QueS.stampOf (k : QueS) (n : Nat) : Nat :=
  match k.stamps.find? (fun e => decide ((n + 2 ^ 32 - e.1) % 2 ^ 32 < e.2.1)) with
  | some e => e.2.2
  | _ => 0

/-- The place of descriptor n of a queue (R257). -/
def State.ringAt (s : State) (q n : Nat) : Nat := s.qf R.QUE_RING_BASE_ADDR q * 4096 + 128 * (n % s.depth q)

/-- HEAD has passed descriptor n: a stamp whose last descriptor it is goes. -/
def dropStamp (n : Nat) (k : QueS) : QueS :=
  { k with stamps := k.stamps.filter (fun e => decide ((n + 1) % 2 ^ 32 ≠ (e.1 + e.2.1) % 2 ^ 32)) }

/-- The operation codes a queue of a kind has. -/
def opKnown (kind op : Nat) : Bool :=
  if kind = 0 then decide (op ≤ 3) else if kind = 1 then op = 0 || op = 1 || op = 3 else op = 0 || op = 4 || op = 5

/-- Descriptor HEAD is read and enters the block; a code that the queue's kind has not ends it with DESC_FORMAT. -/
def fetchOne (q : Nat) : Act :=
  .get fun s =>
    let n := s.qf R.QUE_HEAD_HEAD q
    let die := q / 8192
    let ctx := s.qf R.QUE_QCFG_CTX q
    let look := readAct die ctx (s.ringAt q n) 128 8 false true
    match s.daRead die ctx (s.ringAt q n) 128 with
    | .bad c => many [look, queueErr q 1 c]
    | .ok raw => many [
        look, setQ R.QUE_HEAD_HEAD q (n + 1),
        updQueue q (fun k => { dropStamp n k with
          fetched := k.fetched ++ [⟨n, k.stampOf n, raw, false, none, false, 0, die, 0, bits raw 224 32⟩] }),
        whenA (!opKnown (s.qf R.QUE_QCFG_KIND q) (raw % 256)) (endDesc q n stDescFormat die (dmaExtra 0 raw)) ]

/-- A die entering Coast or Retain fetches nothing (R450). -/
def State.fetchStopped (s : State) (d : Nat) : Bool := s.bit R.PWR_STATE_BUSY 0 d || !s.dieUp d

def execDescriptorFetch (die : BitVec 2) :=
  does (.get fun s =>
    let d := die.toNat
    if !s.bit R.QUE_CTL_ENABLE d || s.fetchStopped d then .nop
    else withA (s.fetchTurn d) fun q =>
      let p := s.reg R.QUE_QCFG_PART d q
      .seq (.put (.die fun x => { x with turn := mset 0 x.turn d (p + 1), qturn := mset 0 x.qturn (16 * d + p) (q + 1) }))
        (fetchOne (d * 8192 + q)))

/-! ### DMA descriptors (R264–R266) -/

/-- A device address in the scratchpad region (R220). -/
def isPad (a : Nat) : Bool := decide (2 ^ 47 ≤ a) && decide (a < 0x800010000000)

/-- The side a device address names. -/
def sideOf (a : Nat) : Side := if isPad a then .spad ((a - 2 ^ 47) / 2 ^ 22) (a % 2 ^ 22 / 512) else .dev a

/-- Step 2 of R265 for one side. -/
def sideOk (a len : Nat) : Bool :=
  if isPad a then decide (a % 512 = 0) && decide (a % 2 ^ 22 + len ≤ 2 ^ 22) else decide (a % 64 = 0)

/-- The checks of R265 on a COPY or FILL. -/
def State.copyOk (s : State) (q raw : Nat) : Bool :=
  let op := raw % 256
  let sm := bits raw 16 8
  let dm := bits raw 24 8
  let src := bits raw 64 64
  let dst := bits raw 128 64
  let len := bits raw 192 32
  let sem := bits raw 224 32
  let sig := bitOf raw 10
  let pads := (op = 1 && isPad src) || isPad dst
  decide (bits raw 11 5 = 0) && decide (bits raw 48 16 = 0) && decide (bits raw 256 768 = 0) &&
  (sig || decide (sem = 0)) && decide (dst < 2 ^ 48) && (decide (op ≠ 1) || decide (src < 2 ^ 48)) &&
  decide (1 ≤ len) && decide (len ≤ if pads then 4194304 else 1073741824) &&
  sideOk dst len && (decide (op ≠ 1) || sideOk src len) &&
  (if isPad dst then dm = 0 || dm = 2 else decide (dm = 0)) &&
  (if op = 1 && isPad src then decide (sm ≤ 2) else decide (sm = 0)) &&
  (!sig || (decide (sem < 2 ^ 14) && decide (s.smf R.QUE_SEM_W0_VALID sem = 1) && decide (s.smf R.QUE_SEM_W0_KIND sem = 1) &&
    decide (s.smf R.QUE_SEM_W0_PART sem = s.qf R.QUE_QCFG_PART q)))

/-- A NOP or BARRIER has only OP, IRQ, ORDER and TAG (R264). -/
def plainOk (raw : Nat) : Bool := decide (bits raw 10 22 = 0) && decide (bits raw 48 976 = 0)

/-- A fetched descriptor is marked as started. -/
def markStarted (q n : Nat) : Act :=
  updQueue q fun k => { k with fetched := k.fetched.map (fun d => if d.n = n then { d with started := true } else d) }

/-- Every earlier descriptor of the queue has completed. -/
def QueS.first (k : QueS) (n : Nat) : Bool := match k.fetched with
  | d :: _ => decide (d.n = n)
  | [] => false

/-- The oldest descriptor of the queue that has not started. -/
def QueS.nextUp (k : QueS) : Option DescS := k.fetched.find? (fun d => !d.started && d.endSt.isNone)

/-- A COPY or FILL starts: its transfer waits for a copy engine or a port entry (R272). -/
def startXfer (q : Nat) (d : DescS) : Act :=
  .get fun s =>
    let op := d.raw % 256
    let dst := sideOf (bits d.raw 128 64)
    let src := if op = 1 then sideOf (bits d.raw 64 64) else .fill (bits d.raw 64 64)
    let exe := match dst, src with
      | .spad c _, _ => dieOf c
      | _, .spad c _ => dieOf c
      | _, _ => q / 8192
    many [
      markStarted q d.n,
      setXfer s.die.nextX (some {
        org := .desc q d.n, ctx := s.qf R.QUE_QCFG_CTX q, part := s.qf R.QUE_QCFG_PART q, die := exe,
        src := src, dst := dst, len := bits d.raw 192 32, smode := bits d.raw 16 8, dmode := bits d.raw 24 8,
        ag := none, place := 0, k := 0, segs := [], done := 0, fin := none, susp := none, order := s.die.nextX, aside := none }),
      .put (.die fun y => { y with nextX := y.nextX + 1 }) ]

/-- A COPY or FILL descriptor is checked, and starts where its order allows. -/
def runCopy (q : Nat) (d : DescS) : Act :=
  .get fun s =>
    if !s.copyOk q d.raw then .seq (markStarted q d.n) (endDesc q d.n stDescFormat (q / 8192) (dmaExtra 0 d.raw))
    else if bitOf d.raw 9 && !(s.queue q).first d.n then .nop
    else startXfer q d

/-- A NOP or BARRIER descriptor completes, or fails its check. -/
def runPlain (q : Nat) (d : DescS) : Act :=
  .seq (markStarted q d.n) (endDesc q d.n (if plainOk d.raw then stOK else stDescFormat) (q / 8192) (dmaExtra 0 d.raw))

/-- A queue of a kind takes its descriptor of an operation code, the oldest that has not started. -/
def onNext (q kind op : Nat) (f : DescS → Act) : Act :=
  .get fun s => withA (s.queue q).nextUp fun d =>
    whenA (decide (s.qf R.QUE_QCFG_KIND q = kind) && decide (d.raw % 256 = op)) (f d)

/-- DMA_NOP: with no ORDER a NOP completes as soon as it is fetched, wherever it stands (R266). -/
def execDmaNop (die : BitVec 2) (q : BitVec 13) :=
  does (.get fun s =>
    let n := qNum die q
    whenA (decide (s.qf R.QUE_QCFG_KIND n = 0)) (withA ((s.queue n).fetched.find? (fun d => !d.started && d.endSt.isNone && decide (d.raw % 256 = 0))) fun d =>
      if bitOf d.raw 9 && plainOk d.raw && !(s.queue n).first d.n then .nop else runPlain n d))

def execDmaCopy (die : BitVec 2) (q : BitVec 13) := does (onNext (qNum die q) 0 1 (runCopy (qNum die q)))
def execDmaFill (die : BitVec 2) (q : BitVec 13) := does (onNext (qNum die q) 0 2 (runCopy (qNum die q)))

/-- DMA_BARRIER: it starts once every earlier descriptor has completed, and completes as soon as it starts. -/
def execDmaBarrier (die : BitVec 2) (q : BitVec 13) :=
  does (onNext (qNum die q) 0 3 fun d => .get fun s =>
    if plainOk d.raw && !(s.queue (qNum die q)).first d.n then .nop else runPlain (qNum die q) d)

/-- DESCRIPTOR_START: the oldest descriptor has ORDER, or is a BARRIER, and every earlier one has completed. -/
def execDescriptorStart (die : BitVec 2) (q : BitVec 13) :=
  does (.get fun s =>
    let n := qNum die q
    withA (s.queue n).nextUp fun d =>
      whenA (decide (s.qf R.QUE_QCFG_KIND n = 0) && (s.queue n).first d.n && (bitOf d.raw 9 || decide (d.raw % 256 = 3)))
        (if d.raw % 256 = 1 ∨ d.raw % 256 = 2 then runCopy n d else runPlain n d))

/-! ### Completion (R267–R270) -/

def execCompletion (die : BitVec 2) (q : BitVec 13) := does (completeOne (qNum die q))

/-- COMPLETION_RESUME: the completion that waited for room proceeds (R269). -/
def execCompletionResume (die : BitVec 2) (q : BitVec 13) := does (completeOne (qNum die q))

/-- A write of CQ_HEAD (R269). -/
def cqHead (q v : Nat) : Act :=
  .get fun s =>
    if (s.qf R.QUE_DONE_COUNT q + 2 ^ 32 - v) % 2 ^ 32 ≤ s.depth q then setQ R.QUE_CQ_HEAD_CONSUMED q v
    else bump R.QUE_DOORBELL_BAD_COUNT 1 (q / 8192)

def execCqHeadWrite (port : Port) (die : BitVec 2) (q : BitVec 13) (v : BitVec 32) :=
  does (portCmd port (queueOff die.toNat q.toNat 0x28) v.toNat (cqHead (qNum die q) v.toNat))

/-- IRQ_TIMER: IRQ.TIME microseconds after the first counted completion the message is sent (R270). -/
def execIrqTimer (die : BitVec 2) (q : BitVec 13) (dt : Nat) :=
  does (after dt (.get fun s =>
    let n := qNum die q
    let tm := s.qf R.QUE_IRQ_TIME n
    match (s.queue n).irqSince with
    | none => .nop
    | some t0 =>
      if s.qf R.QUE_IRQ_EN n = 1 && decide (tm ≠ 0) && decide (t0 + tm * usU ≤ s.t) then
        .seq (updQueue n fun k => { k with irqCnt := 0, irqSince := none }) (msix (s.qf R.QUE_IRQ_VECTOR n))
      else .nop))

/-! ### Enabling, disabling and draining (R262, R263, R291) -/

/-- CTX names a readable, valid entry of the queue's partition (R291). -/
def State.queueCtxOk (s : State) (q : Nat) : Bool :=
  decide (s.ctxPart (q / 8192) (s.qf R.QUE_QCFG_CTX q) = some (s.qf R.QUE_QCFG_PART q))

/-- ENABLE takes 1: an error is left behind, fetch resumes at HEAD and a waiting record is written again. -/
def enableQ (q : Nat) : Act :=
  .get fun s => whenA (decide (s.qf R.QUE_QCFG_ENABLE q = 0)) (many [setQ R.QUE_QCFG_ENABLE q 1, setQ R.QUE_QSTATE_ERROR q 0])

/-- The word of QCFG with ENABLE as given and every other field as it is. -/
def State.qcfgWord (s : State) (q e : Nat) : Nat :=
  e + s.qf R.QUE_QCFG_KIND q * 2 + s.qf R.QUE_QCFG_PRODUCER q * 2 ^ 3 + s.qf R.QUE_QCFG_LOG2_DEPTH q * 2 ^ 4 + s.qf R.QUE_QCFG_PART q * 2 ^ 9 +
  s.qf R.QUE_QCFG_CTX q * 2 ^ 13 + s.qf R.QUE_QCFG_INFLIGHT_LOG2 q * 2 ^ 25 + s.qf R.QUE_QCFG_CQ_EN q * 2 ^ 28 + s.qf R.QUE_QCFG_CQ_HOST q * 2 ^ 29

def execQueueEnable (port : Port) (die : BitVec 2) (q : BitVec 13) :=
  does (.get fun s => portCmd port (queueOff die.toNat q.toNat 0) (s.qcfgWord (qNum die q) 1) (.get fun s =>
    if s.qf R.QUE_QCFG_ENABLE (qNum die q) = 0 && !s.queueCtxOk (qNum die q) then
      reserved port (queueOff die.toNat q.toNat 0) (s.qcfgWord (qNum die q) 1)
    else enableQ (qNum die q)))

def disableQ (q : Nat) : Act := .seq (setQ R.QUE_QCFG_ENABLE q 0) (queCmdCheck (q / 8192))

def execQueueDisable (port : Port) (die : BitVec 2) (q : BitVec 13) :=
  does (.get fun s => portCmd port (queueOff die.toNat q.toNat 0) (s.qcfgWord (qNum die q) 0) (disableQ (qNum die q)))

/-- A command of QUE_CMD begins, or is ignored while another runs (R288). -/
def queGo (port : Port) (die q op : Nat) (a : Act) : Act :=
  .get fun s =>
    if s.bit R.QUE_STATUS_BUSY die then ignored port (queOff die 8) (q + op * 2 ^ 14)
    else many [
      setR R.QUE_CMD_QUEUE q die,
      .put (.die fun d => { d with qcmd := mset none d.qcmd die (some ⟨die * 8192 + q, decide (op = 2)⟩) }),
      setR R.QUE_STATUS_BUSY 1 die,
      a ]

def queCmd (port : Port) (die q op : Nat) (a : Act) : Act := portCmd port (queOff die 8) (q + op * 2 ^ 14) (queGo port die q op a)

def execQueueDrain (port : Port) (die : BitVec 2) (q : BitVec 13) :=
  does (queCmd port die.toNat q.toNat 1 (disableQ (qNum die q)))

/-! ### Semaphores (R282, R293) -/

/-- A write of word 0 of a semaphore. -/
def semWrite (port : Port) (h w : Nat) : Act :=
  .get fun s =>
    let off := semOff (h / 4096) (h % 4096) 0
    let kind := bits w 1 1
    let part := bits w 2 4
    let cnt := bits w 16 16
    let same := decide (s.smf R.QUE_SEM_W0_KIND h = kind) && decide (s.smf R.QUE_SEM_W0_PART h = part) && decide (s.smf R.QUE_SEM_W0_COUNT h = cnt)
    let owner := if s.smf R.QUE_SEM_W0_VALID h = 1 then s.smf R.QUE_SEM_W0_PART h else part
    let mine := match port with
      | .vf v => decide (s.vfPart v.toNat = some owner)
      | _ => true
    if !mine then logReg port off w 2 false
    else if s.smf R.QUE_SEM_W0_VALID h = 1 then
      if !same then reserved port off w
      else if bitOf w 0 then .nop
      else if s.smf R.QUE_SEM_W0_HELD h = 1 || !(s.sem h).waiters.isEmpty then reserved port off w
      else setS R.QUE_SEM_W0_VALID h 0
    else many [
      setS R.QUE_SEM_W0_KIND h kind, setS R.QUE_SEM_W0_PART h part,
      setS R.QUE_SEM_W0_COUNT h (if kind = 1 then cnt else 0), setS R.QUE_SEM_W0_VALID h (bits w 0 1) ]

/-- A handle from its die and index (R105). -/
def semNum (die : BitVec 2) (n : BitVec 12) : Nat := die.toNat * 4096 + n.toNat

def execSemAllocate (port : Port) (die : BitVec 2) (n : BitVec 12) (w : BitVec 32) :=
  does (portCmd port (semOff die.toNat n.toNat 0) w.toNat (semWrite port (semNum die n) w.toNat))

/-- A write of SIGNAL (R293); 0 is its no-action value (R10). -/
def semSignal (port : Port) (h v : Nat) : Act :=
  .get fun s =>
    if v = 0 then .nop
    else if s.smf R.QUE_SEM_W0_VALID h = 1 && s.smf R.QUE_SEM_W0_KIND h = 1 then signal h v (s.smf R.QUE_SEM_W0_PART h) 3 0xFFFF 0
    else reserved port (semOff (h / 4096) (h % 4096) 1) v

def execSemSignalWrite (port : Port) (die : BitVec 2) (n : BitVec 12) (v : BitVec 16) :=
  does (portCmd port (semOff die.toNat n.toNat 1) v.toNat (semSignal port (semNum die n) v.toNat))

end Sys2Proof.Machine
end

