-- ==== Sys2Proof/Machine/AddrGen.lean ====
section
/-! DEFINITION. The address generator: its program row, the checks made on it, and what each byte of its output is
(spec/06, R201–R219). -/

namespace Sys2Proof.Machine

/-- An element of an output: a value, or element `ch` of the pixel vector at a device address. -/
inductive AgEl where
  | num (v : Nat)
  | at_ (da ch : Nat)
  deriving DecidableEq, Repr

/-- Field of `n` bytes at an offset of the program. -/
def agF (p off n : Nat) : Nat := bits p (8 * off) (8 * n)

def agKind (p : Nat) : Nat := agF p 0 1
def agW (p : Nat) : Nat := fmtBits (agF p 1 1)
/-- Channels of a block (R201). -/
def agCb (p : Nat) : Nat := if agW p = 16 then 16 else 32
/-- Bytes of a pixel vector. -/
def agV (p : Nat) : Nat := agCb p * agW p / 8
def agNCB (p : Nat) : Nat := agF p 0x0E 1
def agH (p : Nat) : Nat := agF p 0x10 2
def agWid (p : Nat) : Nat := agF p 0x12 2
def agOW (p : Nat) : Nat := agF p 0x16 2
def agP0 (p : Nat) : Nat := agF p 0x18 4
def agNP (p : Nat) : Nat := agF p 0x1C 2
def agPad (p : Nat) : Nat := agF p 0x1E 2
def agFac (p : Nat) : Nat := agF p 0x24 1
def agCin (p : Nat) : Nat := agF p 0x25 1
def agDev (p : Nat) : Nat := agF p 0x30 8
/-- Blocks of an S2C output or a C2S input pixel (R210, R211). -/
def agNCBo (p : Nat) : Nat := cdiv (agFac p * agFac p * agCin p) (agCb p)

/-- The device address of the pixel vector of block cb at (y, x) (R202). -/
def agAddr (p cb y x : Nat) : Nat :=
  agDev p + (if agF p 0x0F 1 % 2 = 0 then (cb * agH p + y) * agWid p + x else (y * agWid p + x) * agNCB p + cb) * agV p

/-- A run rounded up to a multiple. -/
def roundUp (n m : Nat) : Nat := cdiv n m * m

/-- Bytes of one plane of PLANES or RESIZE (R212, R213). -/
def agPlane (p : Nat) : Nat := roundUp (agNP p * agNCB p * agV p) 2048

/-- The output length a program defines (R206, R210–R213). -/
def agLen (p : Nat) : Nat :=
  match agKind p with
  | 0 => agF p 0x22 2 * 4096 * agW p / 8
  | 1 => agF p 2 1 * agF p 3 1 * agPlane p
  | 4 => 4 * agPlane p + roundUp (4 * agNP p) 2048
  | _ => roundUp (agNP p * agNCBo p * agV p) 512

/-- One check of R205: the field's offset, and whether it holds. -/
abbrev AgCheck := Nat × Bool

/-- A field is in a range. -/
def agIn (p off n lo hi : Nat) : AgCheck := (off, decide (lo ≤ agF p off n) && decide (agF p off n ≤ hi))

/-- Every check of R205 in the order of the fields, then of the rule's list. `len` is g[RL], `isOut` DIR 1. -/
def agChecks (p len : Nat) (isOut : Bool) : List AgCheck :=
  let k := agKind p
  let conv := k = 0
  let tap := k = 0 || k = 1
  let cs := k = 2 || k = 3
  let one := fun off => (off, decide (agF p off 1 = 1))
  let zero := fun off n => (off, decide (agF p off n = 0))
  let pads := fun off => if tap || (k = 2 && (off = 9 || off = 0x0B)) then agIn p off 1 0 255 else zero off 1
  [ (0, decide (k ≤ 4) && decide ((k = 3) = (isOut = true))), agIn p 1 1 0 6,
    if tap then agIn p 2 1 1 31 else one 2, if tap then agIn p 3 1 1 31 else one 3,
    if tap then agIn p 4 1 1 255 else one 4, if tap then agIn p 5 1 1 255 else one 5,
    if tap then agIn p 6 1 1 255 else one 6, if tap then agIn p 7 1 1 255 else one 7,
    pads 8, pads 9, pads 0x0A, pads 0x0B,
    if tap then agIn p 0x0C 1 0 255 else zero 0x0C 1, if tap then agIn p 0x0D 1 0 255 else zero 0x0D 1,
    if cs then one 0x0E else agIn p 0x0E 1 1 255,
    (0x0F, if k = 3 then decide (agF p 0x0F 1 = 0) else decide (agF p 0x0F 1 ≤ 1)),
    agIn p 0x10 2 1 65535, agIn p 0x12 2 1 65535, agIn p 0x14 2 1 65535, agIn p 0x16 2 1 65535,
    agIn p 0x18 4 0 (2 ^ 32 - 1), agIn p 0x1C 2 1 (if conv then 64 else 65535),
    (0x1E, if k = 4 then decide (agPad p = 0) else decide (agPad p < 2 ^ agW p)),
    if conv then agIn p 0x20 2 0 65535 else zero 0x20 2, if conv then agIn p 0x22 2 1 1024 else zero 0x22 2,
    (0x24, if cs then agFac p = 2 || agFac p = 4 || agFac p = 8 else decide (agFac p = 0)),
    (0x25, if cs then decide (1 ≤ agCin p) && decide (agCin p ≤ agCb p) && decide (agFac p * agFac p * agCin p ≤ 256) else decide (agCin p = 0)),
    if k = 4 then agIn p 0x26 1 0 1 else zero 0x26 1, zero 0x27 1,
    if k = 4 then agIn p 0x28 4 1 (2 ^ 32 - 1) else zero 0x28 4, if k = 4 then agIn p 0x2C 4 1 (2 ^ 32 - 1) else zero 0x2C 4,
    (0x30, decide (agDev p < 2 ^ 48) && decide (agDev p % 64 = 0)), zero 0x38 8, (0x40, decide (p / 2 ^ 512 = 0)),
    (0x22, decide (len = agLen p)),
    (0x18, decide (agP0 p + agNP p ≤ agF p 0x14 2 * agOW p)),
    (0x14, if tap then decide ((agF p 0x14 2 - 1) * agF p 4 1 + (agF p 0x0C 1 + agF p 2 1 - 1) * agF p 6 1 ≤ agH p + agF p 9 1 - 1 + agF p 8 1)
      else if k = 2 then decide (agFac p * agF p 0x14 2 ≤ agH p + agF p 9 1) else true),
    (0x16, if tap then decide ((agOW p - 1) * agF p 5 1 + (agF p 0x0D 1 + agF p 3 1 - 1) * agF p 7 1 ≤ agWid p + agF p 0x0B 1 - 1 + agF p 0x0A 1)
      else if k = 2 then decide (agFac p * agOW p ≤ agWid p + agF p 0x0B 1) else true) ]

/-- The offset of the first failing field, where a check fails. -/
def agFail (p len : Nat) (isOut : Bool) : Option Nat := ((agChecks p len isOut).find? (fun c => !c.2)).map Prod.fst

/-- The element of a source position that a tap reaches, or PAD (R206). -/
def agTap (p pix tap cb e : Nat) : AgEl :=
  let oy := pix / agOW p
  let ox := pix % agOW p
  let iy : Int := (oy * agF p 4 1 : Nat) - (agF p 8 1 : Nat) + ((agF p 0x0C 1 + tap / agF p 3 1) * agF p 6 1 : Nat)
  let ix : Int := (ox * agF p 5 1 : Nat) - (agF p 0x0A 1 : Nat) + ((agF p 0x0D 1 + tap % agF p 3 1) * agF p 7 1 : Nat)
  if 0 ≤ iy ∧ iy < (agH p : Nat) ∧ 0 ≤ ix ∧ ix < (agWid p : Nat) then .at_ (agAddr p cb iy.toNat ix.toNat) e
  else .num (agPad p)

/-- A source coordinate of RESIZE in units of 2⁻¹⁶ (R213). -/
def rszPos (mode step o : Nat) : Nat :=
  if mode = 0 then o * step else (Int.fdiv (((2 * o + 1) * step : Nat) - (65536 : Int)) 2).toNat

/-- The two source lines and the fraction of an output line. -/
def rszLine (mode step o n : Nat) : Nat × Nat × Nat :=
  let q := rszPos mode step o
  let y0 := min (q / 65536) (n - 1)
  (y0, min (y0 + 1) (n - 1), if y0 = n - 1 then 0 else q % 65536)

/-- Element `e` of the `g`-th chunk of V bytes of the output of a gather (R206, R210, R212, R213). -/
def agElem (p g e : Nat) : AgEl :=
  let cb := agCb p
  let ncb := agNCB p
  match agKind p with
  | 0 =>
    let per := 64 / cb
    let m := g / per % 64
    let kc := (agF p 0x20 2 + g / (64 * per)) * per + g % per
    if agNP p ≤ m ∨ agF p 2 1 * agF p 3 1 * ncb ≤ kc then .num 0 else agTap p (agP0 p + m) (kc / ncb) (kc % ncb) e
  | 1 =>
    let per := agPlane p / agV p
    let i := g % per
    if agNP p * ncb ≤ i then .num 0 else agTap p (agP0 p + i / ncb) (g / per) (i % ncb) e
  | 2 =>
    let nb := agNCBo p
    let pix := agP0 p + g / nb
    let ch := g % nb * cb + e
    if agNP p ≤ g / nb ∨ agFac p * agFac p * agCin p ≤ ch then .num 0
    else
      let d := ch / agCin p
      let y := agFac p * (pix / agOW p) + d / agFac p
      let x := agFac p * (pix % agOW p) + d % agFac p
      if y < agH p ∧ x < agWid p then .at_ (agAddr p 0 y x) (ch % agCin p) else .num (agPad p)
  | _ =>
    let per := agPlane p / agV p
    let i := g % per
    let ln := fun (pix : Nat) => (rszLine (agF p 0x26 1) (agF p 0x28 4) (pix / agOW p) (agH p), rszLine (agF p 0x26 1) (agF p 0x2C 4) (pix % agOW p) (agWid p))
    if g < 4 * per then
      if agNP p * ncb ≤ i then .num 0
      else
        let l := ln (agP0 p + i / ncb)
        let y := if g / per < 2 then l.1.1 else l.1.2.1
        let x := if g / per % 2 = 0 then l.2.1 else l.2.2.1
        .at_ (agAddr p (i % ncb) y x) e
    else
      let bit := ((g - 4 * per) * cb + e) * agW p
      let px := bit / 32
      if agNP p ≤ px then .num 0
      else
        let l := ln (agP0 p + px)
        .num (bits (l.2.2.2 + l.1.2.2 * 2 ^ 16) (bit % 32) (agW p))

/-- The elements of output row i, 512 bytes (R207). -/
def agRow (p i : Nat) : List AgEl :=
  let n := 512 / agV p
  ((List.range n).map (fun q => (List.range (agCb p)).map (fun e => agElem p (i * n + q) e))).flatten

/-- The pixel vectors that output row i reads, each once (R207). -/
def agReads (p i : Nat) : List Nat :=
  ((agRow p i).filterMap (fun x => match x with | .at_ a _ => some a | .num _ => none)).eraseDups

/-- Output row i from the pixel vectors that were read. -/
def agData (p i : Nat) (vec : Nat → Nat) : Nat :=
  ((agRow p i).map (fun x => match x with | .num v => v | .at_ a c => bits (vec a) (c * agW p) (agW p))).foldr (fun v acc => v % 2 ^ agW p + acc * 2 ^ agW p) 0

/-- Pixels of a C2S program whose last byte lies in scratchpad row i. -/
def agPixels (p i : Nat) : List Nat :=
  let b := agNCBo p * agV p
  (List.range (512 / b + 2)).filterMap (fun d =>
    let px := 512 * i / b + d
    if px < agNP p ∧ 512 * i < (px + 1) * b ∧ (px + 1) * b ≤ 512 * (i + 1) then some px else none)

/-- The device pixel vectors that row i of a C2S program writes: address and V bytes (R211). `two` holds the row before
in its upper half and row i in its lower half. -/
def agWrites (p i two : Nat) : List (Nat × Nat) :=
  let b := agNCBo p * agV p
  let w := agW p
  ((agPixels p i).map (fun px =>
    let start : Int := (px * b : Nat) - (512 * i : Nat)
    let chan := fun (c : Nat) =>
      let bit : Int := 8 * start + (c * w : Nat)
      if 0 ≤ bit then bits two bit.toNat w else bits two (8192 + bit).toNat w
    let pix := agP0 p + px
    (List.range (agFac p * agFac p)).filterMap (fun d =>
      let y := agFac p * (pix / agOW p) + d / agFac p
      let x := agFac p * (pix % agOW p) + d % agFac p
      if y < agH p ∧ x < agWid p then
        some (agAddr p 0 y x, ((List.range (agCb p)).map (fun c => if c < agCin p then chan (d * agCin p + c) else agPad p)).foldr (fun v acc => v % 2 ^ w + acc * 2 ^ w) 0)
      else none))).flatten

end Sys2Proof.Machine
end

