-- ==== Sys2Proof/Machine/Seg.lean ====
section
/-! DEFINITION. The segments of a transfer: which bytes each reads and writes, how their addresses are translated, and how
they read and write DRAM, hub memory and a core's own scratchpad (R224, R237, R273, R275). -/

namespace Sys2Proof.Machine

/-! ### The bytes of a segment (R273) -/

def Side.isPad : Side → Bool
  | .spad _ _ => true
  | _ => false

/-- The transfer has a scratchpad side. -/
def Xfer.hasPad (v : Xfer) : Bool := v.src.isPad || v.dst.isPad

/-- The program of an address generator (R203). -/
def Xfer.prog (v : Xfer) : Option Nat := v.ag.map (· % 2 ^ 4096)

/-- Offset and length of segment k in its transfer. -/
def Xfer.segAt (v : Xfer) (k : Nat) : Nat × Nat :=
  if v.hasPad then (512 * k, min 512 (v.len - 512 * k))
  else match v.dst with
    | .dev da =>
      let first := min v.len (512 - da % 512)
      if k = 0 then (0, first) else (first + 512 * (k - 1), min 512 (v.len - (first + 512 * (k - 1))))
    | _ => (0, 0)

/-- A run of bytes cut where it crosses a page. -/
def splitPage (da n : Nat) : List (Nat × Nat) :=
  let n1 := 2 ^ 16 - da % 2 ^ 16
  if n ≤ n1 then [(da, n)] else [(da, n1), (da + n1, n - n1)]

/-- The device addresses segment k reads, each with its length, cut at page ends: the pixel vectors of a gather's row
(R207), or the run of a plain source. -/
def Xfer.reads (v : Xfer) (k : Nat) : List (Nat × Nat) :=
  match v.src, v.prog with
  | .dev _, some p => ((agReads p k).map (fun a => splitPage a (agV p))).flatten
  | .dev da, none => let g := v.segAt k; splitPage (da + g.1) g.2
  | _, _ => []

/-- The device bytes segment k writes: address, length, data. -/
def Xfer.writes (v : Xfer) (k data : Nat) : List (Nat × Nat × Nat) :=
  match v.dst, v.prog with
  | .dev _, some p => ((agWrites p k data).map (fun w => (w.1, agV p, w.2)))
  | .dev da, none =>
    let g := v.segAt k
    match splitPage (da + g.1) g.2 with
    | [(a, n), (b, m)] => [(a, n, data % 2 ^ (8 * n)), (b, m, data / 2 ^ (8 * n) % 2 ^ (8 * m))]
    | l => l.map (fun w => (w.1, w.2, data % 2 ^ (8 * w.2)))
  | _, _ => []

/-! ### Translation of a segment -/

/-- The core whose port executes the transfer. -/
def Xfer.portCore (v : Xfer) : Option Nat := (xferCores v).head?

/-- A device address as the executor of a transfer sees it. -/
def State.look (s : State) (v : Xfer) (da : Nat) (write : Bool) : TRes := s.translate v.die v.ctx da write v.portCore

/-- The first address of a list whose translation does not lead to memory, in the order of the list. -/
def State.firstBad (s : State) (v : Xfer) (write : Bool) (l : List Nat) : Option (Nat × TRes) :=
  l.findSome? (fun a => match s.look v a write with
    | .fault c b => some (a, .fault c b)
    | .mig p o => some (a, .mig p o)
    | .peer o => some (a, .peer o)
    | _ => none)

/-- The agent number of R255 of a transfer's executor, and whether it is an agent of the die. -/
def Xfer.agent (v : Xfer) : Nat × Bool := match v.portCore with
  | some c => (c, false)
  | none => (v.place - 1, true)

/-- Bytes at an offset of a core's scratchpad (R42). -/
def State.padGet (s : State) (c off n : Nat) : Nat := bits ((s.spadRow c (off / 512)).toNat + (s.spadRow c (off / 512 + 1)).toNat * 2 ^ 4096) (8 * (off % 512)) (8 * n)

/-- Bytes written into one row of a core's scratchpad. -/
def padPut (c off n data : Nat) : Act :=
  .get fun s => putRow c (off / 512) (rowPut (s.spadRow c (off / 512)) (8 * (off % 512)) (8 * min n (512 - off % 512)) data)

/-- DRAM bytes in which a unit with an uncorrectable error reads as 64 zero bytes (R237). -/
def State.dramZero (s : State) (pa : Nat) : Nat → Nat
  | 0 => 0
  | n + 1 => (if mget 0 s.die.errs (pa / 64) = 2 then 0 else s.dramByte pa) + 256 * State.dramZero s (pa + 1) n

/-- The bytes at a device address of a transfer. -/
def State.devBytes (s : State) (v : Xfer) (da n : Nat) : Nat :=
  match s.look v da false with
  | .dram pa _ _ => s.dramZero pa n
  | .hub o => memRead s.hubMem o n
  | .spad c o => s.padGet c o n
  | _ => 0

/-- A run ends in a unit with an uncorrectable error: 0 no, 1 in a page software maps, 2 in a resident bulk page. -/
def State.badKind (s : State) (v : Xfer) (da n : Nat) : Nat :=
  match s.look v da false with
  | .dram pa _ e => if (s.badUnit pa n).isNone then 0 else if bits e 0 2 = 3 then 2 else 1
  | _ => 0

/-- The data of segment k, from the bytes its reads give. -/
def State.segData (s : State) (v : Xfer) (k : Nat) : Nat :=
  match v.src, v.prog with
  | .dev _, some p => agData p k (fun a => s.devBytes v a (agV p))
  | .dev _, none => (v.reads k).foldr (fun r acc => s.devBytes v r.1 r.2 + acc * 2 ^ (8 * r.2)) 0
  | .fill w, _ => (List.range 64).foldl (fun acc i => acc + w % 2 ^ 64 * 2 ^ (64 * i)) 0 % 2 ^ (8 * (v.segAt k).2)
  | _, _ => 0

/-! ### Segments in a transfer -/

def updSeg (x k : Nat) (f : Seg → Seg) : Act :=
  updXfer x fun v => { v with segs := v.segs.map (fun g => if g.k = k then f g else g) }

def State.seg (s : State) (x k : Nat) : Option Seg := match s.xfer x with
  | some v => v.segs.find? (fun g => decide (g.k = k))
  | none => none

/-- Segment k has ended (R275). -/
def endSeg (x k : Nat) : Act := updSeg x k fun g => { g with st := .ended }

/-- The transfer is to end with a status once what it issued has ended: the first status stands. -/
def failXfer (x st : Nat) : Act := updXfer x fun v => { v with fin := some (v.fin.getD st) }

/-- A segment fails: the segment ends, and its transfer ends with a status. -/
def failSeg (x k st : Nat) : Act := many [endSeg x k, failXfer x st, settleXfer x]

/-- The ended segments at the front of the transfer leave it, up to a poisoned one, which lies beyond the prefix that BYTES counts; a transfer
all of whose segments have ended ends (R275, R279, R280). -/
def segPrefix (done : Nat) : Nat → List Seg → Nat
  | 0, _ => done
  | n + 1, l => if l.any (fun g => decide (g.k = done) && decide (g.st = .ended) && !g.bad) then segPrefix (done + 1) n l else done

def advanceXfer (x : Nat) : Act :=
  many [
    updXfer x (fun v =>
      let d := segPrefix v.done v.segs.length v.segs
      { v with done := d, segs := v.segs.filter (fun g => decide (d ≤ g.k)) }),
    .get fun s => withA (s.xfer x) fun v =>
      if v.fin.isSome then settleXfer x else whenA (decide (v.done = v.segCount)) (endXfer x 0) ]

/-- What a read of a run does beside delivering its bytes. A bad unit of a resident bulk page sends the reader to a new
migration. -/
def readRun (v : Xfer) (da n : Nat) : Act :=
  .get fun s =>
    let t := s.look v da false
    match t with
    | .dram pa _ _ => many [noteWalk v.die v.ctx da t, readErrs pa n false v.ctx]
    | _ => .nop

/-- A run written: DRAM, hub memory, the executor's own scratchpad. -/
def writeRun (v : Xfer) (da n data : Nat) : Act :=
  .get fun s =>
    let t := s.look v da true
    match t with
    | .dram pa _ _ => many [noteWalk v.die v.ctx da t, dramStore pa n data v.ctx]
    | .hub o => .put (.hubMem o n data)
    | .spad c o => padPut c o n data
    | _ => .nop

/-- A partial write meets a unit with an uncorrectable error (R237). -/
def State.writePoison (s : State) (v : Xfer) (da n : Nat) : Bool :=
  match s.look v da true with
  | .dram pa _ _ => (unitsOf pa n).any (fun u => decide (mget 0 s.die.errs u = 2) && (decide (64 * u < pa) || decide (pa + n < 64 * u + 64)))
  | _ => false

/-! ### Activates and neighbour refresh (R245) -/

/-- The channel address of a physical address (R222). -/
def State.chanAddr (s : State) (pa : Nat) : Nat :=
  match s.grp pa with
  | none => 0
  | some n =>
    let d := paDie pa
    let g := 2 ^ (s.reg R.DMC_GROUP_GRAIN d n + 8)
    let o := paOff pa - (s.grpRange d n).1
    o / ((maskBits (s.reg R.DMC_GROUP_CHMASK d n)).length * g) * g + o % g

/-- An activate of the row that holds a physical address: refreshes that wait for its bank are issued first; the draw of
the channel's generator decides whether the neighbours are queued; of more than 8 the oldest are issued. -/
def activate (pa : Nat) : Act :=
  .get fun s =>
    let d := paDie pa
    if (s.grp pa).isNone || !s.bit R.DMC_NBR_ENABLE d then .nop
    else
      let c := 16 * d + s.chanOf pa
      let b := Config.dramBank (s.chanAddr pa)
      let r := Config.dramRow (s.chanAddr pa)
      let near := [r - 1, r + 1] ++ (if s.bit R.DMC_NBR_RADIUS2 d then [r - 2, r + 2] else [])
      freshV fun v => .put (.die fun x =>
        let q := (mget [] x.nbrQ c).filter (fun e => decide (e / 2 ^ 32 ≠ b)) ++
          (if v % 2 ^ (s.reg R.DMC_NBR_K_M6 d + 6) = 0 then near.map (fun y => b * 2 ^ 32 + y) else [])
        { x with activates := mset 0 x.activates c (mget 0 x.activates c + 1), nbrQ := mset [] x.nbrQ c (q.drop (q.length - 8)) })

/-- A run lies in a group that is being cleared: every access to it waits (R243). -/
def State.scrubbing (s : State) (v : Xfer) (da : Nat) (write : Bool) : Bool :=
  match s.look v da write with
  | .dram pa _ _ => (match s.grp pa with
    | some n => s.bit R.DMC_GROUP_SCRUB (paDie pa) n
    | none => false)
  | _ => false

end Sys2Proof.Machine
end

