-- ==== Sys2Proof/Machine/Migrate.lean ====
section
/-! DEFINITION. Migration of bulk pages into DRAM frames (R230–R236). -/

namespace Sys2Proof.Machine

/-- Migration i of a die. -/
def State.mig (s : State) (d i : Nat) : Option Mig := mget none s.die.migs (16 * d + i)
def setMig (d i : Nat) (m : Option Mig) : Act := .put (.die fun x => { x with migs := mset none x.migs (16 * d + i) m })

/-- A migration of the page at `pte` runs on some die, or waits for a free engine. -/
def State.migWaits (s : State) (pte : Nat) : Bool :=
  s.die.migs.any (fun e => match e.2 with | some m => decide (m.pte = pte) | none => false) || s.die.migQ.any (fun e => decide (e.2.pte = pte))

/-- The place of entry i of the frame table of partition p on a die (R233). -/
def State.frameAt (s : State) (d p i : Nat) : Nat := s.reg R.XLT_MIG_BASE_PA d p * 2 ^ 12 + 16 * i

/-- Word 0 and word 1 of a frame-table entry. -/
def State.frameW (s : State) (d p i w : Nat) : Nat := s.dramGet (s.frameAt d p i + 8 * w) 8

/-- STATE of a frame-table entry takes a value. -/
def setFrameState (d p i v : Nat) : Act := .get fun s => dramPut (s.frameAt d p i) 8 (setBits (s.frameW d p i 0) 0 2 v)

/-- A read has met uncorrectable errors in the frame of a resident bulk page: they are counted, logged and the frame retired, and the page's
level-2 entry goes back to KIND 0b10 (R237). -/
def bulkBad (pa n ctx pte : Nat) : Act :=
  many [
    readErrs pa n false ctx,
    .get fun s => whenA (decide (bits (s.dramGet pte 8) 0 2 = 3)) (dramPut pte 8 (setBits (setBits (s.dramGet pte 8) 0 5 2) 8 23 0)),
    dropTlb pte ]

/-- A table entry takes a value where it still holds another (compare-and-swap). -/
def casPte (pte old new : Nat) : Act := .get fun s => whenA (decide (s.dramGet pte 8 = old)) (dramPut pte 8 new)

/-- The frame of an entry lies on its die, in the partition's groups, and is not retired (R223, R233, R240). -/
def State.frameOk (s : State) (d p i : Nat) : Bool :=
  let pa := bits (s.frameW d p i 0) 16 23 * 2 ^ 16
  decide (paDie pa = d) && s.inPart pa p && !s.retired d (pa / 2 ^ 16)

/-- A resident entry that software has taken over (R235). -/
def State.takenOver (s : State) (d p i : Nat) : Bool :=
  let e := s.dramGet (s.frameW d p i 1) 8
  !(decide (bits e 0 2 = 3) && decide (bits e 8 23 = bits (s.frameW d p i 0) 16 23))

/-- REF of the page an entry serves. -/
def State.frameRef (s : State) (d p i : Nat) : Bool := bitOf (s.dramGet (s.frameW d p i 1) 8) 4

/-- The clock order from the hand, one turn. -/
def State.clockOrder (s : State) (d p : Nat) : List Nat :=
  let n := s.reg R.XLT_MIG_CFG_ENTRIES d p
  (List.range n).map (fun k => (s.reg R.XLT_MIG_CFG_HAND d p + k) % n)

/-- The resident entries in clock order. -/
def State.residents (s : State) (d p : Nat) : List Nat := (s.clockOrder d p).filter (fun i => decide (s.frameW d p i 0 % 4 = 2))

/-- The entry the clock rule evicts: the first in the first turn that is taken over or has REF 0, else, its REF cleared on
the way, the first resident one in the second turn. -/
def State.evictee (s : State) (d p : Nat) : Option Nat :=
  match (s.residents d p).find? (fun i => s.takenOver d p i || !s.frameRef d p i) with
  | some i => some i
  | none => (s.residents d p).head?

/-- REF is cleared on the entries the hand passes. -/
def clearRefs (d p : Nat) : Act :=
  .get fun s =>
    let l := s.residents d p
    forA (l.takeWhile (fun i => !s.takenOver d p i && s.frameRef d p i)) (fun i => .get fun s =>
      let pte := s.frameW d p i 1
      .seq (dramPut pte 8 (setBits (s.dramGet pte 8) 4 1 0)) (dropTlb pte))

/-- A frame is evicted: its level-2 entry becomes KIND 0b10 with FRAME 0, unless software has taken it over. -/
def evict (d p i : Nat) : Act :=
  .get fun s =>
    let pte := s.frameW d p i 1
    many [
      whenA (!s.takenOver d p i) (.get fun s => dramPut pte 8 (setBits (setBits (s.dramGet pte 8) 0 5 2) 8 23 0)),
      dropTlb pte, bump R.XLT_EVICT_COUNT 1 d,
      setR R.XLT_MIG_CFG_HAND ((i + 1) % s.reg R.XLT_MIG_CFG_ENTRIES d p) d p ]

/-- The read of segment k of a transfer waits for a page: the device address that met it. -/
def State.waitsAt (s : State) (v : Xfer) (k pte : Nat) : Option Nat :=
  match s.firstBad v false ((v.reads k).map Prod.fst) with
  | some (da, .mig p _) => if p = pte then some da else none
  | _ => none

/-- A fault of migration of a transfer is recorded (R255). -/
def noteMigFault (v : Xfer) (da cls : Nat) : Act := recordFault v.die v.ctx da cls none v.agent.1 false v.agent.2 false

/-- Transfers that wait for a page fail with a class (R233): a suspended one, and each segment whose read waits. -/
def failWaiters (pte cls : Nat) : Act :=
  .get fun s => forA (s.die.xfers.map Prod.fst) (fun x => .get fun s => withA (s.xfer x) fun v => many [
    forA (v.segs.filter (fun g => decide (g.st = .needRead) && decide (g.srcKind = 2))) (fun g => .get fun s => withA (s.waitsAt v g.k pte) fun da =>
      .seq (noteMigFault v da cls) (failSeg x g.k cls)),
    whenA (decide (v.susp = some pte)) (many [
      noteMigFault v ((s.waitsAt v v.k pte).getD 0) cls,
      updXfer x fun v => { v with susp := none, fin := some (v.fin.getD cls) }, settleXfer x]) ])

/-- The source is asked for the page (R231): memory reads of at most 512 bytes, or one NVMe Read command and its doorbell. -/
def askSource (d i src boff : Nat) : Act :=
  .get fun s =>
    if s.bit R.XLT_BULK_SRC_CFG_KIND d src then
      let lba := s.reg R.XLT_BULK_SRC_BASE_BASE d src + boff * (if s.bit R.XLT_BULK_SRC_CFG_LBA4K d src then 16 else 128)
      let depth := s.reg R.XLT_BULK_SRC_CFG_DEPTH_M1 d src + 1
      let tail := (mget 0 s.die.nvTail src + 1) % depth
      many [
        .put (.out (.nvmeRead src (16 * d + i) (s.reg R.XLT_BULK_SRC_NSID_NSID d src) lba)),
        .put (.die fun x => { x with nvTail := mset 0 x.nvTail src tail }),
        .put (.out (.nvmeDoorbell (s.reg R.XLT_BULK_SRC_DOORBELL_ADDR d src) tail)) ]
    else forA (List.range 128) (fun k => .put (.out (.hostRead (s.reg R.XLT_BULK_SRC_BASE_BASE d src + boff * 65536 + 512 * k) 512 (16 * d + i))))

/-- A frame for partition p: the first free entry whose frame is good, those before it with a bad frame retired; else an
eviction. `k` goes on with the entry's index. -/
def takeFrame (d p : Nat) (fail : Act) (k : Nat → Act) : Act :=
  .get fun s =>
    let n := s.reg R.XLT_MIG_CFG_ENTRIES d p
    let free := (List.range n).filter (fun i => decide (s.frameW d p i 0 % 4 = 0))
    let bad := free.takeWhile (fun i => !s.frameOk d p i)
    .seq (forA bad fun i => .seq (setFrameState d p i 3) (logEv d (srcXlt d) 3 0x12 (bits (s.frameW d p i 0) 16 23 * 2 ^ 16)))
      (match free.find? (fun i => s.frameOk d p i) with
       | some i => k i
       | none => match s.evictee d p with
         | some i => many [clearRefs d p, evict d p i, k i]
         | none => .seq (clearRefs d p) fail)

/-- A migration begins (R233). -/
def migStart (d ctx p pte : Nat) : Act :=
  .get fun s =>
    let old := s.dramGet pte 8
    if bits old 0 2 ≠ 2 ∨ bitOf old 3 = true then .nop
    else
      let busy := setBits old 3 1 1
      let noFrame := many [casPte pte busy old, bump R.XLT_MIG_FAIL_COUNT 1 d, failWaiters pte 8]
      match findUp (fun i => (s.mig d i).isNone) 0 16 with
      | none => .nop
      | some i => .seq (casPte pte old busy) (takeFrame d p noFrame fun e => .get fun s => many [
          dramPut (s.frameAt d p e) 8 (setBits (s.frameW d p e 0) 0 2 1), dramPut (s.frameAt d p e + 8) 8 pte,
          setMig d i (some ⟨pte, busy, p, e, bits (s.frameW d p e 0) 16 23, bits old 32 4, bits old 36 28, s.t, false, ctx, 0⟩),
          askSource d i (bits old 32 4) (bits old 36 28) ])

/-- The migration engine of a die serves faults. -/
def State.migOn (s : State) (d : Nat) : Bool := s.bit R.XLT_CTL_MIG_ENABLE d && s.bit R.XLT_CTL_SWEEP_DONE d

/-- An agent of a die has met a bulk page that is not resident (R233, R234): it waits for the migration that runs, a new
one begins, or the fault waits its turn. -/
def migFault (d ctx p pte : Nat) : Act :=
  .get fun s =>
    if s.migWaits pte || bitOf (s.dramGet pte 8) 3 then .nop
    else if s.reg R.XLT_MIG_CFG_ENTRIES d p = 0 then .seq (bump R.XLT_MIG_FAIL_COUNT 1 d) (failWaiters pte 8)
    else if s.migOn d && (findUp (fun i => (s.mig d i).isNone) 0 16).isSome then migStart d ctx p pte
    else .put (.die fun x => { x with migQ := x.migQ ++ [(d, ⟨pte, ctx, p⟩)] })

/-- The oldest waiting fault of a die is served (R233); those whose page is no longer to be migrated walk again. -/
def nextMig (d : Nat) : Act :=
  .get fun s =>
    if !s.migOn d then .nop
    else
      let due := fun (e : Nat × MigWait) => decide (bits (s.dramGet e.2.pte 8) 0 2 = 2) && !bitOf (s.dramGet e.2.pte 8) 3
      .seq (.put (.die fun x => { x with migQ := x.migQ.filter (fun e => decide (e.1 ≠ d) || due e) }))
        (.get fun s => withA (s.die.migQ.find? (fun e => decide (e.1 = d))) fun e =>
          .seq (.put (.die fun x => { x with migQ := x.migQ.erase e })) (migStart d e.2.ctx e.2.part e.2.pte))

/-- The frame-table entry of a migration is free again, unless its frame was retired meanwhile (R233, R240). -/
def freeFrame (d p i : Nat) : Act := .get fun s => whenA (decide (s.frameW d p i 0 % 4 = 1)) (setFrameState d p i 0)

/-- A migration fails: the entry is free again, BUSY is cleared, the waiters fail (R233). -/
def migFail (d i cls : Nat) : Act :=
  .get fun s => withA (s.mig d i) fun m => many [
    freeFrame d m.part m.idx, casPte m.pte m.old (setBits m.old 3 1 0), setMig d i none,
    bump R.XLT_MIG_FAIL_COUNT 1 d, failWaiters m.pte cls, nextMig d ]

/-- The frame of a migration is still its own, and its level-2 entry still as the engine left it (R233, R240). -/
def State.migWins (s : State) (d : Nat) (m : Mig) : Bool := decide (s.dramGet m.pte 8 = m.old) && decide (s.frameW d m.part m.idx 0 % 4 = 1)

/-- A migration ends: the frame holds the page, the level-2 entry is updated by compare-and-swap, and waiters walk
again. A frame retired during the copy is not used: only BUSY is cleared. -/
def migEnd (d i page : Nat) : Act :=
  .get fun s => withA (s.mig d i) fun m =>
    many [
      dramStore (m.frame * 2 ^ 16) 65536 page,
      if s.migWins d m then many [
        dramPut m.pte 8 (setBits (setBits (setBits m.old 0 5 0x13) 8 23 m.frame) 3 1 0),
        setFrameState d m.part m.idx 2, bump R.XLT_MIG_DONE_COUNT 1 d ]
      else .seq (freeFrame d m.part m.idx) (casPte m.pte m.old (setBits m.old 3 1 0)),
      setMig d i none, nextMig d ]

end Sys2Proof.Machine
end

