-- ==== Sys2Proof/Machine/StreamOps.lean ====
section
/-! DEFINITION. The frames of recurrent streams and the swaps between a frame and its committed copy (R184–R189). A swap is
one event: its rows move together. -/

namespace Sys2Proof.Machine

/-! ### Runs of device memory longer than a page -/

/-- The fault class with which a write of a run of bytes meets its first bad page. -/
def State.daPutFault (s : State) (d ctx da n : Nat) : Option Nat := (splitPage da n).findSome? (fun r => s.daWriteFault d ctx r.1 r.2)

/-- A run of at most two pages is written. -/
def daPut (d ctx da n v agent : Nat) (hub dieAgent : Bool) : Act :=
  match splitPage da n with
  | [(a, m), (b, k)] => .seq (daWrite d ctx a m (v % 2 ^ (8 * m)) agent hub dieAgent) (daWrite d ctx b k (v / 2 ^ (8 * m)) agent hub dieAgent)
  | _ => daWrite d ctx da n v agent hub dieAgent

/-! ### The stream table (R184) -/

def State.strBit (s : State) (f : Fld) (n : Nat) : Bool := s.bit f 0 n
def State.strLen (s : State) (n : Nat) : Nat := s.reg R.SEQ_STREAM_TABLE_LEN 0 n
def State.strPart (s : State) (n : Nat) : Nat := s.reg R.SEQ_STREAM_TABLE_PART 0 n
def State.strAddr (s : State) (n : Nat) : Nat := s.reg R.SEQ_STREAM_TABLE_STATE_ADDR 0 n

/-- The context in which a stream's committed copy is reached: its partition's batch context (R295). -/
def State.strCtx (s : State) (n : Nat) : Nat := s.reg R.SEQ_BATCH_CFG_CTX 0 (s.strPart n)

/-- The stream is in a frame of core `c`. -/
def State.strOn (s : State) (n c : Nat) : Bool := s.strBit R.SEQ_STREAM_TABLE_RESIDENT n && decide (s.reg R.SEQ_STREAM_TABLE_CORE 0 n = c)

/-- The streams resident on a core, ascending: those whose RESIDENT bit is set. -/
def State.strsOn (s : State) (c : Nat) : List Nat :=
  ((s.regs.filter (fun e => decide (keyId e.1 = R.SEQ_STREAM_TABLE_RESIDENT.id) && decide (e.2 = 1))).map (fun e => keyJ e.1)).filter
    (fun n => decide (s.reg R.SEQ_STREAM_TABLE_CORE 0 n = c))

/-! ### Frames (R185) -/

/-- The first row of frame f of a core. -/
def State.frameRow (s : State) (c f : Nat) : Nat := s.reg R.CORE_STREAM_REGION_BASE_ROW c + f * s.reg R.CORE_STREAM_REGION_FRAME_ROWS c

/-- The state of a resident stream: its rows as bytes. -/
def State.frameBytes (s : State) (n : Nat) : Nat :=
  let c := s.reg R.SEQ_STREAM_TABLE_CORE 0 n
  let r0 := s.frameRow c (s.reg R.SEQ_STREAM_TABLE_FRAME 0 n)
  (List.range (s.strLen n)).foldr (fun i acc => (s.spadRow c (r0 + i)).toNat + acc * 2 ^ 4096) 0

/-- Rows of a frame take a state. -/
def putFrame (c f len v : Nat) : Act :=
  .get fun s => forA (List.range len) (fun i => putRow c (s.frameRow c f + i) (BitVec.ofNat 4096 (v / 2 ^ (4096 * i))))

/-- Frames of a core that hold no stream. -/
def State.freeFrames (s : State) (c : Nat) : List Nat :=
  let used := (s.strsOn c).map (fun n => s.reg R.SEQ_STREAM_TABLE_FRAME 0 n)
  (List.range (s.reg R.CORE_STREAM_REGION_FRAMES_M1 c + 1)).filter (fun f => !used.contains f)

/-! ### Swaps (R186, R187) -/

/-- The frame of a stream is written to its committed copy through the core's DMA port; a failed transfer sets ERR. -/
def writeBack (n : Nat) : Act :=
  .get fun s =>
    let c := s.reg R.SEQ_STREAM_TABLE_CORE 0 n
    let d := dieOf c
    let len := 512 * s.strLen n
    .seq (daPut d (s.strCtx n) (s.strAddr n) len (s.frameBytes n) c false false)
      (setR (if (s.daPutFault d (s.strCtx n) (s.strAddr n) len).isSome then R.SEQ_STREAM_TABLE_ERR else R.SEQ_STREAM_TABLE_DIRTY)
        (b2n (s.daPutFault d (s.strCtx n) (s.strAddr n) len).isSome) 0 n)

/-- A stream leaves its frame: written back where DIRTY is 1; it stays where the transfer fails. -/
def swapOut (n : Nat) : Act :=
  .seq (.get fun s => whenA (s.strBit R.SEQ_STREAM_TABLE_DIRTY n) (writeBack n))
    (.get fun s => whenA (!s.strBit R.SEQ_STREAM_TABLE_ERR n) (setR R.SEQ_STREAM_TABLE_RESIDENT 0 0 n))

/-- A stream that is to start from zero state starts from it in frame f. -/
def zeroFrame (n c f : Nat) : Act :=
  .get fun s => many [
    putFrame c f (s.strLen n) 0, setR R.SEQ_STREAM_TABLE_RESET 0 0 n, setR R.SEQ_STREAM_TABLE_CLAUSE_COUNT 0 0 n,
    setR R.SEQ_STREAM_TABLE_DIRTY 1 0 n,
    .put (.sch fun d => { d with zeroed := mset false d.zeroed n true }) ]

/-- A stream comes into frame f of core c: zero where RESET is 1, else its committed copy; a failed transfer sets ERR. -/
def swapIn (n c f : Nat) : Act :=
  .get fun s =>
    let d := dieOf c
    let len := 512 * s.strLen n
    let come := many [setR R.SEQ_STREAM_TABLE_CORE c 0 n, setR R.SEQ_STREAM_TABLE_FRAME f 0 n, setR R.SEQ_STREAM_TABLE_RESIDENT 1 0 n]
    if s.strBit R.SEQ_STREAM_TABLE_RESET n then .seq come (zeroFrame n c f)
    else .seq (readAct d (s.strCtx n) (s.strAddr n) len c false false)
      (match s.daRead d (s.strCtx n) (s.strAddr n) len with
       | .bad _ => setR R.SEQ_STREAM_TABLE_ERR 1 0 n
       | .ok v => many [come, setR R.SEQ_STREAM_TABLE_DIRTY 0 0 n, putFrame c f (s.strLen n) v])

/-- The stream whose frame is reused next: of those resident on the core and not pinned, the one with the oldest LAST_STEP,
the lower number on ties (R187). -/
def State.victim (s : State) (c : Nat) : Option Nat :=
  ((s.strsOn c).filter (fun n => !s.strBit R.SEQ_STREAM_TABLE_PINNED n && !s.strBit R.SEQ_STREAM_TABLE_ERR n)).foldl (fun b n => match b with
    | none => some n
    | some x => if s.reg R.SEQ_STREAM_TABLE_LAST_STEP 0 n < s.reg R.SEQ_STREAM_TABLE_LAST_STEP 0 x then some n else some x) none

/-- A stream takes a free frame of a core, which one the spec leaves open; where there is none the victim leaves first. -/
def bindFrame (n c : Nat) : Act :=
  .seq (.get fun s => whenA (s.freeFrames c).isEmpty (withA (s.victim c) swapOut))
    (.get fun s => match s.freeFrames c with
      | [] => .nop
      | l => freshV fun v => swapIn n c (l.getD (v % l.length) 0))

/-! ### Binding (R186) -/

/-- Why a stream keeps a clause of partition `p` from starting on core `c`: STREAM_FIT, STREAM_INVALID or STREAM_ERROR. -/
def State.strFail (s : State) (p c n : Nat) : Option Nat :=
  if s.reg R.CORE_STREAM_REGION_FRAME_ROWS c < s.strLen n then some 0x22
  else if !s.strBit R.SEQ_STREAM_TABLE_VALID n || decide (s.strPart n ≠ p) ||
    (match s.sch.xport with | some x => x.isImport && decide (x.stream = n) | none => false) then some 0x23
  else if s.strBit R.SEQ_STREAM_TABLE_ERR n then some 0x24
  else none

/-- Clauses that list a stream. -/
def State.listers (s : State) (n : Nat) : List (Nat × ClauseS) :=
  s.sch.clauses.filterMap (fun e => match e.2 with
    | some k => if k.streams.contains n then some (e.1, k) else none
    | none => none)

/-- A clause that has not started. -/
def ClauseS.unstarted (k : ClauseS) : Bool := decide (k.st = .waiting) || decide (k.st = .chosen) || decide (k.st = .loading)

/-- One listed stream comes closer to the core of the first clause that lists it and has not started. -/
def bindStream (n : Nat) : Act :=
  .get fun s => withA ((s.listers n).find? (fun e => e.2.unstarted)) fun e =>
    let c := e.2.core
    if (s.strFail e.2.part c n).isSome then .nop
    else if s.strOn n c then
      whenA (s.strBit R.SEQ_STREAM_TABLE_RESET n && (s.listers n).all (fun x => x.2.unstarted)) (zeroFrame n c (s.reg R.SEQ_STREAM_TABLE_FRAME 0 n))
    else if s.strBit R.SEQ_STREAM_TABLE_RESIDENT n then
      whenA ((s.listers n).all (fun x => decide (x.2.core ≠ s.reg R.SEQ_STREAM_TABLE_CORE 0 n))) (.seq (swapOut n)
        (.get fun s => whenA (!s.strBit R.SEQ_STREAM_TABLE_RESIDENT n) (bindFrame n c)))
    else bindFrame n c

/-- Every stream a clause lists is ready on its core. -/
def State.strReady (s : State) (k : ClauseS) : Bool := k.streams.all (fun n => s.strOn n k.core && !s.strBit R.SEQ_STREAM_TABLE_RESET n)

end Sys2Proof.Machine
end

