-- ==== Sys2Proof/Machine/Sched.lean ====
section
/-! DEFINITION. Clauses: their descriptors, the choice of the next one, their start and clean end, aging, and mid-clause
pre-emption (R88, R294–R318, R331–R335). -/

namespace Sys2Proof.Machine

/-! ### Partitions and cores -/

/-- The cores of a partition, ascending. -/
def State.partCores (s : State) (p : Nat) : List Nat := (List.range 64).filter (fun c => decide (s.corePart c = some p))

/-- Clauses with their numbers. -/
def State.clauseList (s : State) : List (Nat × ClauseS) := s.sch.clauses.filterMap (fun e => e.2.map (fun k => (e.1, k)))

/-! ### Clause descriptors (R296–R298) -/

/-- Bytes 0x18–0x1F of the record of a clause descriptor that never ran (R300). -/
def bareExtra (raw : Nat) : Nat := 0xFF00 + bits raw 32 16 * 2 ^ 48

/-- The descriptor's own fields (R296). -/
def clauseFieldsOk (raw : Nat) : Bool :=
  decide (bits raw 12 4 = 0) && decide (bits raw 18 2 ≠ 3) && !bitOf raw 23 && decide (bits raw 30 2 = 0) &&
  (!bitOf raw 11 || decide (bits raw 24 6 = 0))

/-- A NOP or BARRIER of a clause queue has only OP, FLAGS [1:0] and TAG. -/
def clausePlainOk (raw : Nat) : Bool := decide (bits raw 10 22 = 0) && decide (bits raw 48 976 = 0)

/-- The program table's place. -/
def State.progPa (s : State) (p e : Nat) : Nat := s.reg R.SEQ_PROG_BASE_PA 0 p * 2 ^ 12 + 64 * e

/-- No part of the table lies in a group of another partition (R297). -/
def State.progPlace (s : State) (p : Nat) : Bool :=
  (List.range (s.reg R.SEQ_PROG_CFG_ENTRIES 0 p)).all (fun e => (s.grp (s.progPa p e)).isNone || s.tableOk (s.progPa p e) p)

/-- The fields of a program entry (R297). -/
def progOk (e : Nat) : Bool :=
  let code := bits e 0 64
  let rows := bits e 64 16
  decide (code % 512 = 0) && (if code = 0 then decide (rows = 0) else decide (1 ≤ rows) && decide (rows ≤ 64)) &&
  decide (bits e 80 16 + rows ≤ 8192) && decide (bits e 96 32 % 8 = 0) && decide (bits e 96 32 < 0x400000) &&
  decide (bits e 192 8 = 1) && decide (bits e 200 312 = 0)

/-- An event semaphore of the partition (R265). -/
def State.semOk (s : State) (h p : Nat) : Bool :=
  decide (h < 2 ^ 14) && decide (s.smf R.QUE_SEM_W0_VALID h = 1) && decide (s.smf R.QUE_SEM_W0_KIND h = 1) && decide (s.smf R.QUE_SEM_W0_PART h = p)

/-- What the checks of R298 find, in their order: a status, or the program entry. -/
def State.clauseCheck (s : State) (q raw : Nat) : Nat ⊕ Nat :=
  let p := s.qf R.QUE_QCFG_PART q
  let prog := bits raw 48 16
  let pa := s.progPa p prog
  let home := (s.partCores p).filter (fun c => decide (dieOf c = q / 8192))
  if !clauseFieldsOk raw then .inl stDescFormat
  else if (if bitOf raw 11 then home.isEmpty else decide (s.corePart (bits raw 24 6) ≠ some p)) then .inl 3
  else if s.reg R.SEQ_PROG_CFG_ENTRIES 0 p ≤ prog then .inl stDescFormat
  else if !s.progPlace p then .inl 3
  else if (s.grp pa).isNone || (s.badUnit pa 64).isSome then .inl 5
  else
    let e := s.dramGet pa 64
    if !progOk e then .inl stDescFormat
    else if bitOf raw 10 && !s.semOk (bits e 160 32) p then .inl stDescFormat
    else .inr e

/-- The core a clause with ANY is bound to: of the partition's cores on the home die the one with the fewest clauses, the
lowest on ties. -/
def State.anyCore (s : State) (p d : Nat) : Nat :=
  let load := fun c => (s.clauseList.filter (fun k => decide (k.2.core = c))).length
  (((s.partCores p).filter (fun c => decide (dieOf c = d))).foldl (fun b c => match b with
    | none => some c
    | some x => if load c < load x then some c else some x) none).getD 0

/-- The clause a descriptor makes. -/
def State.mkClause (s : State) (q : Nat) (d : DescS) (e : Nat) : ClauseS :=
  let p := s.qf R.QUE_QCFG_PART q
  let core := if bitOf d.raw 11 then s.anyCore p (q / 8192) else bits d.raw 24 6
  let allow := bits e 128 32
  { part := p, ctx := s.qf R.QUE_QCFG_CTX q, queue := q, n := d.n, tag := bits d.raw 32 16, core := core,
    dclass := bits d.raw 16 2, bclass := bits d.raw 16 2, eclass := bits d.raw 16 2, accept := d.accept,
    ord := bitOf d.raw 9, sig := bitOf d.raw 10, allow := allow, deadline := if allow = 0 then none else some (d.accept + allow),
    policy := bits d.raw 18 2, replays := bits d.raw 20 3, runs := 0, miss := false,
    args := (List.range 15).map (fun i => bits d.raw (64 + 64 * i) 64), code := bits e 0 64, rows := bits e 64 16,
    row := bits e 80 16, entry := bits e 96 32, sem := bits e 160 32, st := .waiting, waitBase := s.coreTick core,
    slot := 0, susAt := 0, seqs := [], streams := [], plan := 0, ran := false, first := false }

/-- The descriptor's SIG names the semaphore of its program entry. -/
def setSem (q n sem : Nat) : Act :=
  updQueue q fun k => { k with fetched := k.fetched.map (fun d => if d.n = n then { d with sem := sem } else d) }

/-- The oldest descriptor of a clause queue, of an operation code, that has not been looked at. -/
def onClauseQ (q op : Nat) (f : DescS → Act) : Act :=
  .get fun s => whenA (decide (s.qf R.QUE_QCFG_KIND q = 1))
    (withA ((s.queue q).fetched.find? (fun d => !d.started && d.endSt.isNone && decide (d.raw % 256 = op))) f)

/-- CLAUSE_DESC: the oldest unchecked CLAUSE descriptor is checked and bound. Nothing is bound on a die that enters Coast or
Retain (R450), nor for a context that is killed (R497). -/
def execClauseDesc (die : BitVec 2) (q : BitVec 13) :=
  let n := qNum die q
  does (onClauseQ n 1 fun d => .get fun s =>
    let p := s.qf R.QUE_QCFG_PART n
    let pa := s.progPa p (bits d.raw 48 16)
    match s.clauseCheck n d.raw with
    | .inl st => many [
        markStarted n d.n,
        whenA (decide (st = 5) && (s.grp pa).isSome) (readErrs pa 64 true (s.qf R.QUE_QCFG_CTX n)),
        endDesc n d.n st die.toNat (bareExtra d.raw) ]
    | .inr e =>
      let k := s.mkClause n d e
      if s.inReset 2 (dieOf k.core) || (s.entering (dieOf k.core)).isSome || s.killing k.ctx then .nop
      else many [
        readErrs pa 64 true k.ctx, markStarted n d.n, setSem n d.n (if k.sig then k.sem else 0), bindClause k ])

/-- CLAUSE_NOP: completes as soon as it is fetched, unless it has ORDER (R266). -/
def execClauseNop (die : BitVec 2) (q : BitVec 13) :=
  let n := qNum die q
  does (onClauseQ n 0 fun d => .get fun s =>
    if clausePlainOk d.raw && bitOf d.raw 9 && !(s.queue n).first d.n then .nop
    else .seq (markStarted n d.n) (endDesc n d.n (if clausePlainOk d.raw then stOK else stDescFormat) die.toNat (bareExtra d.raw)))

/-- CLAUSE_BARRIER: completes as soon as every earlier descriptor has completed. -/
def execClauseBarrier (die : BitVec 2) (q : BitVec 13) :=
  let n := qNum die q
  does (onClauseQ n 3 fun d => .get fun s =>
    if clausePlainOk d.raw && !(s.queue n).first d.n then .nop
    else .seq (markStarted n d.n) (endDesc n d.n (if clausePlainOk d.raw then stOK else stDescFormat) die.toNat (bareExtra d.raw)))

/-! ### Readiness and choice (R301, R302) -/

/-- Descriptors fetched before descriptor `n`. -/
def QueS.before (k : QueS) (n : Nat) : List DescS := k.fetched.takeWhile (fun d => decide (d.n ≠ n))

/-- The clause has been fetched and R266 lets it start: with ORDER every earlier descriptor has completed; otherwise no
earlier descriptor waits for that itself. -/
def State.clauseReady (s : State) (k : ClauseS) : Bool :=
  decide (k.st = .waiting) &&
  (if k.queue = 32768 then true
   else
    let b := (s.queue k.queue).before k.n
    if k.ord then b.isEmpty else (b.drop 1).all (fun d => !bitOf d.raw 9 && decide (d.raw % 256 ≠ 3)) &&
      (match b with | d :: _ => decide (d.raw % 256 ≠ 3) | [] => true))

/-- A suspended clause that is not being probed. -/
def ClauseS.sus (k : ClauseS) : Bool := decide (k.st = .suspended)

/-- `a` is older than `b`: earlier accept stamp, then lower queue, then lower descriptor. -/
def ClauseS.older (a b : ClauseS) : Bool :=
  decide (a.accept < b.accept) || (decide (a.accept = b.accept) && (decide (a.queue < b.queue) || (decide (a.queue = b.queue) && decide (a.n < b.n))))

/-- The best of a list under a strict order. -/
def bestBy {α : Type} (lt : α → α → Bool) (l : List α) : Option α :=
  l.foldl (fun b x => match b with | none => some x | some y => if lt x y then some x else some y) none

def oldestOf (l : List (Nat × ClauseS)) : Option (Nat × ClauseS) := bestBy (fun a b => a.2.older b.2) l

/-- What the choice of R301 answers for a core: the clause, and the context whose slice begins where one does. -/
def State.choose (s : State) (c : Nat) : Option (Nat × ClauseS × Option Nat) :=
  let mine := s.clauseList.filter (fun k => decide (k.2.core = c) && !s.killing k.2.ctx)
  let sus := mine.filter (fun k => k.2.sus)
  let rdy := mine.filter (fun k => s.clauseReady k.2)
  match rdy.find? (fun k => k.2.first) with
  | some k => some (k.1, k.2, none)
  | none =>
    let top := (sus ++ rdy).foldl (fun m k => max m k.2.eclass) 0
    let susTop := sus.filter (fun k => decide (k.2.eclass = top))
    let rdyTop := rdy.filter (fun k => decide (k.2.eclass = top))
    match bestBy (fun a b => decide (b.2.susAt < a.2.susAt)) susTop with
    | some k => some (k.1, k.2, none)
    | none =>
      if top = 3 then (oldestOf rdyTop).map (fun k => (k.1, k.2, none))
      else
        let sl := mget SlotS.none s.sch.slots c
        let cur := rdyTop.filter (fun k => decide (k.2.ctx = sl.ctx))
        if !cur.isEmpty && decide (sl.slice < s.reg R.SEQ_SCHED_SLICE 0 ((s.corePart c).getD 0)) then
          (oldestOf cur).map (fun k => (k.1, k.2, none))
        else
          let ctxs := (List.range 4096).filter (fun x => rdyTop.any (fun k => decide (k.2.ctx = x)))
          match nextWrap ctxs sl.ctx with
          | none => none
          | some x => (oldestOf (rdyTop.filter (fun k => decide (k.2.ctx = x)))).map (fun k => (k.1, k.2, some x))

/-- A clause has the core: chosen, loading, running, saved or restored. -/
def State.coreTaken (s : State) (c : Nat) : Bool :=
  (s.core c).inClause || s.clauseList.any (fun k => decide (k.2.core = c) && decide (k.2.st ≠ .waiting) && decide (k.2.st ≠ .suspended))

/-- The engines of a core have ended what an ended clause left (R117). -/
def State.drained (s : State) (c : Nat) : Bool := (s.core c).mq.isEmpty && (s.core c).vq.isEmpty && (s.core c).cq.isEmpty

/-- The held part of the throttle's period of a die (R458): the first L · 62.5 µs of every 1 ms of its cadence counter. -/
def State.throttled (s : State) (d : Nat) : Bool := decide (s.count d % 500000 < s.reg R.PWR_CAP_STATUS_LEVEL * 31250)

/-- No other clause is chosen for a core in recovery (R474). -/
def State.inRecovery (s : State) (c : Nat) : Bool := (mget none s.sch.recs c).isSome

/-- A clause may be chosen for the core now. -/
def State.coreOpen (s : State) (c : Nat) : Bool :=
  s.dieUp (dieOf c) && !s.inReset 1 c && !s.bit R.PWR_STATE_BUSY 0 (dieOf c) && !s.bit R.CORE_STATUS_SCRUB c && (mget none s.sec.scrubs c).isNone && !s.coreTaken c && s.drained c

/-- The code load of a clause (R299). -/
def loadCode (id : Nat) (k : ClauseS) : Act :=
  .get fun s => many [
    setXfer s.die.nextX (some {
      org := .code id, ctx := k.ctx, part := k.part, die := dieOf k.core, src := .dev k.code, dst := .spad k.core k.row, len := 512 * k.rows,
      smode := 0, dmode := 0, ag := none, place := 0, k := 0, segs := [], done := 0, fin := none, susp := none, order := s.die.nextX, aside := none }),
    .put (.die fun y => { y with nextX := y.nextX + 1 }) ]

/-- A clause that starts from R88 is chosen: its slice runs and its code loads. -/
def chooseFresh (id : Nat) (k : ClauseS) : Act :=
  .get fun s => many [
    .put (.sch fun d => { d with slots := mupd SlotS.none d.slots k.core fun o => { o with since := s.coreTick k.core } }),
    updClause id (fun x => { x with st := if x.code = 0 then .chosen else .loading, first := false }),
    whenA (decide (k.code ≠ 0)) (loadCode id k) ]

/-- The scheduler chooses for a core (R301). A suspended clause goes to its restore; one raised under R313 counts as an inheritance
resume. -/
def clauseChoice (c : Nat) : Act :=
  .get fun s =>
    if !s.coreOpen c || s.inRecovery c || s.throttled (dieOf c) then .nop
    else withA (s.choose c) fun r => .seq
      (withA r.2.2 fun x => .put (.sch fun d => { d with slots := mupd SlotS.none d.slots c fun o => { o with ctx := x, slice := 0, since := s.coreTick c, refused := 0 } }))
      (if r.2.1.sus then .seq (updClause r.1 fun k => { k with st := .restoring })
          (whenA (decide (r.2.1.bclass < r.2.1.eclass)) (bump R.SEQ_BOOST_COUNT 1 0 r.2.1.part))
        else chooseFresh r.1 r.2.1)

def execClauseChoice (core : BitVec 6) := does (clauseChoice core.toNat)

/-! ### Start and end (R88, R89, R156) -/

/-- The clause chosen for a core, with its code there. -/
def State.chosenOn (s : State) (c : Nat) : Option (Nat × ClauseS) := s.clauseList.find? (fun k => decide (k.2.core = c) && decide (k.2.st = .chosen))

/-- The core as a clause finds it (R88). -/
def CoreS.start (m : CoreS) (id : Nat) (k : ClauseS) (tune : Bool) (dl : Option Nat) : CoreS :=
  { m with
      inClause := true, clause := id, tune := tune, vsmxb := false, pc := k.entry,
      g := (List.range 15).foldl (fun g i => mset 0 g (i + 1) (BitVec.ofNat 64 (k.args.getD i 0))) [],
      a := [], p := [], sh := [], shEvent := [], rs := 0, dl := dl, fbuf := [], lastRow := none, wait := .none, halted := false, held := [],
      mq := [], vq := [], cq := [], carry := [] }

/-- The arithmetic state a clause begins with (R156). -/
def clearArith (c : Nat) : Act :=
  many [clearFlags c, setStats c [], setR R.CORE_SR_SEED_SEED 0 c, setR R.CORE_SR_CTR_COUNT 0 c]

/-- The stream work record of a clause takes the frame and the zero start of each stream (R186). -/
def writeStreams (k : ClauseS) : Act :=
  forA (List.range k.streams.length) (fun i => .get fun s =>
    let n := k.streams.getD i 0
    let a := k.args.getD 0 0 + 0x40 + 8 * i
    .seq (daPut hubXlt k.ctx (a + 2) 2 (s.frameRow k.core (s.reg R.SEQ_STREAM_TABLE_FRAME 0 n)) 0 true false)
      (daPut hubXlt k.ctx (a + 6) 1 (b2n (mget false s.sch.zeroed n)) 0 true false))

/-- The streams a clause binds are no longer as the images of its core hold them (R189). -/
def touchImages (c : Nat) (l : List Nat) : Act :=
  .put (.sch fun d => { d with images := (List.range 4).foldl (fun m j => mupd none m (4 * c + j) fun im =>
    im.map fun im => { im with frames := im.frames.filter (fun n => !l.contains n) }) d.images })

/-- CLAUSE_START: a clause with every stream resident runs from R88; a stream that cannot be bound ends it. A clause under
REPLAY writes back its dirty streams first (R188). In a probe DL is none (R474). -/
def execClauseStart (core : BitVec 6) :=
  does (.get fun s =>
    let c := core.toNat
    withA (s.chosenOn c) fun e =>
      let k := e.2
      match k.streams.findSome? (fun n => s.strFail k.part c n) with
      | some st => endClause e.1 st 0 0
      | none => whenA (s.strReady k && decide ((s.core c).cycRun = true)) (.seq
        (forA k.streams (fun n => .get fun s => whenA (decide (k.policy = 2) && s.strBit R.SEQ_STREAM_TABLE_DIRTY n) (writeBack n)))
        (.get fun s => match k.streams.findSome? (fun n => s.strFail k.part c n) with
          | some st => endClause e.1 st 0 0
          | none => many [
            touchImages c k.streams, writeStreams k, clearArith c,
            updClause e.1 (fun x => { x with st := .running, ran := true }),
            updCore c (fun m => m.start e.1 k (s.bit R.SEQ_PART_TUNE_TUNE 0 k.part)
              (if k.policy = 0 ∨ (s.probeCore e.1).isSome then none else k.deadline)), progress c ])))

/-- CLAUSE_END: a clause that waits in CEND with nothing outstanding ends cleanly, or takes the semaphore exception where
it still holds a lock (R89). A probe that reaches its end waits for the outcome (R474). -/
def execClauseEnd (core : BitVec 6) :=
  does (.get fun s =>
    let c := core.toNat
    withA (s.running c) fun k =>
      let m := s.core c
      match m.wait with
      | .cend w =>
        if !s.fenceDone c 0x1F then .nop
        else if !m.held.isEmpty then takeExc c 5 6 w
        else match s.probeCore m.clause with
          | some g => many [noteOutcome g 3, updClause m.clause (fun x => { x with st := .waiting, slot := k.slot }), freeCore c]
          | none => endClause m.clause 0 0 0
      | _ => .nop)

/-! ### Aging (R303) -/

/-- AGE_PROMOTION of a clause that waits for its core, or of a request that waits for admission (`id` its partition, `idx`
its place). -/
def execAgePromotion (isReq : Bool) (id idx : Nat) (dt : Nat) :=
  does (after dt (.get fun s =>
    let due := fun p base now => decide (s.reg R.SEQ_AGE_AGE_LIMIT 0 p ≠ 0) && decide (base + s.reg R.SEQ_AGE_AGE_LIMIT 0 p ≤ now)
    if isReq then
      withA ((s.batch id).reqs[idx]?) fun r =>
        let now := s.count (r.queue / 8192)
        whenA (decide (r.eclass < 3) && due id r.waitBase now) (.seq
          (updBatch id fun b => { b with reqs := lset b.reqs idx { r with eclass := r.eclass + 1, waitBase := now } })
          (bump R.SEQ_PROMOTE_COUNT 1 0 id))
    else
      withA (s.clause id) fun k =>
        let now := s.coreTick k.core
        whenA ((decide (k.st = .waiting) || k.sus) && decide (k.eclass < 3) && due k.part k.waitBase now) (.seq
          (updClause id fun x => { x with eclass := x.eclass + 1, bclass := x.eclass + 1, waitBase := now })
          (bump R.SEQ_PROMOTE_COUNT 1 0 k.part))))

/-! ### Mid-clause pre-emption (R305–R310) -/

/-- A pre-emption of the clause running on a core is requested (R305): a ready clause of a higher descriptor class, or a
suspended clause that inheritance has raised above it. -/
def State.preempts (s : State) (c : Nat) : Bool :=
  match s.running c with
  | none => false
  | some r =>
    let mine := s.clauseList.filter (fun k => decide (k.2.core = c) && !s.killing k.2.ctx)
    (s.bit R.SEQ_SCHED_PREEMPT 0 r.part && mine.any (fun k => s.clauseReady k.2 && decide (r.eclass < k.2.dclass))) ||
    mine.any (fun k => k.2.sus && decide (k.2.bclass < k.2.eclass) && decide (r.eclass < k.2.eclass))

/-- The slot's first physical address (R307). -/
def State.slotPa (s : State) (c k : Nat) : Nat := s.reg R.CORE_SAVE_BASE_PA c * 2 ^ 16 + k * 0x450000

/-- The slot holds nothing and lies in the partition's groups (R223, R305). -/
def State.slotFree (s : State) (c k p : Nat) : Bool :=
  (mget none s.sch.images (c * 4 + k)).isNone && (List.range 69).all (fun i => s.inPart (s.slotPa c k + 65536 * i) p)

/-- The running clause can be taken now: it has issued its first instruction, waits in no CEND, and no recovery runs. -/
def State.takeable (s : State) (c : Nat) : Bool :=
  (s.core c).lastRow.isSome && !(s.core c).halted && (match (s.core c).wait with | .cend _ => false | _ => true) &&
  !s.inRecovery c && (mget none s.sch.kicks c).isNone

/-- Saves and restores that run on a die. -/
def State.kicksOn (s : State) (d : Nat) : Nat := (s.sch.kicks.filter (fun e => e.2.isSome && decide (dieOf e.1 = d))).length

/-- A save or restore of a core still has its reason. -/
def State.kickWanted (s : State) (e : Nat × Kick) : Bool :=
  if e.2.restore then (match s.clause e.2.clause with | some k => decide (k.st = .restoring) | none => false)
  else decide ((s.core e.1).clause = e.2.clause) && s.preempts e.1

/-- A save or restore begins where its die has room and no earlier request waits; else it waits its turn (R308). -/
def kickTurn (c : Nat) (k : Kick) (go : Act) : Act :=
  .get fun s =>
    let q := s.sch.kickQ.filter s.kickWanted
    let ahead := (q.filter (fun e => decide (dieOf e.1 = dieOf c))).head?
    let room := decide (s.kicksOn (dieOf c) < s.reg R.SEQ_KICK_CFG_MAX)
    if room && (match ahead with | some e => decide (e.1 = c) | none => true) then many [
      .put (.sch fun d => { d with kickQ := q.filter (fun e => decide (e.1 ≠ c)), kicks := mset none d.kicks c (some { k with since := s.coreTick c }) }),
      setR R.CORE_STATUS_SAVE 1 c, go ]
    else .put (.sch fun d => { d with kickQ := if q.any (fun e => decide (e.1 = c)) then q else q ++ [(c, k)] })

/-- The control wait of a core is withdrawn by a pre-emption: SACQ, SWAIT and the other functions that answer issue again
after the restore (R109). -/
def unwait (c : Nat) : Act :=
  .get fun s => match (s.core c).wait with
    | .sem _ _ _ _ _ => .seq (withdraw c) (updCore c fun m => { m with wait := .none })
    | .que _ _ _ _ _ _ => .seq (withdraw c) (updCore c fun m => { m with wait := .none })
    | _ => .nop

/-- KICKSTAND_SAVE: the requested pre-emption takes effect, or is refused and logged once (R305). -/
def execKickstandSave (core : BitVec 6) :=
  does (.get fun s =>
    let c := core.toNat
    withA (s.running c) fun k =>
      let id := (s.core c).clause
      if !s.preempts c || !s.takeable c then .nop
      else if !s.slotFree c k.eclass k.part then
        whenA (decide ((mget SlotS.none s.sch.slots c).refused ≠ id)) (.seq
          (logEv 4 srcSeq 5 2 (k.ctx + k.queue % 2 ^ 16 * 2 ^ 16 + k.n % 2 ^ 32 * 2 ^ 32))
          (.put (.sch fun d => { d with slots := mupd SlotS.none d.slots c fun o => { o with refused := id } })))
      else kickTurn c ⟨false, k.eclass, id, 0⟩ (many [
        sliceStop id, unwait c, updClause id fun x => { x with st := .saving, slot := k.eclass } ]))

/-- Transfers of a core's port that belong to a context. -/
def State.ctxXfers (s : State) (c ctx : Nat) : List Nat :=
  (s.core c).port.filter (fun x => match s.xfer x with | some v => decide (v.ctx = ctx) | none => false)

/-- A segment of these transfers waits for a peer package (R306, step 3). -/
def State.fabOut (s : State) (l : List Nat) : Bool :=
  l.any (fun x => match s.xfer x with
    | some v => v.segs.any (fun g => decide (g.st ≠ .ended) && (decide (g.srcKind = 4) || decide (g.dstKind = 4)))
    | none => false)

/-- Every issued segment of these transfers has ended, or is held at a tag (R65, R279). -/
def State.portQuiet (s : State) (l : List Nat) : Bool :=
  l.all (fun x => match s.xfer x with
    | some v => s.xferBlocked x v || v.segs.all (fun g => decide (g.st = .ended))
    | none => true)

/-- FABRIC_DRAIN_TIMEOUT: no image is written, and the clause ends as faulted. -/
def execFabricDrainTimeout (core : BitVec 6) (dt : Nat) :=
  does (after dt (.get fun s =>
    let c := core.toNat
    withA (mget none s.sch.kicks c) fun k => withA (s.clause k.clause) fun cl =>
      whenA (!k.restore && s.fabOut (s.ctxXfers c cl.ctx) && decide (s.reg R.SEQ_KICK_CFG_DRAIN ≤ s.coreTick c - k.since)) (many [
        stopKick k.clause,
        updClause k.clause (fun x => { x with st := .running }),
        endClause k.clause stClauseFault 0 0x13 ])))

/-- The registers an image holds beside the core's own state (R154). -/
def arithFlds : List Nat :=
  [R.CORE_ARITH_FLAGS_NAN_IN, R.CORE_ARITH_FLAGS_INVALID, R.CORE_ARITH_FLAGS_OVERFLOW, R.CORE_ARITH_FLAGS_UNDERFLOW,
   R.CORE_ARITH_FLAGS_ACC_SAT, R.CORE_ARITH_FLAGS_SCALE_NAN, R.CORE_SR_SEED_SEED, R.CORE_SR_CTR_COUNT, R.CORE_STAT_W0_ABSMAX,
   R.CORE_STAT_W1_SUM].map Fld.id

/-- The register-file key belongs to the saved registers of core `c`. -/
def savedKey (c k : Nat) : Bool := decide (keyI k = c) && arithFlds.contains (keyId k)

/-- An owner's state without what it holds of some transfers, and with only that. -/
def OwnS.sans (o : OwnS) (l : List Nat) : OwnS :=
  ⟨o.use.filter (fun u => !l.contains (u / 1024)), match o.blk with | some b => if l.contains b.ref.opnd then none else some b | none => none⟩
def OwnS.only (o : OwnS) (l : List Nat) : OwnS :=
  ⟨o.use.filter (fun u => l.contains (u / 1024)), none⟩

/-- The image of a core (R65, R118, R154, R307). -/
def State.mkImage (s : State) (c id : Nat) (l : List Nat) : Image :=
  let m := s.core c
  { core := { m with
      own := (List.range 8).foldl (fun o k => mset OwnS.idle o k (if k = 5 ∨ k = 6 then (mget OwnS.idle m.own k).only l else { (mget OwnS.idle m.own k) with blk := none })) [],
      port := l },
    spad := s.spad.filter (fun e => decide (e.1 / 8192 = c)),
    acc := s.acc.filter (fun e => decide (e.1 / 1024 = c)),
    regs := s.regs.filter (fun e => savedKey c e.1),
    phase := s.cyc c % 8, clause := id, xfers := l, frames := s.strsOn c }

/-- The SUSPENDED bit of the locks a clause holds (R311). -/
def markSus (id v : Nat) : Act :=
  .get fun s => forA ((s.die.sems.filter (fun e => s.smf R.QUE_SEM_W0_HELD e.1 = 1 && decide (e.2.clause = id))).map Prod.fst)
    (fun h => setS R.QUE_SEM_W0_SUSPENDED h v)

/-- A hold bound or a deadline that was reached during a save or restore is acted on when it ends (R310). -/
def lateFaults (id : Nat) : Act :=
  .get fun s => .seq
    (forA ((s.die.sems.filter (fun e => decide (e.2.clause = id))).map Prod.fst) holdFault)
    (deadlineFault id)

/-- A save or restore of a core ends: its duration and its place on the die. -/
def kickEnd (c : Nat) (k : Kick) : Act :=
  .get fun s => many [
    setR R.CORE_KICK_LAST_TICKS (min (s.coreTick c - k.since) (2 ^ 24 - 1)) c, setR R.CORE_STATUS_SAVE 0 c,
    .put (.sch fun d => { d with kicks := mset none d.kicks c none }) ]

/-- KICKSTAND_SAVE_DONE: the image is in its slot, the clause suspended and the core free. -/
def execKickstandSaveDone (core : BitVec 6) (dt : Nat) :=
  does (after dt (.get fun s =>
    let c := core.toNat
    withA (mget none s.sch.kicks c) fun k => withA (s.clause k.clause) fun cl =>
      let l := s.ctxXfers c cl.ctx
      whenA (!k.restore && s.portQuiet l) (many [
        .put (.sch fun d => { d with images := mset none d.images (c * 4 + k.slot) (some (s.mkImage c k.clause l)) }),
        kickEnd c k, bump R.SEQ_PREEMPT_COUNT 1 0 cl.part, markSus k.clause 1,
        updCore c (fun m => { CoreS.reset with
          tags := m.tags, claim := m.claim, own := (List.range 2).foldl (fun o j => mset OwnS.idle o (5 + j) ((mget OwnS.idle m.own (5 + j)).sans l)) [],
          port := m.port.filter (fun x => !l.contains x), opSeq := m.opSeq, lastCyc := m.lastCyc, lockT := m.lockT, prog := m.prog,
          cycRun := m.cycRun, cycBase := m.cycBase, cycHold := m.cycHold }),
        updClause k.clause (fun x => { x with st := .suspended, susAt := s.coreTick c, waitBase := s.coreTick c }),
        settleClasses, lateFaults k.clause ])))

/-- KICKSTAND_RESTORE: the restore of the clause chosen for the core begins; streams made resident since its save leave
first (R189). -/
def execKickstandRestore (core : BitVec 6) :=
  does (.get fun s =>
    let c := core.toNat
    withA (s.clauseList.find? (fun k => decide (k.2.core = c) && decide (k.2.st = .restoring))) fun e =>
      whenA (mget none s.sch.kicks c).isNone (kickTurn c ⟨true, e.2.slot, e.1, 0⟩
        (withA (s.imageOf e.1 e.2) fun im => forA ((s.strsOn c).filter (fun n => !im.frames.contains n)) swapOut)))

/-- The core takes an image back: its clock stays its own, blocks begin afresh, transfers of other contexts stay. -/
def CoreS.restored (m : CoreS) (im : Image) : CoreS :=
  { im.core with
      own := (List.range 8).foldl (fun o k =>
        let i := mget OwnS.idle im.core.own k
        let w := mget OwnS.idle m.own k
        mset OwnS.idle o k (if k = 5 ∨ k = 6 then ⟨i.use ++ w.use, w.blk⟩ else i)) [],
      port := im.xfers ++ m.port, lastCyc := m.lastCyc, lockT := m.lockT, prog := m.prog, opSeq := max m.opSeq im.core.opSeq,
      cycRun := m.cycRun, cycBase := m.cycBase, cycHold := m.cycHold }

/-- A unit of the slot reads with an uncorrectable error. -/
def State.slotBad (s : State) (c k : Nat) : Option Nat :=
  (s.die.errs.find? (fun e => decide (e.2 = 2) && decide (s.slotPa c k / 64 ≤ e.1) && decide (e.1 < (s.slotPa c k + 0x450000) / 64))).map Prod.fst

/-- The scratchpad, the accumulators and the saved registers of a core are an image's. -/
def putImage (c : Nat) (im : Image) : Act :=
  many [
    .put (.spadKeep fun k => decide (k / 8192 ≠ c)), forA im.spad (fun e => .put (.spad e.1 e.2)),
    .put (.accKeep fun k => decide (k / 1024 ≠ c)), forA im.acc (fun e => .put (.acc e.1 e.2)),
    .put (.regsKeep fun k => !savedKey c k), forA im.regs (fun e => .put (.regRaw e.1 e.2)) ]

/-- KICKSTAND_RESTORE_DONE: the clause goes on at its saved wheel phase; `poison` says that the restore read an
uncorrectable unit (R310). -/
def execKickstandRestoreDone (core : BitVec 6) (poison : Bool) (dt : Nat) :=
  does (after dt (.get fun s =>
    let c := core.toNat
    withA (mget none s.sch.kicks c) fun k => withA (s.clause k.clause) fun cl => whenA k.restore (
      match s.imageOf k.clause cl with
      | none => stopKick k.clause
      | some im =>
        if poison || (s.slotBad c k.slot).isSome then many [
          whenA (poison && (s.slotBad c k.slot).isNone) (injectErr (s.slotPa c k.slot) 3),
          .get fun s => withA (s.slotBad c k.slot) fun u => readErrs (64 * u) 64 false cl.ctx,
          kickEnd c k, updClause k.clause (fun x => { x with st := .suspended }), faultClause k.clause stPoison 0 0 ]
        else many [
          kickEnd c k, putImage c im,
          .put (.sch fun d => { d with images := mset none d.images (c * 4 + k.slot) none }),
          .put (.tick ((im.phase + 8 - s.cyc c % 8) % 8)),
          updCore c (fun m => m.restored im), markSus k.clause 0,
          .get fun s => .put (.sch fun d => { d with slots := mupd SlotS.none d.slots c fun o => { o with since := s.coreTick c } }),
          updClause k.clause (fun x => { x with st := .running }),
          progress c, lateFaults k.clause ])))

end Sys2Proof.Machine
end

