-- ==== Sys2Proof/Machine/Batch.lean ====
section
/-! DEFINITION. The Derailleur: request descriptors, step boundaries, the paged cache, the assignment of pieces, and the
clauses of a step (R32, R162–R166, R177–R183, R186, R319–R328). -/

namespace Sys2Proof.Machine

/-! ### Requests (R319) -/

/-- Bytes 0x18–0x1F of a request record (R327). -/
def reqExtra (token rkind reason raw : Nat) : Nat :=
  token % 2 ^ 32 + rkind * 2 ^ 32 + reason * 2 ^ 40 + bits raw 32 16 * 2 ^ 48

/-- A request's descriptor ends with its final record. -/
def finalRec (q n status token reason raw : Nat) : Act := endDesc q n status (q / 8192) (reqExtra token 2 reason raw)

/-- Fields every GENERATE and CANCEL shares. -/
def State.reqCommon (s : State) (q raw : Nat) : Bool :=
  !bitOf raw 9 && decide (bits raw 12 4 = 0) && decide (bits raw 16 8 ≤ 3) && decide (bits raw 25 7 = 0) && decide (bits raw 512 512 = 0) &&
  (!bitOf raw 10 || s.semOk (bits raw 224 32) (s.qf R.QUE_QCFG_PART q))

/-- The field checks of a GENERATE. -/
def State.genOk (s : State) (q raw : Nat) : Bool :=
  s.reqCommon q raw && decide (bits raw 64 64 % 64 = 0) &&
  decide (1 ≤ bits raw 128 32) && decide (bits raw 128 32 ≤ 65535) && decide (1 ≤ bits raw 160 32) && decide (bits raw 160 32 ≤ 65535)

/-- The oldest descriptor of a request queue, of an operation code, that has not been looked at. -/
def onRequestQ (q op : Nat) (f : DescS → Act) : Act :=
  .get fun s => whenA (decide (s.qf R.QUE_QCFG_KIND q = 2))
    (withA ((s.queue q).fetched.find? (fun d => !d.started && d.endSt.isNone && decide (d.raw % 256 = op))) f)

/-- GENERATE: it waits for admission; in another context than the batch's it ends at once. -/
def execGenerate (die : BitVec 2) (q : BitVec 13) :=
  let n := qNum die q
  does (onRequestQ n 4 fun d => .get fun s =>
    let p := s.qf R.QUE_QCFG_PART n
    .seq (markStarted n d.n)
      (if s.qf R.QUE_QCFG_CTX n ≠ s.reg R.SEQ_BATCH_CFG_CTX 0 p then finalRec n d.n 4 0 5 d.raw
       else if !s.genOk n d.raw then finalRec n d.n stDescFormat 0 5 d.raw
       else updBatch p fun b => { b with reqs := b.reqs ++ [⟨n, d.n, d.accept, d.raw, bits d.raw 16 2, s.count die.toNat⟩] }))

/-- CANCEL: it takes effect at the next boundary. -/
def execCancel (die : BitVec 2) (q : BitVec 13) :=
  let n := qNum die q
  does (onRequestQ n 5 fun d => .get fun s => .seq (markStarted n d.n)
    (if !s.reqCommon n d.raw then finalRec n d.n stDescFormat 0 5 d.raw
     else updBatch (s.qf R.QUE_QCFG_PART n) fun b => { b with cancels := b.cancels ++ [(n, d.n, bits d.raw 64 32)] }))

/-- REQUEST_NOP: only OP, FLAGS [0] and TAG are used. -/
def execRequestNop (die : BitVec 2) (q : BitVec 13) :=
  let n := qNum die q
  does (onRequestQ n 0 fun d =>
    let ok := decide (bits d.raw 9 23 = 0) && decide (bits d.raw 48 976 = 0)
    .seq (markStarted n d.n) (finalRec n d.n (if ok then stOK else stDescFormat) 0 (if ok then 0 else 5) d.raw))

/-! ### What a request says -/

def SeqS.prompt (x : SeqS) : Nat := bits x.raw 64 64
def SeqS.promptLen (x : SeqS) : Nat := bits x.raw 128 32
def SeqS.maxNew (x : SeqS) : Nat := bits x.raw 160 32
def SeqS.tokenDl (x : SeqS) : Nat := bits x.raw 192 32
def SeqS.firstDl (x : SeqS) : Nat := bits x.raw 256 32
def SeqS.stops (x : SeqS) : List Nat := ((List.range 4).map (fun i => bits x.raw (288 + 32 * i) 32)).filter (fun t => decide (t ≠ 0xFFFFFFFF))
def SeqS.cls (x : SeqS) : Nat := bits x.raw 16 2
def SeqS.hasStream (x : SeqS) : Bool := bitOf x.raw 24
def SeqS.stream (x : SeqS) : Nat := bits x.raw 48 16

/-- The sequence decodes: its prompt is in the cache. -/
def SeqS.decoding (x : SeqS) : Bool := decide (x.promptLen ≤ x.qpos)
/-- The step yields a token for it (R322). -/
def SeqS.lastChunk (x : SeqS) : Bool := decide (x.promptLen ≤ x.qpos + x.new)

/-- The sequences of a batch with their numbers, ascending. -/
def BatchS.list (b : BatchS) : List (Nat × SeqS) := b.seqs.filterMap (fun e => e.2.map (fun x => (e.1, x)))
def BatchS.step (b : BatchS) : List (Nat × SeqS) := b.list.filter (fun e => e.2.inStep)
def setSeq (p q : Nat) (v : Option SeqS) : Act := updBatch p fun b => { b with seqs := mset none b.seqs q v }

/-! ### The work area and the pool (R178–R180, R323) -/

def State.batchCtx (s : State) (p : Nat) : Nat := s.reg R.SEQ_BATCH_CFG_CTX 0 p
/-- The step record's device address. -/
def State.workBase (s : State) (p : Nat) : Nat := s.reg R.SEQ_WORK_BASE_ADDR 0 p * 2 ^ 16
/-- Bytes written by the Derailleur in the batch context. -/
def putB (p da n v : Nat) : Act := .get fun s => daPut hubXlt (s.batchCtx p) da n v 0 true false

/-- A run of any length cut at page ends. -/
def pagesOf (da n : Nat) : List (Nat × Nat) :=
  (List.range (n / 2 ^ 16 + 2)).filterMap (fun i =>
    let a := if i = 0 then da else (da / 2 ^ 16 + i) * 2 ^ 16
    let e := min (da + n) ((da / 2 ^ 16 + i + 1) * 2 ^ 16)
    if a < e then some (a, e - a) else none)

/-- A run of zero bytes. -/
def zeroB (p da n : Nat) : Act := forA (pagesOf da n) (fun r => putB p r.1 r.2 0)

def State.blockBytes (s : State) (p : Nat) : Nat :=
  s.reg R.SEQ_KV_SHAPE_LAYERS 0 p * s.reg R.SEQ_KV_SHAPE_KV_HEADS 0 p * 2 * s.reg R.SEQ_KV_SHAPE_PANELS 0 p *
    (if s.reg R.SEQ_KV_POOL_CFG_FMT 0 p < 2 then 512 else 1024)
def State.groupBytes (s : State) (p : Nat) : Nat := s.reg R.SEQ_KV_SHAPE_LAYERS 0 p * s.reg R.SEQ_KV_SHAPE_KV_HEADS 0 p * 128
def State.blockAt (s : State) (p b : Nat) : Nat := s.reg R.SEQ_KV_POOL_BASE_ADDR 0 p + b * s.blockBytes p
def State.groupAt (s : State) (p g : Nat) : Nat := s.reg R.SEQ_KV_SCALE_BASE_ADDR 0 p + g * s.groupBytes p
/-- The block-table entry of logical block i, or of scale group i, of a sequence. -/
def State.tableAt (s : State) (p q : Nat) (isGroup : Bool) (i : Nat) : Nat :=
  s.reg R.SEQ_KV_TABLE_BASE_ADDR 0 p + q * 20480 + (if isGroup then 16384 else 0) + 4 * i

/-- How many blocks or scale groups a pool has. -/
def State.poolSize (s : State) (p : Nat) (isGroup : Bool) : Nat :=
  if s.reg R.SEQ_KV_POOL_CFG_ENABLE 0 p = 0 then 0
  else if isGroup then cdiv (s.reg R.SEQ_KV_POOL_CFG_BLOCKS 0 p) 4 else s.reg R.SEQ_KV_POOL_CFG_BLOCKS 0 p

def BatchS.used (b : BatchS) (isGroup : Bool) : SMap Bool := if isGroup then b.usedG else b.usedB
def BatchS.dirty (b : BatchS) (isGroup : Bool) : SMap Bool := if isGroup then b.dirtyG else b.dirtyB
def BatchS.setUse (b : BatchS) (isGroup : Bool) (i : Nat) (used dirty : Bool) : BatchS :=
  if isGroup then { b with usedG := mset false b.usedG i used, dirtyG := mset false b.dirtyG i dirty }
  else { b with usedB := mset false b.usedB i used, dirtyB := mset false b.dirtyB i dirty }

/-- Free members of a pool that have been zeroed, or have not. -/
def State.freeOf (s : State) (p : Nat) (isGroup dirty : Bool) : List Nat :=
  (List.range (s.poolSize p isGroup)).filter (fun i => !mget false ((s.batch p).used isGroup) i && decide (mget false ((s.batch p).dirty isGroup) i = dirty))

/-- A block or scale group is zero-filled. -/
def zeroUnit (p : Nat) (isGroup : Bool) (i : Nat) : Act :=
  .get fun s => if isGroup then zeroB p (s.groupAt p i) (s.groupBytes p) else zeroB p (s.blockAt p i) (s.blockBytes p)

/-- BACKGROUND_ZERO_FILL: a freed block or scale group is zeroed (R181). -/
def execBackgroundZeroFill (part : BitVec 4) (isGroup : Bool) (idx : Nat) :=
  let p := part.toNat
  does (.get fun s => whenA (mget false ((s.batch p).dirty isGroup) idx) (.seq (zeroUnit p isGroup idx)
    (updBatch p fun b => b.setUse isGroup idx (mget false (b.used isGroup) idx) false)))

/-! ### Retirement (R327, R328) -/

/-- A sequence's blocks and scale groups return to the pool: their table entries are no longer valid, and they are to be
zeroed. -/
def freeUnits (p q : Nat) (isGroup : Bool) (l : List Nat) : Act :=
  forA (List.range l.length) (fun i => .get fun s => .seq
    (putB p (s.tableAt p q isGroup i) 4 0)
    (updBatch p fun b => b.setUse isGroup (l.getD i 0) false true))

/-- A sequence leaves the batch with its final record. -/
def retireSeq (p q status reason : Nat) : Act :=
  .get fun s => withA (mget none (s.batch p).seqs q) fun x => many [
    finalRec x.queue x.n status (if x.count = 0 then 0 else x.last) reason x.raw,
    freeUnits p q false x.blocks, freeUnits p q true x.groups,
    setSeq p q none ]

/-! ### Step 2: tokens (R327) -/

/-- A token record: a completion after which the request goes on. -/
def tokenRec (q n token rkind : Nat) : Act :=
  .get fun s => withA ((s.queue q).fetched.find? (fun d => decide (d.n = n))) fun d =>
    updQueue q fun k => { k with ending := k.ending ++ [{ d with
      endSt := some 0, more := true, endStamp := s.count (q / 8192), die := q / 8192, extra := reqExtra token rkind 0 d.raw }] }

/-- The token of a sequence is late (R316, R327). -/
def State.tokenLate (s : State) (b : BatchS) (x : SeqS) : Bool :=
  let now := s.count 4
  b.late || (decide (x.tokenDl ≠ 0) && decide (b.release + x.tokenDl < now)) ||
  (decide (x.count = 0) && decide (x.firstDl ≠ 0) && decide (x.accept + x.firstDl < now))

/-- OUT and OUT_STATUS of a sequence have been read. -/
def deliverToken (p q out status : Nat) : Act :=
  .get fun s => withA (mget none (s.batch p).seqs q) fun x =>
    if status % 256 = 0xFF then
      (match x.retire with
       | some (st, r) => retireSeq p q st r
       | none => retireSeq p q stClauseFault 5)
    else
      let y := { x with count := x.count + 1, last := out }
      many [
        setSeq p q (some y),
        whenA (bitOf x.raw 11) (tokenRec x.queue x.n out (b2n (s.tokenLate (s.batch p) x))),
        if y.stops.contains out then retireSeq p q 0 1
        else if status % 256 = 1 then retireSeq p q 0 2
        else if y.count = y.maxNew then retireSeq p q 0 3
        else .nop ]

/-- Entry i of the step record (R323). -/
def State.entryAt (s : State) (p i : Nat) : Nat := s.workBase p + 0x40 + 64 * i

/-- The result of the i-th sequence of the step; where it cannot be read its value is open. -/
def readToken (p q i : Nat) : Act :=
  .get fun s => .seq (readAct hubXlt (s.batchCtx p) (s.entryAt p i + 0x18) 8 0 true false)
    (match s.daRead hubXlt (s.batchCtx p) (s.entryAt p i + 0x18) 8 with
     | .ok v => deliverToken p q (bits v 0 32) (bits v 32 8)
     | .bad _ => freshV fun v => deliverToken p q (v % 2 ^ 32) (v / 2 ^ 32 % 2 ^ 8))

/-- The sequences of the step have their new tokens in the cache. -/
def stepOver (p : Nat) : Act :=
  updBatch p fun b => { b with seqs := b.seqs.map (fun e => (e.1, e.2.map (fun x => if x.inStep then { x with qpos := x.qpos + x.new, inStep := false, first := false } else x))) }

def deliverAll (p : Nat) : Act :=
  .get fun s =>
    let l := (s.batch p).step
    forA ((List.range l.length).filterMap (fun i => l[i]?.map (fun e => (i, e)))) (fun e => whenA e.2.2.lastChunk (readToken p e.2.1 e.1))

/-! ### Step 3: cancelled, failed and stalled sequences -/

/-- A CANCEL descriptor: what it names ends, and the CANCEL with it. -/
def doCancel (p : Nat) (c : Nat × Nat × Nat) : Act :=
  .get fun s =>
    let raw := match (s.queue c.1).fetched.find? (fun d => decide (d.n = c.2.1)) with | some d => d.raw | none => 0
    match (s.batch p).list.find? (fun e => decide (e.2.queue = c.1) && decide (e.2.n = c.2.2)) with
    | some e => .seq (retireSeq p e.1 stCancelled 4) (finalRec c.1 c.2.1 stOK 0 4 raw)
    | none =>
      match (s.batch p).reqs.find? (fun r => decide (r.queue = c.1) && decide (r.n = c.2.2)) with
      | some r => many [
          updBatch p (fun b => { b with reqs := b.reqs.erase r }),
          finalRec r.queue r.n stCancelled 0 4 r.raw, finalRec c.1 c.2.1 stOK 0 4 raw ]
      | none => finalRec c.1 c.2.1 stOK 0 0 raw

/-- The next step would take the sequence past 65,536 tokens (R163). -/
def SeqS.tooLong (x : SeqS) : Bool := x.decoding && decide (65536 < x.qpos + 1)

def retireDue (p : Nat) : Act :=
  many [
    .get fun s => .seq (updBatch p fun b => { b with cancels := [] }) (forA (s.batch p).cancels (doCancel p)),
    .get fun s => forA (s.batch p).list (fun e => match e.2.retire with
      | some (st, r) => retireSeq p e.1 st r
      | none => whenA e.2.tooLong (retireSeq p e.1 stLengthLimit 5)),
    .get fun s =>
      let b := s.batch p
      let stuck := b.list.filter (fun e => b.leftOut.contains e.1)
      whenA (decide (s.reg R.SEQ_ATT_CFG_STALL_LIMIT ≤ b.left))
        (withA (bestBy (fun x y => decide (y.2.admOrd < x.2.admOrd)) stuck) fun e => retireSeq p e.1 stKvPool 5) ]

/-! ### Step 4: admission (R322) -/

/-- A sequence number no batch of the package uses. -/
def State.freeSeq (s : State) : Option Nat :=
  findUp (fun q => !(List.range 16).any (fun p => (mget none (s.batch p).seqs q).isSome)) 0 8192

def ReqS.before (a b : ReqS) : Bool :=
  decide (b.eclass < a.eclass) || (decide (a.eclass = b.eclass) && (decide (a.accept < b.accept) || (decide (a.accept = b.accept) &&
    (decide (a.queue < b.queue) || (decide (a.queue = b.queue) && decide (a.n < b.n))))))

def admitOne (p : Nat) : Act :=
  .get fun s =>
    let b := s.batch p
    whenA (decide (b.list.length < s.reg R.SEQ_BATCH_LIM_MAX_SEQ 0 p)) (withA s.freeSeq fun q => withA (bestBy ReqS.before b.reqs) fun r => .seq
      (updBatch p fun b => { b with reqs := b.reqs.erase r, admits := b.admits + 1 })
      (setSeq p q (some {
        queue := r.queue, n := r.n, accept := r.accept, raw := r.raw, admOrd := b.admits, qpos := 0, new := 0, inStep := false,
        first := true, count := 0, last := 0, blocks := [], groups := [], retire := none })))

/-! ### Step 5: new tokens and the cache (R181, R182, R322) -/

/-- NEW of every sequence: prompts in admission order take their chunks from the budget. -/
def State.newOf (s : State) (p : Nat) : List (Nat × Nat) :=
  let l := (s.batch p).list
  let dec := (l.filter (fun e => e.2.decoding)).map (fun e => (e.1, 1))
  let pro := (l.filter (fun e => !e.2.decoding)).mergeSort (fun a b => decide (a.2.admOrd ≤ b.2.admOrd))
  (pro.foldl (fun (acc : List (Nat × Nat) × Nat) e =>
    let n := min (e.2.promptLen - e.2.qpos) (min (s.reg R.SEQ_BATCH_LIM_CHUNK 0 p) (s.reg R.SEQ_BATCH_BUDGET_BUDGET 0 p - acc.2))
    (if n = 0 then acc.1 else acc.1 ++ [(e.1, n)], acc.2 + n)) (dec, 0)).1

/-- Blocks and scale groups a sequence still needs for its NEW. -/
def SeqS.needs (x : SeqS) (new : Nat) : Nat × Nat := (cdiv (x.qpos + new) 16 - x.blocks.length, cdiv (x.qpos + new) 64 - x.groups.length)

/-- What the pool gives, in ascending sequence number: the sequences left out, and whether one waits for a block or group
that is not yet zeroed. The counters are the zeroed and the unzeroed free blocks, then groups. -/
def State.allocPlan (s : State) (p : Nat) (news : List (Nat × Nat)) : List Nat × Bool :=
  let l := (s.batch p).list.filterMap (fun e => (news.find? (fun n => decide (n.1 = e.1))).map (fun n => (e.1, e.2.needs n.2)))
  let init := ((s.freeOf p false false).length, (s.freeOf p false true).length, (s.freeOf p true false).length, (s.freeOf p true true).length)
  let r := l.foldl (fun (acc : (List Nat × Bool) × (Nat × Nat × Nat × Nat)) e =>
    let (cb, db, cg, dg) := acc.2
    let (nb, ng) := e.2
    if cb + db < nb || cg + dg < ng then ((acc.1.1 ++ [e.1], acc.1.2), acc.2)
    else ((acc.1.1, acc.1.2 || decide (cb < nb) || decide (cg < ng)), (cb - nb, db - (nb - cb), cg - ng, dg - (ng - cg)))) (([], false), init)
  r.1

/-- A sequence takes one zeroed block or scale group, which one the spec leaves open: the table entry is written and the
unit zero-filled. -/
def takeUnit (p q : Nat) (isGroup : Bool) : Act :=
  .get fun s => match s.freeOf p isGroup false with
    | [] => .nop
    | l => freshV fun v => withA (mget none (s.batch p).seqs q) fun x =>
        let i := l.getD (v % l.length) 0
        let k := if isGroup then x.groups.length else x.blocks.length
        many [
          updBatch p (fun b => b.setUse isGroup i true false),
          setSeq p q (some (if isGroup then { x with groups := x.groups ++ [i] } else { x with blocks := x.blocks ++ [i] })),
          putB p (s.tableAt p q isGroup k) 4 (i + 2 ^ 31),
          zeroUnit p isGroup i ]

/-- A sequence enters the step with its cache allocated. -/
def enterStep (p q new : Nat) : Act :=
  .get fun s => withA (mget none (s.batch p).seqs q) fun x => many [
    many (List.replicate (x.needs new).1 (takeUnit p q false)),
    many (List.replicate (x.needs new).2 (takeUnit p q true)),
    .get fun s => withA (mget none (s.batch p).seqs q) fun x => setSeq p q (some { x with new := new, inStep := true }) ]

/-- The sequences left out: counted and logged. -/
def leaveOut (p : Nat) (out : List Nat) : Act :=
  .get fun s => .seq
    (forA out (fun q => .seq (bump R.SEQ_KV_STALL_COUNT 1 0 p)
      (logEv 4 srcSeq 5 5 (s.batchCtx p + q * 2 ^ 16 + (s.reg R.SEQ_STEP_NUM_STEP 0 p + 1) % 2 ^ 32 * 2 ^ 32))))
    (updBatch p fun b => { b with leftOut := out, left := if out.isEmpty then 0 else b.left + 1 })

/-! ### Step 6: pieces (R163–R165) -/

/-- The length of a sequence once the step's append is done, and its bucket. -/
def SeqS.len (x : SeqS) : Nat := x.qpos + x.new
def bucketOf (l : Nat) : Nat := max 4 (Nat.clog 2 l)

/-- A piece of a head. -/
structure Piece where
  seq : Nat
  x : SeqS
  head : Nat
  i : Nat
  of_ : Nat
  lo : Nat
  hi : Nat
  deriving DecidableEq, Repr

def Piece.bucket (p : Piece) : Nat := bucketOf p.x.len
def Piece.cost (p : Piece) : Nat := cdiv (p.hi - p.lo) 64 * 64

/-- The pieces of one head (R164); SPLIT_MIN 17 splits nothing. -/
def headPieces (split q : Nat) (x : SeqS) (h : Nat) : List Piece :=
  let l := x.len
  if bucketOf l < split || decide (1 < x.new) then [⟨q, x, h, 0, 1, 0, l⟩]
  else
    let w := 2 ^ (split - 1)
    (List.range (cdiv l w)).map (fun i => ⟨q, x, h, i, cdiv l w, i * w, min l ((i + 1) * w)⟩)

/-- The pieces of a step in the order of R165. -/
def State.pieces (s : State) (p : Nat) : List Piece :=
  let l := ((s.batch p).step.map (fun e => ((List.range (s.reg R.SEQ_KV_SHAPE_KV_HEADS 0 p)).map (headPieces (s.reg R.SEQ_ATT_CFG_SPLIT_MIN) e.1 e.2)).flatten)).flatten
  l.mergeSort (fun a b => decide (b.bucket ≤ a.bucket))

/-- An attention clause in the making: its core and pieces. -/
abbrev AttClause := Nat × List Piece

/-- One piece goes to the core with the least load (R165). `open_` holds the open clause of each core. -/
def placePiece (cores : List Nat) (cap : Nat) (acc : SMap Nat × SMap (List Piece) × List AttClause) (x : Piece) : SMap Nat × SMap (List Piece) × List AttClause :=
  match bestBy (fun a b => decide (mget 0 acc.1 a < mget 0 acc.1 b)) cores with
  | none => acc
  | some c =>
    let o := mget [] acc.2.1 c
    let load := mins acc.1 c (mget 0 acc.1 c + x.cost)
    if (match o with | y :: _ => decide (y.bucket = x.bucket) | [] => false) && decide (o.length < cap) then (load, mins acc.2.1 c (o ++ [x]), acc.2.2)
    else (load, mins acc.2.1 c [x], if o.isEmpty then acc.2.2 else acc.2.2 ++ [(c, o)])

/-- The attention clauses of one layer, in the order in which they close. -/
def State.attClauses (s : State) (p : Nat) : List AttClause :=
  let cores := s.partCores p
  let r := (s.pieces p).foldl (placePiece cores (s.reg R.SEQ_ATT_CFG_HEADS_PER_CORE)) ([], [], [])
  r.2.2 ++ cores.filterMap (fun c => match mget [] r.2.1 c with
    | [] => none
    | l => some (c, l))

/-! ### Streams of a step (R324) -/

/-- Streams and the sequences they serve, listed by core. -/
def State.streamLists (s : State) (p : Nat) : List (Nat × List Nat) :=
  let cores := s.partCores p
  let ns := (((s.batch p).step.filter (fun e => e.2.hasStream)).map (fun e => e.2.stream)).eraseDups
  let lists := ns.foldl (fun (m : SMap (List Nat)) n =>
    let c := match cores.find? (fun c => s.strOn n c) with
      | some c => some c
      | none => bestBy (fun a b => decide ((mget [] m a).length < (mget [] m b).length)) cores
    match c with
    | some c => mins m c (mget [] m c ++ [n])
    | none => m) []
  (cores.map (fun c =>
    let l := mget [] lists c
    (List.range (cdiv l.length 256)).map (fun i => (c, (l.drop (256 * i)).take 256)))).flatten

/-! ### The plan (R320) and the clauses of a step (R324, R325) -/

/-- A plan entry, or why it cannot be used: ERR_CODE 2 invalid, 3 not readable. -/
def State.planEntry (s : State) (p i : Nat) : Nat ⊕ Nat :=
  match s.daRead hubXlt (s.batchCtx p) (s.reg R.SEQ_PLAN_BASE_ADDR 0 p * 64 + 64 * i) 64 with
  | .bad _ => .inl 3
  | .ok e =>
    let kind := bits e 0 8
    let prog := bits e 16 16
    let pa := s.progPa p prog
    if kind = 0 then .inr e
    else if 3 < kind || (if kind = 2 then bits e 8 8 = 255 else bits e 8 8 ≠ 0) || 1 < bits e 32 8 || bits e 40 24 ≠ 0 || s.reg R.SEQ_PROG_CFG_ENTRIES 0 p ≤ prog || !s.progPlace p then .inl 2
    else if (s.grp pa).isNone || (s.badUnit pa 64).isSome then .inl 3
    else if !progOk (s.dramGet pa 64) then .inl 2
    else .inr e

/-- The plan's entries up to its end, at most 256, or the first failure. -/
def State.planFrom (s : State) (p : Nat) : Nat → Nat → Nat ⊕ List Nat
  | _, 0 => .inr []
  | i, n + 1 => match s.planEntry p i with
    | .inl e => .inl e
    | .inr e => if bits e 0 8 = 0 then .inr [] else match State.planFrom s p (i + 1) n with
      | .inl c => .inl c
      | .inr l => .inr (e :: l)

/-- A clause of the step in the making: entry, core, first work-record row, the sequences and streams it serves, and its
work record as bytes with their number. -/
structure StepClause where
  e : Nat
  idx : Nat
  core : Nat
  rows : Nat
  seqs : List Nat
  streams : List Nat
  bytes : Nat
  deriving DecidableEq, Repr

/-- A head work record (R166). -/
def State.headRecord (s : State) (p layer step : Nat) (l : List Piece) : Nat :=
  1 + layer * 2 ^ 8 + l.length * 2 ^ 16 + step % 2 ^ 32 * 2 ^ 32 + s.reg R.SEQ_KV_POOL_BASE_ADDR 0 p * 2 ^ 64 +
  s.reg R.SEQ_KV_SCALE_BASE_ADDR 0 p * 2 ^ 128 + s.reg R.SEQ_KV_TABLE_BASE_ADDR 0 p * 2 ^ 192 +
  s.blockBytes p % 2 ^ 32 * 2 ^ 256 + s.groupBytes p % 2 ^ 32 * 2 ^ 288 +
  ((List.range l.length).filterMap (fun i => l[i]?.map (fun x =>
    (x.seq + x.head * 2 ^ 16 + (Config.queryHeads p % 64 + 1) * 2 ^ 24 + x.x.len * 2 ^ 32 + x.x.qpos * 2 ^ 64 + x.x.new * 2 ^ 96 +
     x.lo * 2 ^ 128 + x.hi * 2 ^ 160 + x.i % 256 * 2 ^ 192 + x.of_ % 256 * 2 ^ 200 + x.bucket * 2 ^ 208) * 2 ^ (512 + 512 * i)))).sum

/-- A stream work record (R186); ROW and FLAGS are written when the clause starts. -/
def State.streamRecord (s : State) (step : Nat) (l : List Nat) : Nat :=
  2 + l.length * 2 ^ 16 + step % 2 ^ 32 * 2 ^ 32 +
  ((List.range l.length).map (fun i =>
    let n := l.getD i 0
    (n + s.strLen n * 2 ^ 32 + s.reg R.SEQ_STREAM_TABLE_FMT 0 n * 2 ^ 40) * 2 ^ (512 + 64 * i))).sum

/-- The clauses of one plan entry. -/
def State.entryClauses (s : State) (p step idx e : Nat) : List StepClause :=
  let all := (s.batch p).step.map Prod.fst
  match bits e 0 8 with
  | 1 => (s.partCores p).map (fun c => ⟨e, idx, c, 0, all, [], 0⟩)
  | 2 => (s.attClauses p).map (fun a => ⟨e, idx, a.1, 1, (a.2.map Piece.seq).eraseDups, [], s.headRecord p (bits e 8 8) step a.2⟩)
  | _ => (s.streamLists p).map (fun a => ⟨e, idx, a.1, cdiv (64 + 8 * a.2.length) 512,
      ((s.batch p).step.filter (fun x => x.2.hasStream && a.2.contains x.2.stream)).map Prod.fst, a.2, s.streamRecord step a.2⟩)

/-- The smaller of two allowances, 0 meaning none. -/
def minNz (a b : Nat) : Nat := if a = 0 then b else if b = 0 then a else min a b

/-- The clause as it is released (R315, R324, R325); `j` is its first work-record row. -/
def State.releaseClause (s : State) (p step stamp j : Nat) (c : StepClause) : ClauseS :=
  let pe := s.dramGet (s.progPa p (bits c.e 16 16)) 64
  let served := (s.batch p).step.filter (fun x => c.seqs.contains x.1)
  let cls := served.foldl (fun m x => max m x.2.cls) 0
  let cores := s.partCores p
  let rank := (cores.filter (fun g => decide (g < c.core))).length
  let allow := minNz (bits pe 128 32) ((s.batch p).step.foldl (fun m x => minNz m x.2.tokenDl) 0)
  let g1 := if bits c.e 0 8 = 1 then s.workBase p else s.workBase p + 0x100000 + 512 * j
  { part := p, ctx := s.batchCtx p, queue := 32768, n := step, tag := 0, core := c.core, dclass := cls, bclass := cls, eclass := cls,
    accept := stamp, ord := false, sig := false, allow := allow, deadline := if allow = 0 then none else some (stamp + allow),
    policy := s.reg R.SEQ_BATCH_CFG_POLICY 0 p, replays := s.reg R.SEQ_BATCH_CFG_REPLAYS 0 p, runs := 0, miss := false,
    args := [g1] ++ (List.range 7).map (fun i => bits c.e (64 + 64 * i) 64) ++ [rank, cores.length, step, s.workBase p, 0, 0, 0],
    code := bits pe 0 64, rows := bits pe 64 16, row := bits pe 80 16, entry := bits pe 96 32, sem := 0, st := .waiting,
    waitBase := stamp, slot := 0, susAt := 0, seqs := c.seqs, streams := c.streams, plan := c.idx, ran := false, first := false }

/-- The step record (R323). -/
def writeStepRecord (p step : Nat) : Act :=
  .get fun s =>
    let l := (s.batch p).step
    let base := s.workBase p
    .seq (putB p base 64 (step % 2 ^ 32 + l.length * 2 ^ 32 + (l.map (fun e => e.2.new)).sum % 2 ^ 32 * 2 ^ 64))
      (forA ((List.range l.length).filterMap (fun i => l[i]?.map (fun e => (i, e)))) (fun e =>
        let q := e.2.1
        let x := e.2.2
        putB p (s.entryAt p e.1) 64
          (q + (b2n x.first + b2n x.lastChunk * 2 + b2n x.hasStream * 4) * 2 ^ 16 + bucketOf x.len * 2 ^ 24 + x.qpos * 2 ^ 32 + x.new * 2 ^ 64 +
           (if x.decoding then x.last * 2 ^ 96 else (x.prompt + 4 * x.qpos) % 2 ^ 64 * 2 ^ 128) + 0xFF * 2 ^ 224 + x.stream * 2 ^ 240 +
           bits x.raw 448 64 * 2 ^ 256 + bits x.raw 416 32 * 2 ^ 320 + x.count % 2 ^ 32 * 2 ^ 352)))

/-- The batch halts (R326). -/
def haltBatch (p code : Nat) : Act :=
  .get fun s => many [
    setR R.SEQ_STEP_STATUS_STATE 3 0 p, setR R.SEQ_STEP_STATUS_ERR 1 0 p, setR R.SEQ_STEP_STATUS_ERR_CODE code 0 p,
    logEv 4 srcSeq 5 4 (s.batchCtx p + s.reg R.SEQ_STEP_NUM_STEP 0 p * 2 ^ 32),
    updBatch p fun b => { b with seqs := b.seqs.map (fun e => (e.1, e.2.map (fun x => { x with inStep := false }))) } ]

/-- The first work-record row of each clause, in release order. -/
def rowStarts : Nat → List StepClause → List (Nat × StepClause)
  | _, [] => []
  | j, c :: r => (j, c) :: rowStarts (j + c.rows) r

/-- Steps 6 and 7: the step number, the records, and the release of the plan. -/
def runStep (p : Nat) (cs : List StepClause) (step : Nat) : Act :=
  .get fun s =>
    let stamp := s.count 4
    many [
      setR R.SEQ_STEP_NUM_STEP step 0 p,
      forA (List.range 13) (fun k => setR R.SEQ_BUCKET_SEQUENCES (((s.batch p).step.filter (fun e => decide (bucketOf e.2.len = k + 4))).length) 0 k),
      writeStepRecord p step,
      forA (rowStarts 0 cs) (fun e => whenA (decide (0 < e.2.rows)) (forA (List.range e.2.rows) (fun r =>
        putB p (s.workBase p + 0x100000 + 512 * (e.1 + r)) 512 (e.2.bytes / 2 ^ (4096 * r) % 2 ^ 4096)))),
      updBatch p (fun b => { b with
        release := stamp, late := false, resume := false,
        held := (rowStarts 0 cs).map (fun e => (e.2.idx, decide (bits e.2.e 32 8 = 1), s.releaseClause p step stamp e.1 e.2)) }),
      setR R.SEQ_STEP_STATUS_STATE 2 0 p,
      planAdvance p ]

/-- Step 5 onward. -/
def stepFive (p : Nat) : Act :=
  .get fun s =>
    let news := s.newOf p
    let plan := s.allocPlan p news
    if plan.2 then .seq (setR R.SEQ_STEP_STATUS_STATE 1 0 p) (updBatch p fun b => { b with resume := true })
    else many [
      updBatch p (fun b => { b with resume := false }),
      leaveOut p plan.1,
      forA ((s.batch p).list.filterMap (fun e => news.find? (fun n => decide (n.1 = e.1) && !plan.1.contains n.1))) (fun n => enterStep p n.1 n.2),
      .get fun s =>
        let step := (s.reg R.SEQ_STEP_NUM_STEP 0 p + 1) % 2 ^ 32
        match s.planFrom p 0 256 with
        | .inl code => haltBatch p code
        | .inr es =>
          let cs := ((List.range es.length).map (fun i => s.entryClauses p step i (es.getD i 0))).flatten
          if s.reg R.SEQ_WORK_CFG_ROWS 0 p < (cs.map StepClause.rows).sum then haltBatch p 1 else runStep p cs step ]

/-- The number of sequences a batch holds is in its status. -/
def noteActive (p : Nat) : Act := .get fun s => setR R.SEQ_STEP_STATUS_ACTIVE (s.batch p).list.length 0 p

/-- STEP_BOUNDARY: once every clause of the last step has ended (R32), the boundary runs in the order of R321; with no
sequence in the batch the Derailleur waits for a request. A halted batch waits for software (R326). -/
def execStepBoundary (part : BitVec 4) :=
  let p := part.toNat
  does (.get fun s =>
    if s.reg R.SEQ_BATCH_CFG_ENABLE 0 p = 0 || decide (s.reg R.SEQ_STEP_STATUS_STATE 0 p = 3) || s.stepLive p || !(s.batch p).held.isEmpty || s.killing (s.batchCtx p) then .nop
    else if (s.batch p).resume then stepFive p
    else many [
      deliverAll p, stepOver p, retireDue p,
      many (List.replicate (s.batch p).reqs.length (admitOne p)),
      noteActive p,
      .get fun s => if (s.batch p).list.isEmpty then setR R.SEQ_STEP_STATUS_STATE 0 0 p else stepFive p ])

end Sys2Proof.Machine
end

