-- ==== Sys2Proof/Machine/Cancel.lean ====
section
/-! DEFINITION. The cancel of a queue (R263), alone and as a step of a kill (R497). -/

namespace Sys2Proof.Machine

/-- The transfer of a descriptor. -/
def State.descXfer (s : State) (q n : Nat) : Option Nat :=
  (s.die.xfers.find? (fun e => match e.2 with
    | some v => decide (v.org = .desc q n)
    | none => false)).map Prod.fst

/-- A batch is between steps, or runs none. -/
def State.atRest (s : State) (p : Nat) : Bool := s.reg R.SEQ_BATCH_CFG_ENABLE 0 p = 0 || decide (s.reg R.SEQ_STEP_STATUS_STATE 0 p ≠ 2)

/-- A request is cancelled: one that waits for admission at once, an admitted one at the boundary (R32). -/
def cancelRequest (q : Nat) (d : DescS) (status reason : Nat) : Act :=
  .get fun s =>
    let p := s.qf R.QUE_QCFG_PART q
    let b := s.batch p
    match b.list.find? (fun e => decide (e.2.queue = q) && decide (e.2.n = d.n)) with
    | some e =>
      if s.atRest p then .seq (retireSeq p e.1 status reason) (noteActive p)
      else setSeq p e.1 (some { e.2 with retire := some (e.2.retire.getD (status, reason)) })
    | none => .seq
        (updBatch p fun b => { b with
          reqs := b.reqs.filter (fun r => decide (r.queue ≠ q) || decide (r.n ≠ d.n)),
          cancels := b.cancels.filter (fun c => decide (c.1 ≠ q) || decide (c.2.1 ≠ d.n)) })
        (finalRec q d.n status 0 (if d.raw % 256 = 4 then reason else 0) d.raw)

/-- A fetched descriptor that has not completed ends: DMA descriptors with CANCELLED, the others with `status`. -/
def cancelDesc (q status : Nat) (d : DescS) : Act :=
  .get fun s =>
    match s.qf R.QUE_QCFG_KIND q with
    | 0 => match s.descXfer q d.n with
      | some x => cancelXfer x
      | none => endDesc q d.n stCancelled (q / 8192) (dmaExtra 0 d.raw)
    | 1 => match s.clauseList.find? (fun k => decide (k.2.queue = q) && decide (k.2.n = d.n)) with
      | some k => endClause k.1 status 0 0
      | none => endDesc q d.n status (q / 8192) (bareExtra d.raw)
    | _ => cancelRequest q d status (if status = stCancelled then 4 else 5)

/-- Descriptor n between HEAD and TAIL enters the block and completes without being executed. -/
def cancelEnter (q status n raw : Nat) : Act :=
  .get fun s =>
    let die := q / 8192
    many [
      updQueue q (fun k => { dropStamp n k with fetched := k.fetched ++ [⟨n, k.stampOf n, raw, true, none, false, 0, die, 0, bits raw 224 32⟩] }),
      setQ R.QUE_HEAD_HEAD q (n + 1),
      match s.qf R.QUE_QCFG_KIND q with
      | 0 => endDesc q n stCancelled die (dmaExtra 0 raw)
      | 1 => endDesc q n status die (bareExtra raw)
      | _ => endDesc q n status die (reqExtra 0 2 (if raw % 256 = 4 then (if status = stCancelled then 4 else 5) else 0) raw) ]

/-- `count` descriptors from descriptor n are fetched and completed. After a fetch that faults (`blind`) each is completed
from its number alone. -/
def cancelFrom (q status : Nat) : Nat → Nat → Bool → Act
  | 0, _, _ => .nop
  | count + 1, n, blind => .get fun s =>
    let die := q / 8192
    let ctx := s.qf R.QUE_QCFG_CTX q
    let next := cancelFrom q status count ((n + 1) % 2 ^ 32)
    if blind then .seq (cancelEnter q status n 0) (next true)
    else .seq (readAct die ctx (s.ringAt q n) 128 8 false true)
      (match s.daRead die ctx (s.ringAt q n) 128 with
       | .ok raw => .seq (cancelEnter q status n raw) (next false)
       | .bad c => many [queueErr q 1 c, cancelEnter q status n 0, next true])

/-- Every descriptor of a queue, fetched or not, ends (R263). -/
def cancelQueue (q status : Nat) : Act :=
  .get fun s =>
    let h := s.qf R.QUE_HEAD_HEAD q
    many [
      setQ R.QUE_QCFG_ENABLE q 0,
      forA ((s.queue q).fetched.filter (fun d => d.endSt.isNone)) (cancelDesc q status),
      cancelFrom q status ((s.qf R.QUE_TAIL_TAIL q + 2 ^ 32 - h) % 2 ^ 32) h false,
      queCmdCheck (q / 8192) ]

/-- QUEUE_CANCEL. -/
def execQueueCancel (port : Port) (die : BitVec 2) (q : BitVec 13) :=
  does (queCmd port die.toNat q.toNat 2 (cancelQueue (qNum die q) stCancelled))

end Sys2Proof.Machine
end

