-- ==== Sys2Proof/Machine/InpOps.lean ====
section
/-! DEFINITION. What the input pipeline is told by cameras and microphones: regions at a frame's start, frames, audio blocks
(R434–R437, R440, R441). -/

namespace Sys2Proof.Machine

/-! ### Log entries of class 0x0B -/

/-- A log entry of the camera side: stream or switch, FRAME, FLAGS or CAUSE. -/
def logIsp (ev idx frame x : Nat) : Act := logEv 4 srcIsp 0xB ev (idx + frame % 2 ^ 32 * 2 ^ 16 + x % 2 ^ 16 * 2 ^ 48)

/-- A log entry of the audio side and of the input pipeline: channel or pipe, and a block, sample or batch number. -/
def logAud (ev ch num : Nat) : Act := logEv 4 srcAud 0xB ev (ch + num % 2 ^ 32 * 2 ^ 16)
def logInp (ev pipe num : Nat) : Act := logEv 4 srcInp 0xB ev (pipe + num % 2 ^ 32 * 2 ^ 16)

/-- A Hub block runs: it is out of reset, the Hub die is in Run and no sag save runs (R445, R460). -/
def State.hubUp (s : State) (b : Nat) : Bool := !s.inReset 3 b && s.pwr.sag.isNone && decide (s.reg R.PWR_STATE_HUB = 0)

/-! ### Pipes -/

def State.pipe (s : State) (n : Nat) : PipeS := mget PipeS.reset s.inp n
def updPipe (n : Nat) (f : PipeS → PipeS) : Act := .put (.inp n f)

/-- A pipe runs: its EN and that of the block, and no fault has stopped it. -/
def State.pipeOn (s : State) (n : Nat) : Bool := s.hubUp 2 && s.bit R.INP_CTL_EN && s.bit R.INP_PIPE_CFG_EN 0 n && !(s.pipe n).stopped

def State.pipeCtx (s : State) (n : Nat) : Nat := s.reg R.INP_PIPE_CFG_CTX 0 n

/-- LOW_WATER or ERR of a pipe is set, and its vector sent where it was 0 (R444, R520). -/
def pipeRaise (f : Fld) (n : Nat) : Act :=
  .get fun s => if s.bit f 0 n then .nop else .seq (setR f 1 0 n) (whenA (s.bit R.INP_PIPE_IRQ_EN 0 n) (msix (s.reg R.INP_PIPE_IRQ_VECTOR 0 n)))

/-- The pipe has a place for a sample: a buffer of a batch, or one of two places of its own (R440). -/
def PipeS.room (p : PipeS) : Bool := p.has || decide (p.buf.length < 2)

/-! ### Regions (R437) -/

/-- The regions of a record. -/
def roiList (r : Nat) : List RoiS := (List.range (bits r 32 8)).map (fun i => ⟨bits r (64 + 64 * i) 16, bits r (80 + 64 * i) 16, bits r (96 + 64 * i) 16, bits r (112 + 64 * i) 16⟩)

/-- At the FS of frame `n` of a stream, every pipe of it that cuts regions reads its record. -/
def roiFetch (st n : Nat) : Act :=
  .get fun s => forA ((List.range 16).filter (fun k => s.pipeOn k && s.bit R.INP_PIPE_CFG_ROI 0 k && !s.bit R.INP_PIPE_CFG_AUDIO 0 k && decide (s.reg R.INP_PIPE_CFG_SRC 0 k = st))) (fun k => .get fun s =>
    let da := s.reg R.INP_PIPE_ROI_ADDR_ADDR 0 k
    let got := match s.daRead hubXlt (s.pipeCtx k) da 72 with
      | .ok r => if bits r 0 32 = (n + 2 ^ 32 - 1) % 2 ^ 32 ∧ bits r 32 8 ≤ 8 then some (roiList r) else none
      | .bad _ => none
    .seq (readAct hubXlt (s.pipeCtx k) da 72 0 true false)
      (match got with
       | some l => updPipe k fun p => { p with roiHeld := some l, roiNow := p.roiNow.filter (fun e => decide (e.1 ≠ n)) ++ [(n, some l, false)] }
       | none => many [
           bump R.INP_PIPE_ROI_STALE_COUNT 1 0 k, logInp 14 k n,
           updPipe k fun p => { p with roiNow := p.roiNow.filter (fun e => decide (e.1 ≠ n)) ++ [(n, p.roiHeld, true)] } ]))

/-- A region limited to the frame, and whether it had to be. -/
def clipRoi (w h : Nat) (r : RoiS) : RoiS × Bool :=
  let x := min r.x w
  let y := min r.y h
  let c : RoiS := ⟨x, y, min r.w (w - x), min r.h (h - y)⟩
  (c, decide (c ≠ r))

/-! ### Frames (R434, R436, R440) -/

/-- A sample arrives at a pipe: it waits, or is dropped and counted. -/
def pipeTake (k : Nat) (m : SampS) : Act :=
  .get fun s => if (s.pipe k).room then updPipe k fun p => { p with buf := p.buf ++ [m] } else bump R.INP_PIPE_DROPPED_COUNT 1 0 k

/-- A frame that is not discarded reaches the pipes of its stream: one sample for each region, or one for the frame. -/
def deliverFrame (st num stamp flags : Nat) (yuv : Bool) (pix : List (List (List Nat))) : Act :=
  .get fun s =>
    let h := pix.length
    let w := (pix.getD 0 []).length
    forA ((List.range 16).filter (fun k => s.pipeOn k && !s.bit R.INP_PIPE_CFG_AUDIO 0 k && decide (s.reg R.INP_PIPE_CFG_SRC 0 k = st))) (fun k => .get fun s =>
      let roi := if s.bit R.INP_PIPE_CFG_ROI 0 k then (s.pipe k).roiNow.find? (fun e => decide (e.1 = num)) else none
      let stale := match roi with | some e => e.2.2 | none => false
      let whole : RoiS := ⟨0, 0, w, h⟩
      let l := match roi with
        | some (_, some l, _) => if l.isEmpty then [whole] else l
        | _ => [whole]
      .seq (updPipe k fun p => { p with roiNow := p.roiNow.filter (fun e => decide (e.1 ≠ num)) })
        (forA (List.range l.length) (fun i =>
          let c := clipRoi w h (l.getD i whole)
          .seq (whenA c.2 (bump R.INP_PIPE_ROI_CLIP_COUNT 1 0 k))
            (pipeTake k ⟨stamp, num, i, b2n stale * 4, flags, c.1.x, c.1.y, c.1.w, c.1.h, yuv, pix⟩))))

/-! ### Audio blocks (R434, R440) -/

/-- The channels of an audio pipe. -/
def State.pipeChans (s : State) (k : Nat) : List Nat := (List.range (s.reg R.INP_PIPE_CFG_NCH_M1 0 k + 1)).map (fun i => s.reg R.INP_PIPE_CFG_SRC 0 k + i)

/-- The audio pipes of a channel. -/
def State.chanPipes (s : State) (c : Nat) : List Nat :=
  (List.range 16).filter (fun k => s.pipeOn k && s.bit R.INP_PIPE_CFG_AUDIO 0 k && (s.pipeChans k).contains c)

/-- A block of a channel finds no space in the pipeline. -/
def State.blockFull (s : State) (c : Nat) : Bool := (s.chanPipes c).any (fun k => !(s.pipe k).room)

/-- The first block number from which a group's channels all have `m` consecutive blocks. -/
def groupStart (l : List BlkS) (chans : List Nat) (m : Nat) : Option Nat :=
  let has := fun (c n : Nat) => l.any (fun b => decide (b.ch = c) && decide (b.num = n))
  (l.map BlkS.num).find? (fun n => chans.all (fun c => (List.range m).all (fun i => has c (n + i))))

/-- A pipe forms a sample of every complete group of blocks there is room for. -/
def audioGather (k : Nat) : Act :=
  .get fun s =>
    let p := s.pipe k
    let chans := s.pipeChans k
    let m := s.reg R.INP_PIPE_OUT_OUT_W 0 k / 256
    if !p.room || m = 0 then .nop
    else withA (groupStart p.acc chans m) fun n =>
      let blk := fun (c i : Nat) => (p.acc.find? (fun b => decide (b.ch = c) && decide (b.num = n + i))).getD ⟨c, n, 0, 0, []⟩
      let pix := (List.range (256 * m)).map (fun i => chans.map (fun c => (blk c (i / 256)).data.getD (i % 256) 0))
      let marks := p.acc.foldl (fun f b => if n ≤ b.num ∧ b.num < n + m ∧ chans.contains b.ch then f ||| b.flags else f) 0
      updPipe k fun p => { p with
        acc := p.acc.filter (fun b => decide (n + m ≤ b.num)),
        buf := p.buf ++ [⟨(blk (chans.getD 0 0) 0).stamp, n, 0, 0, marks, 0, 0, 256 * m, 1, false, [pix]⟩] }

/-- A block is delivered to the pipes of its channel. -/
def deliverBlock (b : BlkS) : Act :=
  .get fun s => forA (s.chanPipes b.ch) (fun k => .seq (updPipe k fun p => { p with acc := p.acc ++ [b] }) (audioGather k))

/-! ### Disabling a pipe (R441) -/

/-- A pipe stops: its batch is abandoned, without READY and without its FREE count. -/
def pipeStop (k : Nat) : Act :=
  many [setR R.INP_PIPE_CFG_EN 0 0 k, setR R.INP_PIPE_STATUS_ACTIVE 0 0 k, updPipe k fun p => { PipeS.reset with batch := p.batch }]

/-- A pipe begins: sample indices count from 0 (R438). -/
def pipeStart (k : Nat) : Act := many [setR R.INP_PIPE_STATUS_ACTIVE 1 0 k, updPipe k fun _ => PipeS.reset]

end Sys2Proof.Machine
end

