-- ==== Sys2Proof/Machine/PwrOps.lean ====
section
/-! DEFINITION. Wake events (R446, R451, R453). -/

namespace Sys2Proof.Machine

/-- A log entry of class 0x09: die, state code or point, and a level, temperature or number of entries. -/
def logPwr (ev die b x : Nat) : Act := logEv 4 srcPwr 9 ev (die + b % 256 * 2 ^ 8 + x % 2 ^ 16 * 2 ^ 16)

def raisePwr (f : Fld) (bit : Nat) : Act := raiseEv f R.PWR_EVENT_MASK_EN R.PWR_EVENT_MASK_VECTOR bit

/-- Off ends: SYS_PWR_EN rises (R542, R544). -/
def leaveOff : Act :=
  many [
    .put (.pwr fun p => { p with off := none, offTrip := false, offWake := false }),
    .put (.pkg fun p => { p with sysPwr := true }), .put (.out (.pin 0 1)) ]

/-- A wake event for the package: from Retain, or from Off, where it is held for 10 ms (R453, R544). -/
def wakePkg (fromOff : Bool) : Act :=
  .get fun s => match s.pwr.off with
    | some t0 =>
      if !fromOff then .nop
      else if s.t < t0 + 10 * msU then .put (.pwr fun p => { p with offWake := true })
      else leaveOff
    | none => wakeDie 4

/-- The cascade has entered W2 (R428, R453). -/
def acousticWake : Act :=
  .get fun s => whenA (s.bit R.PWR_WAKE_SRC_ACOUSTIC) (.seq (wakePkg false) (wakeDie (s.reg R.AUD_WAKE_Q_QUEUE / 8192)))

end Sys2Proof.Machine
end

