-- ==== Sys2Proof/Machine/Audio.lean ====
section
/-! DEFINITION. Microphones, the hardware mute, the wake cascade and the pre-wake ring (R425–R433). -/

namespace Sys2Proof.Machine

def updAud (f : AudS → AudS) : Act := .put (.aud f)

def raiseAud (f : Fld) (bit : Nat) : Act := raiseEv f R.AUD_EVENT_MASK_EN R.AUD_EVENT_MASK_VECTOR bit

/-- The always-on audio logic has its clock: neither REFCLK nor the always-on supply is away (R548). -/
def State.aonAudio (s : State) : Bool := s.pkg.vaon && s.pkg.refclk

/-! ### Blocks (R426, R427) -/

/-- The TDM port of a channel, and whether it is a slave that has lost frame sync. -/
def chanTdm (c : Nat) : Option Nat := if c < 8 then none else some ((c - 8) / 16)
def State.tdmSync (s : State) (k : Nat) : Bool := if k = 0 then s.bit R.AUD_STATUS_TDM0_SYNC else s.bit R.AUD_STATUS_TDM1_SYNC
def setTdmSync (k v : Nat) : Act := if k = 0 then setR R.AUD_STATUS_TDM0_SYNC v else setR R.AUD_STATUS_TDM1_SYNC v

/-- Every sample of the channel is zero under the mute (R427). -/
def State.chanMuted (s : State) (c : Nat) : Bool := s.bit R.AUD_STATUS_MUTE && (decide (c < 8) || s.bit R.AUD_CTL_MUTE_TDM)

/-- AUDIO_BLOCK: a channel completes a block whose sample 0 left `ago` ticks before. Flags: 1 OVERRUN, 2 MUTED, 4 SETTLING. -/
def execAudioBlock (ch : Fin 40) (ago : Nat) (samples : List Int) :=
  does (.get fun s =>
    let c := ch.val
    if !s.hubUp 1 || !s.bit R.AUD_CTL_EN || !bitOf (s.reg R.AUD_CH_EN_EN) c then .nop
    else
      let lost := mget false s.aud.lost c || (match chanTdm c with
        | some k => !s.bit R.AUD_TDM_MASTER 0 k && !s.tdmSync k
        | none => false)
      let full := s.blockFull c
      let muted := s.chanMuted c
      let early := fun (i : Nat) => match s.aud.back with
        | some b => decide (c < 8 ∨ s.bit R.AUD_CTL_MUTE_TDM) && decide (s.t + 3 * ago * i / 255 < b + 3 * ago + 2 * msU)
        | none => false
      let settling := !muted && early 0
      let raw := fun (i : Nat) => ofSigned 24 (samples.getD i 0)
      let data := (List.range 256).map (fun i => if muted || full || early i then 0 else raw i)
      let flags := b2n (lost || full) + b2n muted * 2 + b2n settling * 4
      let num := mget 0 s.aud.blk c
      many [
        updAud (fun a => { a with blk := mset 0 a.blk c ((num + 1) % 2 ^ 32),
                                  lost := mset false a.lost c false }),
        whenA (lost || full) (many [bump R.AUD_OVERRUN_COUNT, raiseAud R.AUD_EVENT_OVERRUN 4, logAud 11 c num]),
        deliverBlock ⟨c, num, s.count 4 - ago, flags, data⟩ ])

/-- TDM_SYNC_LOSS: a slave port has been without frame sync for more than 2 frame periods. -/
def execTdmSyncLoss (k : BitVec 1) :=
  does (.get fun s => whenA (s.hubUp 1 && !s.bit R.AUD_TDM_MASTER 0 k.toNat) (.seq (setTdmSync k.toNat 0)
    (updAud fun a => { a with lost := (List.range 16).foldl (fun m i => mset false m (8 + 16 * k.toNat + i) true) a.lost })))

/-- TDM_FRAME_SYNC_GAIN. -/
def execTdmFrameSyncGain (k : BitVec 1) := does (.get fun s => whenA (s.hubUp 1) (setTdmSync k.toNat 1))

/-! ### Cascade states (R428) -/

/-- The cascade enters a state. -/
def wakeState (st : Nat) : Act := .get fun s => .seq (setR R.AUD_WAKE_STATE_STATE st) (updAud fun a => { a with since := s.t, fires := 0 })

/-- OFF ends once the cascade is enabled and the mute is over; the noise floor begins anew. EN to 0 and mute end every state. -/
def cascadeCheck : Act :=
  .get fun s =>
    let on := s.bit R.AUD_WAKE_CFG_EN && !s.bit R.AUD_STATUS_MUTE
    let st := s.reg R.AUD_WAKE_STATE_STATE
    if on && decide (st = 0) then .seq (wakeState 1) (updAud fun a => { a with noise := none, rise := 0, win := [], hops := [], coolTo := 0 })
    else if !on && decide (st ≠ 0) then wakeState 0
    else .nop

/-! ### Mute (R427) -/

/-- AUD_STATUS.MUTE takes a value. -/
def setMute (b : Bool) : Act :=
  .get fun s => whenA (s.bit R.AUD_STATUS_MUTE != b) (many [
    setR R.AUD_STATUS_MUTE (b2n b), raiseAud R.AUD_EVENT_MUTE_CHANGE 0, logAud 7 0 0, cascadeCheck ])

/-- Outputs of the mute: MUTE_IND (1), the PDM clocks (2) and the microphone bias (3). -/
def mutePins (ind clk : Nat) : Act := many [.put (.out (.pin 1 ind)), .put (.out (.pin 2 clk)), .put (.out (.pin 3 clk))]

/-- MUTE_ASSERT. -/
def execMuteAssert :=
  does (many [updAud (fun a => { a with pin := true, relAt := none, back := none }), mutePins 1 0, setMute true])

/-- MUTE_DEASSERT: the 10 ms begin. -/
def execMuteDeassert :=
  does (.get fun s => whenA s.aud.pin (.seq (updAud fun a => { a with pin := false, relAt := some s.t }) (.put (.out (.pin 1 0)))))

/-- MUTE_RELEASE: after 10 ms without the pin clocks and bias return. -/
def execMuteRelease (dt : Nat) :=
  does (after dt (.get fun s => withA s.aud.relAt fun r =>
    whenA (!s.aud.pin && decide (r + 10 * msU ≤ s.t)) (many [
      updAud (fun a => { a with relAt := none, back := some s.t }), mutePins 0 1, setMute false ])))

/-! ### W0 (R429) -/

/-- E of a mean square r ≤ 1 that is not zero: ⌊40·log10 r⌋ quarter-decibels; r ≥ 2⁻⁵⁴ needs no more than 651 of them. -/
def energyQdb (num den : Nat) : Int :=
  match findUp (fun k => decide (den ^ 40 ≤ num ^ 40 * 10 ^ k)) 0 700 with
  | some k => -(k : Int)
  | none => -700

/-- The networks' tables (R430). `rd off n` reads n bytes of the tables; a layer is its IN, OUT, SHIFT and its offset. -/
def layersFrom (rd : Nat → Nat → Nat) (outMax : Nat) : Nat → Nat → Nat → Option (List (Nat × Nat × Nat × Nat))
  | 0, _, _ => some []
  | left + 1, off, input =>
    let i := rd off 2
    let o := rd (off + 2) 2
    let sh := rd (off + 4) 1
    let last := decide (left = 0)
    if i ≠ input ∨ 31 < sh ∨ (last = true ∧ o ≠ 1) ∨ (last = false ∧ (o < 1 ∨ outMax < o)) then none
    else
      match layersFrom rd outMax left (off + cdiv (8 + 4 * o + o * i) 64 * 64) o with
      | some r => some ((i, o, sh, off) :: r)
      | none => none

/-- A quotient by a power of two, to the nearest even (R430). -/
def rneShift (v : Int) (sh : Nat) : Int :=
  let d : Int := (2 ^ sh : Nat)
  let q := v.fdiv d
  let r := v - q * d
  if 2 * r < d then q else if d < 2 * r then q + 1 else if q % 2 = 0 then q else q + 1

/-- One layer: outputs limited to 0–127, the last layer's to 0–255. -/
def layerOut (rd : Nat → Nat → Nat) (last : Bool) (l : Nat × Nat × Nat × Nat) (x : List Int) : List Int :=
  (List.range l.2.1).map (fun o =>
    let b := toSigned 32 (rd (l.2.2.2 + 8 + 4 * o) 4)
    let w := fun (k : Nat) => toSigned 8 (rd (l.2.2.2 + 8 + 4 * l.2.1 + o * l.1 + k) 1)
    let s := (List.range l.1).foldl (fun a k => a + w k * x.getD k 0) b
    max 0 (min (if last then 255 else 127) (rneShift s l.2.2.1)))

/-- The chain of layers. -/
def netOut (rd : Nat → Nat → Nat) : List (Nat × Nat × Nat × Nat) → List Int → List Int
  | [], x => x
  | [l], x => layerOut rd true l x
  | l :: r, x => netOut rd r (layerOut rd false l x)

/-- The last `n` feature frames, the oldest first; a frame from before the features began is as Config leaves it. -/
def featIn (hops : List (List Int)) (n : Nat) : List Int :=
  ((List.range n).map (fun i =>
    let h := hops.getD (n - 1 - i) []
    (List.range 40).map (fun b => if h.isEmpty then toSigned 8 (Config.melBand [] b) else h.getD b 0))).flatten

/-- W1's tables in always-on SRAM, W2's in DRAM. -/
def State.w1Rd (s : State) (off n : Nat) : Nat := memRead s.aon (0x20000 + off) n
def State.w2Base (s : State) : Nat := s.reg R.AUD_W2_BASE_PA * 64
def State.w2Rd (s : State) (off n : Nat) : Nat := s.dramGet (s.w2Base + off) n
def State.w1Net (s : State) : Option (List (Nat × Nat × Nat × Nat)) := layersFrom s.w1Rd 64 2 0 1280

/-- W2's network: every table readable, in groups with PART_VALID 0. -/
def State.w2Net (s : State) : Option (List (Nat × Nat × Nat × Nat)) :=
  let okAt := fun (off n : Nat) => (unitsOf (s.w2Base + off) n).all (fun u => match s.grp (64 * u) with
    | some g => !s.bit R.DMC_GROUP_PART_VALID (paDie (64 * u)) g
    | none => false) && (s.badUnit (s.w2Base + off) n).isNone
  match layersFrom s.w2Rd 128 3 0 4000 with
  | some l => if l.all (fun k => okAt k.2.2.2 (8 + 4 * k.2.1 + k.2.1 * k.1)) then some l else none
  | none => none

/-- A stage's tables are not usable: the cascade stays where it is. -/
def modelErr : Act := .seq (raiseAud R.AUD_EVENT_MODEL_ERR 3) (.get fun s => logAud 10 (s.reg R.AUD_WAKE_CFG_CHAN) 0)

/-- The noise floor after a frame of energy `e` (R429). -/
def noiseStep (a : AudS) (e : Int) : AudS :=
  match a.noise with
  | none => { a with noise := some e, rise := 0 }
  | some n => if e < n then { a with noise := some e, rise := 0 }
    else if a.rise + 1 = 62 then { a with noise := some (n + 1), rise := 0 } else { a with rise := a.rise + 1 }

/-- A frame of energy `e`: the floor, the count of frames, and W1 where W0 fires. -/
def w0Energy (e : Int) : Act :=
  .get fun s =>
    let a := noiseStep s.aud e
    let n := a.noise.getD 0
    let hit := decide ((s.reg R.AUD_WAKE_CFG_W0_MARGIN : Int) ≤ e - n)
    let fires := if hit then s.aud.fires + 1 else 0
    let fire := decide (s.reg R.AUD_WAKE_CFG_W0_FRAMES ≤ fires) && decide (s.reg R.AUD_WAKE_STATE_STATE = 1) && decide (s.aud.coolTo ≤ s.t)
    many [
      updAud (fun _ => { a with fires := fires }),
      setR R.AUD_WAKE_STATE_NOISE (min 255 (-n).toNat),
      whenA fire (if s.w1Net.isNone then modelErr else many [
        wakeState 2, bump R.AUD_WAKE_COUNT_W1, updAud fun a => { a with win := [], hops := [] } ]) ]

/-- W0_FRAME: 256 samples of the wake channel. The energy of silence is left open. -/
def execW0Frame (samples : List Int) :=
  does (.get fun s =>
    if !s.aonAudio || decide (s.reg R.AUD_WAKE_STATE_STATE = 0) then .nop
    else
      let sq : Nat := (List.range 256).foldl (fun a i => a + ((toSigned 24 (ofSigned 24 (samples.getD i 0))).natAbs) ^ 2) 0
      if sq = 0 then freshV fun v => w0Energy (-((v % 2 ^ 31 : Nat) : Int)) else w0Energy (energyQdb sq (256 * 2 ^ 46)))

/-! ### W1, W2, W3 (R428, R430, R431) -/

/-- W1_HOP: 160 samples complete a window; C1, and W2 where it reaches THR1. -/
def execW1Hop (samples : List Int) :=
  does (.get fun s =>
    let st := s.reg R.AUD_WAKE_STATE_STATE
    if !s.aonAudio || (decide (st ≠ 2) && decide (st ≠ 3)) then .nop
    else
      let win := (s.aud.win ++ samples).drop ((s.aud.win ++ samples).length - 400)
      let feat := (List.range 40).map (fun b => toSigned 8 (Config.melBand win b))
      let hops := (feat :: s.aud.hops).take 100
      match s.w1Net with
      | none => .seq (updAud fun a => { a with win := win, hops := hops }) modelErr
      | some l =>
        let c1 := (netOut s.w1Rd l (featIn hops 32)).getD 0 0
        many [
          updAud (fun a => { a with win := win, hops := hops }),
          setR R.AUD_WAKE_STATE_C1 c1.toNat,
          whenA (decide (st = 2) && decide (s.reg R.AUD_WAKE_THR_THR1 ≤ c1.toNat))
            (if s.w2Net.isNone then modelErr else many [wakeState 3, bump R.AUD_WAKE_COUNT_W2, acousticWake]) ])

/-- W2_HOP: C2 at a hop once the Hub die runs, and W3 where it reaches THR2. -/
def execW2Hop :=
  does (.get fun s =>
    if decide (s.reg R.AUD_WAKE_STATE_STATE ≠ 3) || !s.hubUp 1 || !s.aonAudio then .nop
    else match s.w2Net with
      | none => modelErr
      | some l =>
        let c2 := (netOut s.w2Rd l (featIn s.aud.hops 100)).getD 0 0
        .seq (setR R.AUD_WAKE_STATE_C2 c2.toNat)
          (whenA (decide (s.reg R.AUD_WAKE_THR_THR2 ≤ c2.toNat)) (.seq (wakeState 4) (bump R.AUD_WAKE_COUNT_W3))))

/-- HOLD1_TIMEOUT, HOLD2_TIMEOUT: units of 10 ms in the state without a detection. -/
def execHold1Timeout (dt : Nat) :=
  does (after dt (.get fun s => whenA (decide (s.reg R.AUD_WAKE_STATE_STATE = 2) &&
    decide (s.aud.since + s.reg R.AUD_WAKE_THR_HOLD1_MS * 10 * msU ≤ s.t)) (wakeState 1)))

def execHold2Timeout (dt : Nat) :=
  does (after dt (.get fun s => whenA (decide (s.reg R.AUD_WAKE_STATE_STATE = 3) &&
    decide (s.aud.since + s.reg R.AUD_WAKE_THR_HOLD2_MS * 10 * msU ≤ s.t)) (wakeState 1)))

/-- COOL_DOWN_END. -/
def execCoolDownEnd (dt : Nat) := does (after dt (.get fun s => whenA (decide (s.aud.coolTo ≤ s.t)) (updAud fun a => { a with coolTo := 0 })))

/-- A descriptor of the Hub die enters a queue: ring entry TAIL, then a doorbell (R259). True of `entryOk` says that it does. -/
def State.entryOk (s : State) (q kind : Nat) : Bool :=
  decide (s.qf R.QUE_QCFG_KIND q = kind) && decide (s.qf R.QUE_QCFG_PRODUCER q = 0) && decide (s.qf R.QUE_QCFG_ENABLE q = 1) &&
  decide ((s.qf R.QUE_TAIL_TAIL q + 2 ^ 32 - s.qf R.QUE_HEAD_HEAD q) % 2 ^ 32 < s.depth q)

def hubEnter (q raw : Nat) : Act :=
  .get fun s =>
    let ctx := s.qf R.QUE_QCFG_CTX q
    .seq (daPut hubXlt ctx (s.ringAt q (s.qf R.QUE_TAIL_TAIL q)) 128 raw 0 true false)
      (doorbell q ((s.qf R.QUE_TAIL_TAIL q + 1) % 2 ^ 32))

/-- WAKE_HANDOFF (R431): the template is read, its arguments are set, and it enters the queue once the queue's die is in Run. -/
def execWakeHandoff :=
  does (.get fun s =>
    let q := s.reg R.AUD_WAKE_Q_QUEUE
    let ctx := s.qf R.QUE_QCFG_CTX q
    let da := s.reg R.AUD_WAKE_Q_DESC
    let seg := s.reg R.AUD_RING_SEG_SEG
    if decide (s.reg R.AUD_WAKE_STATE_STATE ≠ 4) || !s.hubUp 1 then .nop
    else if !s.dieUp (q / 8192) && !s.inReset 2 (q / 8192) then wakeDie (q / 8192)
    else
      let drop : Act := .seq (raiseAud R.AUD_EVENT_WAKE_DROP 2) (logAud 9 (s.reg R.AUD_WAKE_CFG_CHAN) seg)
      many [
        readAct hubXlt ctx da 128 0 true false,
        (match s.daRead hubXlt ctx da 128 with
         | .bad _ => drop
         | .ok r =>
           let raw := setBits (setBits (setBits r 64 64 seg) 128 64 (s.count 4)) 192 64 (s.reg R.AUD_WAKE_STATE_C2)
           if !s.entryOk q 1 || s.inReset 2 (q / 8192) || (s.daPutFault hubXlt ctx (s.ringAt q (s.qf R.QUE_TAIL_TAIL q)) 128).isSome then drop
           else hubEnter q raw),
        setR R.AUD_RING_WAKE_SEG_SEG seg, raiseAud R.AUD_EVENT_WAKE 1, logAud 8 (s.reg R.AUD_WAKE_CFG_CHAN) seg,
        wakeState 1, .get fun s => updAud fun a => { a with coolTo := s.t + s.reg R.AUD_WAKE_CFG_COOL_MS * msU } ])

/-! ### The pre-wake ring (R432, R433) -/

/-- The places of a segment's data and header. -/
def segData (g : Nat) : Nat := 0x40000 + 512 * (g % 320)
def segHead (g : Nat) : Nat := 0x68000 + 16 * (g % 320)

/-- The writer begins a segment: its VALID goes first. -/
def ringStart : Act :=
  .get fun s =>
    let a := segHead (s.reg R.AUD_RING_SEG_SEG) + 11
    .seq (.put (.aon a 1 (setBits (memRead s.aon a 1) 0 1 0))) (updAud fun x => { x with ringOn := true })

/-- The ring goes on, or stops, as RING_EN and FREEZE say; at RING_EN's rise the codec begins anew. -/
def ringCheck (rise : Bool) : Act :=
  .get fun s => .seq (whenA rise (updAud fun a => { a with ringP := 0, ringS := 4 }))
    (if !s.bit R.AUD_RING_CFG_RING_EN then updAud fun a => { a with ringOn := false }
     else whenA (!s.bit R.AUD_RING_CFG_FREEZE && !s.aud.ringOn) ringStart)

/-- The code and the predictor after one sample. -/
def codecStep (p : Int) (s : Nat) (x : Int) : Int × Int :=
  let h : Int := ((2 ^ s / 2 : Nat) : Int)
  let d : Int := ((2 ^ s : Nat) : Int)
  let c := min 7 (max (-8) ((x - p + h).fdiv d))
  (c, min 32767 (max (-32768) (p + c * d)))

/-- The codec over samples: codes, predictor, shift; `k` counts samples of the block of 16 and `m` is its largest |c|. -/
def codecRun : List Int → Int → Nat → Nat → Nat → List Int × Int × Nat
  | [], p, s, _, _ => ([], p, s)
  | x :: r, p, s, k, m =>
    let q := codecStep p s x
    let m' := max m q.1.natAbs
    let e := decide (k = 15)
    let s' := if !e then s else if 6 ≤ m' then min 15 (s + 1) else if m' ≤ 1 then s - 1 else s
    let t := codecRun r q.2 s' (if e then 0 else k + 1) (if e then 0 else m')
    (q.1 :: t.1, t.2)

/-- RING_SEGMENT: 1,024 samples of the wake channel complete the segment; sample 0 was taken `ago` ticks before. -/
def execRingSegment (ago : Nat) (samples : List Int) :=
  does (.get fun s =>
    if !s.aonAudio || !s.aud.ringOn then .nop
    else
      let g := s.reg R.AUD_RING_SEG_SEG
      let muted := s.bit R.AUD_STATUS_MUTE
      let xs := (List.range 1024).map (fun i => if muted then 0 else Int.fdiv (toSigned 24 (ofSigned 24 (samples.getD i 0))) 256)
      let c := codecRun xs s.aud.ringP s.aud.ringS 0 0
      let data := ofBytes ((List.range 512).map (fun i => ofSigned 4 (c.1.getD (2 * i) 0) + 16 * ofSigned 4 (c.1.getD (2 * i + 1) 0)))
      let flags := 1 + b2n muted * 2 + b2n (decide (samples.length < 1024)) * 4
      many [
        .put (.aon (segData g) 512 data),
        .put (.aon (segHead g) 16 ((s.count 4 - ago) % 2 ^ 64 + ofSigned 16 s.aud.ringP * 2 ^ 64 + s.aud.ringS % 256 * 2 ^ 80 + flags * 2 ^ 88 + g * 2 ^ 96)),
        setR R.AUD_RING_SEG_SEG (g + 1), updAud (fun a => { a with ringP := c.2.1, ringS := c.2.2, ringOn := false }),
        ringCheck false ])

end Sys2Proof.Machine
end

