-- ==== Sys2Proof/Machine/Imaging.lean ====
section
/-! DEFINITION. The image pipeline of R407–R415: lines into pixels, the seven stages, and the statistics, all as functions of
the frame and the parameter set. -/

namespace Sys2Proof.Machine

/-! ### Lines into pixels (R403, R407) -/

/-- Bits of a line's byte string. -/
def lineBits (l : List Nat) (lo w : Nat) : Nat := bits (ofBytes l) lo w

/-- Pixels of a packed RAW line of `w` bits, widened to 14 bits; a group of pixels whose bytes have not all come gives none. PRESUMED:
the CSI-2 packing, high bits of each pixel in a byte of its own, the low bits of a group in the bytes after. -/
def rawPixels (w : Nat) (l : List Nat) : List Nat :=
  let per := if w = 12 then 2 else if w = 8 then 1 else 4
  let size := per * w / 8
  ((List.range (l.length / size)).map (fun g =>
    (List.range per).map (fun i =>
      let hi := l.getD (g * size + i) 0
      let low := bits (ofBytes ((l.drop (g * size + per)).take (size - per))) (i * (w - 8)) (w - 8)
      (hi * 2 ^ (w - 8) + low) * 2 ^ (14 - w)))).flatten

/-- The pixels of a line of a stream's data type (R423): RAW one value, YUV422 luma and both chromas at 12 bits, RGB888 three
channels at 14 bits. -/
def linePixels (dt : Nat) (l : List Nat) : List (List Nat) :=
  match dt with
  | 4 => ((List.range (l.length / 4)).map (fun g =>
      let b := fun i => l.getD (4 * g + i) 0 * 16
      [[b 1, b 0, b 2], [b 3, b 0, b 2]])).flatten
  | 5 => (List.range (l.length / 3)).map (fun g => [l.getD (3 * g + 2) 0 * 64, l.getD (3 * g + 1) 0 * 64, l.getD (3 * g) 0 * 64])
  | _ => (rawPixels (8 + 2 * dt) l).map (fun v => [v])

/-- CRC-16 of a CSI-2 payload. PRESUMED: x¹⁶ + x¹² + x⁵ + 1, low bit first, from all ones. -/
def crc16Bit (c : Nat) : Nat := if c % 2 = 1 then (c / 2) ^^^ 0x8408 else c / 2
def crc16 (l : List Nat) : Nat :=
  l.foldl (fun c b => (List.range 8).foldl (fun c _ => crc16Bit c) (c ^^^ (b % 256))) 0xFFFF

/-! ### Images -/

/-- A pixel channel of an image; 0 outside it. -/
def pixAt (g : List (List (List Nat))) (y x c : Nat) : Nat := ((g.getD y []).getD x []).getD c 0

/-- An image of `h` rows and `w` columns from a function of the position. -/
def mkImg (h w : Nat) (f : Nat → Nat → List Nat) : List (List (List Nat)) :=
  (List.range h).map (fun y => (List.range w).map (fun x => f y x))

/-- A quotient rounded to the nearest integer, ties up (R413). -/
def divUp (a b : Nat) : Nat := (2 * a + b) / (2 * b)
def divUpZ (a : Int) (b : Nat) : Int := Int.fdiv (2 * a + b) (2 * b)

/-- A value limited to a range from 0. -/
def lim (hi : Nat) (v : Int) : Nat := min hi v.toNat

/-- A coordinate mirrored at the edges (R413, stage 4). -/
def mirror (n : Nat) (k : Int) : Nat :=
  if k < 0 then (-k).toNat else if (n : Int) ≤ k then (2 * (n : Int) - 2 - k).toNat else k.toNat

/-! ### The parameter set (R411) -/

/-- An unsigned field of a record at a byte offset. -/
def recF (r off n : Nat) : Nat := bits r (8 * off) (8 * n)

/-- A stage is enabled; before the first set none is (R412). -/
def PSetS.on (p : Option PSetS) (k : Nat) : Bool := match p with | some q => bitOf (recF q.rcd 8 1) k | none => false
def PSetS.f (p : Option PSetS) (off n : Nat) : Nat := match p with | some q => recF q.rcd off n | none => 0

/-- What R411 asks of a record, for a stream of W_EXP × H_EXP. -/
def psetOk (r w h : Nat) : Bool :=
  (List.range 4).all (fun i => decide (recF r (2 * i) 2 ≤ 16383)) && decide (recF r 8 1 < 64) && decide (recF r 9 1 = 0) &&
  decide (recF r 0xA 2 ≤ 16383) && decide (recF r 0xC 2 ≤ 4096) && decide (recF r 0xE 2 = 0) &&
  decide (recF r 0x10 8 % 64 = 0) && decide (recF r 0x18 8 % 64 = 0) && decide (recF r 0x20 8 % 64 = 0) &&
  decide (recF r 0x2E 2 = 0) && decide (recF r 0x42 14 = 0) && decide (recF r 0x5C 420 = 0) &&
  decide (16 ≤ recF r 0x50 2) && decide (recF r 0x50 2 ≤ 4096) && decide (16 ≤ recF r 0x52 2) && decide (recF r 0x52 2 ≤ 4096) &&
  decide (recF r 0x54 2 + recF r 0x58 2 ≤ w) && decide (recF r 0x56 2 + recF r 0x5A 2 ≤ h) &&
  decide (recF r 0x50 2 ≤ recF r 0x58 2) && decide (recF r 0x52 2 ≤ recF r 0x5A 2)

/-! ### The stages (R413) -/

/-- The place of a pixel in the 2 × 2 colour pattern. -/
def phaseOf (y x : Nat) : Nat := y % 2 * 2 + x % 2

/-- Stage 1. -/
def blackLevel (p : Option PSetS) (g : List (List (List Nat))) : List (List (List Nat)) :=
  if PSetS.on p 0 then mkImg g.length (g.getD 0 []).length (fun y x => [pixAt g y x 0 - PSetS.f p (2 * phaseOf y x) 2]) else g

/-- The eight neighbours of the same colour; outside the frame the pixel's own value. -/
def nbrs (g : List (List (List Nat))) (h w y x : Nat) : List Nat :=
  ([(0, 0), (0, 2), (0, 4), (2, 0), (2, 4), (4, 0), (4, 2), (4, 4)] : List (Nat × Nat)).map (fun d =>
    if 2 ≤ y + d.1 ∧ y + d.1 - 2 < h ∧ 2 ≤ x + d.2 ∧ x + d.2 - 2 < w then pixAt g (y + d.1 - 2) (x + d.2 - 2) 0 else pixAt g y x 0)

/-- A number at its place in a rising list. -/
def insSort (v : Nat) : List Nat → List Nat
  | [] => [v]
  | a :: r => if v ≤ a then v :: a :: r else a :: insSort v r

/-- A pixel is in the static table. -/
def dpcListed (p : Option PSetS) (y x : Nat) : Bool :=
  match p with
  | some q => (List.range (recF q.rcd 0xC 2)).any (fun i => decide (bits q.dpc (32 * i) 32 = x + y * 65536))
  | none => false

/-- A pixel is to be corrected (stage 2). -/
def isDefect (p : Option PSetS) (g : List (List (List Nat))) (h w y x : Nat) : Bool :=
  let n := nbrs g h w y x
  let v := pixAt g y x 0
  let t := PSetS.f p 0xA 2
  dpcListed p y x || decide (n.foldl max 0 + t < v) || decide (v + t < n.foldl min 16383)

/-- Stage 2, with the number of corrections. -/
def defects (p : Option PSetS) (g : List (List (List Nat))) : List (List (List Nat)) × Nat :=
  let h := g.length
  let w := (g.getD 0 []).length
  if PSetS.on p 1 then
    (mkImg h w (fun y x => if isDefect p g h w y x then
        (let n := (nbrs g h w y x).foldr insSort []
         [(n.getD 3 0 + n.getD 4 0 + 1) / 2])
       else [pixAt g y x 0]),
     (List.range h).foldl (fun a y => a + ((List.range w).filter (fun x => isDefect p g h w y x)).length) 0)
  else (g, 0)

/-- The gain of stage 3 at a pixel, in units of 1/4,096. -/
def lscGain (p : Option PSetS) (h w y x : Nat) : Nat :=
  let t := match p with | some q => q.lsc | none => 0
  let gp := fun (j i : Nat) => bits t (16 * ((j * 33 + i) * 4 + phaseOf y x)) 16
  let cx := x * 32 / w
  let cy := y * 32 / h
  let fx := x * 32 % w
  let fy := y * 32 % h
  divUp ((gp cy cx * (w - fx) + gp cy (cx + 1) * fx) * (h - fy) + (gp (cy + 1) cx * (w - fx) + gp (cy + 1) (cx + 1) * fx) * fy) (w * h)

/-- Stage 3. -/
def lensShading (p : Option PSetS) (g : List (List (List Nat))) : List (List (List Nat)) :=
  let h := g.length
  let w := (g.getD 0 []).length
  if PSetS.on p 2 then mkImg h w (fun y x => [min 16383 (divUp (pixAt g y x 0 * lscGain p h w y x) 4096)]) else g

/-- The colour at a phase under CFA (0 RGGB, 1 GRBG, 2 GBRG, 3 BGGR): 0 red, 1 green, 2 blue. -/
def cfaColour (cfa ph : Nat) : Nat :=
  ([[0, 1, 1, 2], [1, 0, 2, 1], [1, 2, 0, 1], [2, 1, 1, 0]].getD cfa []).getD ph 0

/-- Green at a position (stage 4). -/
def greenAt (cfa : Nat) (g : List (List (List Nat))) (h w y x : Nat) : Nat :=
  if cfaColour cfa (phaseOf y x) = 1 then pixAt g y x 0
  else
    let v := fun (dy dx : Int) => pixAt g (mirror h (y + dy)) (mirror w (x + dx)) 0
    let a := v 0 (-1)
    let b := v 0 1
    let c := v (-1) 0
    let d := v 1 0
    let dh := max a b - min a b
    let dv := max c d - min c d
    if dh < dv then divUp (a + b) 2 else if dv < dh then divUp (c + d) 2 else divUp (a + b + c + d) 4

/-- Red (0) or blue (2) at a position (stage 4): the green there plus the mean of colour − green over the nearest pixels of
the colour. -/
def colourAt (cfa : Nat) (g : List (List (List Nat))) (h w y x col : Nat) : Nat :=
  if cfaColour cfa (phaseOf y x) = col then pixAt g y x 0
  else
    let ds : List (Int × Int) :=
      if cfaColour cfa (phaseOf y x) = 1 then
        (if cfaColour cfa (phaseOf y (x + 1)) = col then [(0, -1), (0, 1)] else [(-1, 0), (1, 0)])
      else [(-1, -1), (-1, 1), (1, -1), (1, 1)]
    let s : Int := ds.foldl (fun a d =>
      let yy := mirror h (y + d.1)
      let xx := mirror w (x + d.2)
      a + ((pixAt g yy xx 0 : Nat) : Int) - ((greenAt cfa g h w yy xx : Nat) : Int)) 0
    lim 16383 (((greenAt cfa g h w y x : Nat) : Int) + divUpZ s ds.length)

/-- Stage 4. -/
def demosaic (cfa : Nat) (g : List (List (List Nat))) : List (List (List Nat)) :=
  let h := g.length
  let w := (g.getD 0 []).length
  mkImg h w (fun y x => [colourAt cfa g h w y x 0, greenAt cfa g h w y x, colourAt cfa g h w y x 2])

/-- Stage 5. -/
def colourStage (p : Option PSetS) (g : List (List (List Nat))) : List (List (List Nat)) :=
  if PSetS.on p 3 then
    mkImg g.length (g.getD 0 []).length (fun y x =>
      let wb := (List.range 3).map (fun c => min 16383 (divUp (pixAt g y x c * PSetS.f p (0x28 + 2 * c) 2) 4096))
      (List.range 3).map (fun i => lim 16383 (divUpZ
        ((List.range 3).foldl (fun a c => a + toSigned 16 (PSetS.f p (0x30 + 6 * i + 2 * c) 2) * ((wb.getD c 0 : Nat) : Int)) 0) 4096)))
  else g

/-- Stage 6 of one channel. -/
def toneAt (t c v : Nat) : Nat :=
  let e := fun (i : Nat) => ((bits t (16 * (257 * c + i)) 16 : Nat) : Int)
  lim 4095 (e (v / 64) + divUpZ ((e (v / 64 + 1) - e (v / 64)) * ((v % 64 : Nat) : Int)) 64)

/-- Stage 6. -/
def toneStage (p : Option PSetS) (g : List (List (List Nat))) : List (List (List Nat)) :=
  let t := match p with | some q => q.tone | none => 0
  mkImg g.length (g.getD 0 []).length (fun y x => (List.range 3).map (fun c =>
    if PSetS.on p 4 then toneAt t c (pixAt g y x c) else pixAt g y x c / 4))

/-- The source pixels under output position `o` of `n` along a crop of `crop` from `c0`, each with its weight in units of 1/256
pixel. -/
def footprint (c0 crop n o : Nat) : List (Nat × Nat) :=
  let a := o * crop * 256 / n
  let b := (o + 1) * crop * 256 / n
  (List.range (b / 256 + 1 - a / 256)).map (fun i =>
    let x := a / 256 + i
    (c0 + x, min b (256 * x + 256) - max a (256 * x)))

/-- Stage 7. -/
def scaleStage (p : Option PSetS) (chans : Nat) (g : List (List (List Nat))) : List (List (List Nat)) :=
  if PSetS.on p 5 then
    let ow := PSetS.f p 0x50 2
    let oh := PSetS.f p 0x52 2
    mkImg oh ow (fun y x =>
      let fy := footprint (PSetS.f p 0x56 2) (PSetS.f p 0x5A 2) oh y
      let fx := footprint (PSetS.f p 0x54 2) (PSetS.f p 0x58 2) ow x
      (List.range chans).map (fun c =>
        let sw := fy.foldl (fun s a => fx.foldl (fun s b => (s.1 + a.2 * b.2 * pixAt g a.1 b.1 c, s.2 + a.2 * b.2)) s) (0, 0)
        min 4095 (divUp sw.1 sw.2)))
  else g

/-! ### Statistics (R414, R415) -/

/-- The luma of a pixel of the tone output. -/
def lumaOf (g : List (List (List Nat))) (y x : Nat) : Nat := (pixAt g y x 0 + 2 * pixAt g y x 1 + pixAt g y x 2) / 4

/-- Bin `k` of the histogram. -/
def histBin (g : List (List (List Nat))) (k : Nat) : Nat :=
  (List.range g.length).foldl (fun a y => a + ((List.range (g.getD y []).length).filter (fun x => decide (bits (lumaOf g y x) 4 8 = k))).length) 0

/-- The sum of channel `c` in zone (zy, zx) of 16 × 16. -/
def zoneSum (g : List (List (List Nat))) (zy zx c : Nat) : Nat :=
  let h := g.length
  (List.range h).foldl (fun a y =>
    if y * 16 / h = zy then
      (let w := (g.getD y []).length
       (List.range w).foldl (fun b x => if x * 16 / w = zx then b + pixAt g y x c else b) a)
    else a) 0

/-- The sum and the number of the green pixels of a row. -/
def greenRow (cfa : Nat) (raw : Bool) (g : List (List (List Nat))) (y : Nat) : Nat × Nat :=
  let w := (g.getD y []).length
  (List.range w).foldl (fun a x =>
    if raw then (if cfaColour cfa (phaseOf y x) = 1 then (a.1 + pixAt g y x 0, a.2 + 1) else a)
    else (a.1 + pixAt g y x 1, a.2 + 1)) (0, 0)

/-- FREQ, CONF and PHASE of a frame's received rows, from their starts in ticks (R415). -/
def flickerOf (means : List (Nat × Nat)) (starts : List Nat) : Nat × Nat × Nat :=
  let v := Config.flicker means starts
  let conf := bits v 1 8
  if starts.getLast?.getD 0 - starts.head?.getD 0 < 5000 ∨ means.length < 64 ∨ (means.all (fun m => decide (m.1 = 0))) = true ∨ conf = 0 then (0, 0, 0)
  else (1 + v % 2, conf, bits v 9 16)

/-- What a closed frame gives: the output image, the tone output (none for YUV422), corrections, the row means. -/
structure ImgOut where
  out : List (List (List Nat))
  tone : Option (List (List (List Nat)))
  fixes : Nat
  means : List (Nat × Nat)
  deriving DecidableEq, Repr

/-- A frame through the pipeline (R407, R413): RAW from the first stage, RGB888 from the colour stage, YUV422 at the scale
stage. `rows` counts the rows received. -/
def pipeline (p : Option PSetS) (dt cfa rows : Nat) (g : List (List (List Nat))) : ImgOut :=
  if dt = 4 then ⟨scaleStage p 3 g, none, 0, []⟩
  else if dt = 5 then
    let t := toneStage p (colourStage p g)
    ⟨scaleStage p 3 t, some t, 0, (List.range rows).map (greenRow cfa false g)⟩
  else
    let b := blackLevel p g
    let d := defects p b
    let t := toneStage p (colourStage p (demosaic cfa (lensShading p d.1)))
    ⟨scaleStage p 3 t, some t, d.2, (List.range rows).map (greenRow cfa true b)⟩

end Sys2Proof.Machine
end

