-- ==== Sys2Proof/Machine/Camera.lean ====
section
/-! DEFINITION. Camera ports, frames, parameter sets, lines and the sensor power switches (R403–R424). -/

namespace Sys2Proof.Machine

/-! ### Streams -/

def State.cam (s : State) (st : Nat) : CamS := mget CamS.reset s.isp.cams st
def updCam (st : Nat) (f : CamS → CamS) : Act := .put (.isp fun d => { d with cams := mupd CamS.reset d.cams st f })

/-- The number of pending sets is what STATUS shows. -/
def setSets (st : Nat) (l : List PSetS) : Act := .seq (updCam st fun c => { c with sets := l }) (setR R.ISP_STRM_STATUS_PENDING l.length 0 st)

/-- The enabled streams of a port and a virtual channel (R404). -/
def State.camsOn (s : State) (port vc : Nat) : List Nat :=
  (List.range 8).filter (fun k => s.bit R.ISP_STRM_CFG_EN 0 k && decide (s.reg R.ISP_STRM_CFG_PORT 0 k = port) && decide (s.reg R.ISP_STRM_CFG_VC 0 k = vc))

/-- The code of CFG.DT that a pixel data type has (R403, R423). -/
def dtCode (dt : Nat) : Option Nat :=
  match dt with
  | 0x2A => some 0 | 0x2B => some 1 | 0x2C => some 2 | 0x2D => some 3 | 0x1E => some 4 | 0x24 => some 5 | _ => none

/-- A packet has come to a running port: a header of one wrong bit is corrected, an uncorrectable one drops the packet; both
are counted (R403). -/
def onPacket (port : Nat) (ecc : BitVec 2) (a : Act) : Act :=
  .get fun s =>
    if !s.hubUp 0 || !s.bit R.ISP_CTL_EN || !s.bit R.ISP_PORT_CFG_EN 0 port then .nop
    else if 2 ≤ ecc.toNat then bump R.ISP_PORT_ECC_DROP_COUNT 1 0 port
    else .seq (whenA (decide (ecc = 1)) (bump R.ISP_PORT_ECC_FIX_COUNT 1 0 port)) a

/-- A packet for some streams; with none it is discarded and counted (R404). -/
def toStreams (port : Nat) (l : List Nat) (f : Nat → Act) : Act :=
  if l.isEmpty then bump R.ISP_PORT_DISCARD_DT_COUNT 1 0 port else forA l f

/-! ### Lines (R405, R407–R409) -/

/-- A flag bit of R416 is set on the open frame. -/
def frameFlag (st k : Nat) : Act :=
  updCam st fun c => { c with frame := c.frame.map (fun f => { f with flags := setBits f.flags k 1 1 }) }

/-- A line brought to W_EXP pixels. -/
def fitLine (w : Nat) (pad : List Nat) (l : List (List Nat)) : List (List Nat) := (l ++ List.replicate (w - l.length) pad).take w

/-- PAD as a pixel of the stream. -/
def State.padPix (s : State) (st : Nat) : List Nat :=
  let v := s.reg R.ISP_STRM_FILL_PAD 0 st
  match s.reg R.ISP_STRM_CFG_DT 0 st with
  | 4 => List.replicate 3 (v / 4)
  | 5 => List.replicate 3 v
  | _ => [v]

/-- The pipeline takes a line into its stream's open frame. -/
def takeLine (l : LineS) : Act :=
  .get fun s => withA (s.cam l.strm).frame fun f =>
    let w := s.reg R.ISP_STRM_SIZE_W_EXP 0 l.strm
    if l.emb then updCam l.strm fun c => { c with frame := some { f with flags := f.flags ||| l.flags, emb := if f.emb.length < 2 then f.emb ++ [l.bytes] else f.emb } }
    else
      let px := linePixels (s.reg R.ISP_STRM_CFG_DT 0 l.strm) l.bytes
      let short := if px.length < w then 1 else 0
      let long := if w < px.length then 2 else 0
      let tooMany := decide (s.reg R.ISP_STRM_SIZE_H_EXP 0 l.strm ≤ f.lines)
      updCam l.strm fun c => { c with frame := some { f with
        flags := f.flags ||| l.flags ||| short ||| long ||| (if tooMany then 8 else 0), lines := f.lines + 1,
        rows := if tooMany then f.rows else f.rows ++ [(l.stamp - f.stamp, fitLine w (s.padPix l.strm) px)] } }

/-- The lines of a stream that wait in a buffer, taken in their order. -/
def drainLines (st : Nat) : Act :=
  .get fun s => .seq (.put (.isp fun d => { d with buf := d.buf.filter (fun l => decide (l.strm ≠ st)) }))
    (forA (s.isp.buf.filter (fun l => decide (l.strm = st))) takeLine)

/-- LINE_PROCESS: the next stream in ascending turn gives one whole line to the pipeline. -/
def execLineProcess :=
  does (.get fun s => whenA (s.hubUp 0 && s.bit R.ISP_CTL_EN)
    (withA (nextWrap ((List.range 8).filter (fun k => s.isp.buf.any (fun l => decide (l.strm = k)))) s.isp.last) fun st =>
      withA (s.isp.buf.find? (fun l => decide (l.strm = st))) fun l =>
        .seq (.put (.isp fun d => { d with buf := d.buf.erase l, last := st })) (takeLine l)))

/-- Bytes that wait in a port's buffer. -/
def State.portFill (s : State) (port : Nat) : Nat := (s.isp.buf.filter (fun l => decide (l.port = port))).foldl (fun a l => a + l.bytes.length) 0

/-- A line enters its port's buffer, or as much of it as there is room for (R405). -/
def bufferLine (port st : Nat) (emb : Bool) (bytes : List Nat) (bad : Bool) : Act :=
  .get fun s =>
    if (s.cam st).frame.isNone then bump R.ISP_STRM_ORPHAN_COUNT 1 0 st
    else
      let room := 65536 - s.portFill port
      let cut := decide (room < bytes.length)
      many [
        whenA bad (bump R.ISP_STRM_LINE_ERR_COUNT 1 0 st),
        whenA cut (.seq (setR R.ISP_PORT_STATUS_OVERFLOW 1 0 port) (raiseEv R.ISP_EVENT_OVERFLOW R.ISP_EVENT_MASK_EN R.ISP_EVENT_MASK_VECTOR 3)),
        .put (.isp fun d => { d with buf := d.buf ++ [⟨port, st, emb, bytes.take room, (if bad then 64 else 0) + (if cut then 128 else 0), s.count 4⟩] }) ]

/-- LONG_PACKET: payload of a pixel data type goes to the streams of that type, embedded data to the streams of its virtual
channel. Every payload's CRC is checked. -/
def execLongPacket (port : BitVec 2) (vc : BitVec 4) (dt : BitVec 6) (wc : Nat) (payload : List (BitVec 8)) (crc : BitVec 16) (ecc : BitVec 2) :=
  does (onPacket port.toNat ecc (.get fun s =>
    let bytes := (payload.take wc).map BitVec.toNat
    let bad := decide (crc16 bytes ≠ crc.toNat)
    let p := port.toNat
    .seq (whenA bad (bump R.ISP_PORT_CRC_COUNT 1 0 p))
      (if dt = 0x12 then toStreams p (s.camsOn p vc.toNat) (fun st => bufferLine p st true bytes bad)
       else match dtCode dt.toNat with
        | some k => toStreams p ((s.camsOn p vc.toNat).filter (fun st => decide (s.reg R.ISP_STRM_CFG_DT 0 st = k))) (fun st => bufferLine p st false bytes bad)
        | none => bump R.ISP_PORT_DISCARD_DT_COUNT 1 0 p)))

def execLineStart (port : BitVec 2) (vc : BitVec 4) (ecc : BitVec 2) :=
  does (onPacket port.toNat ecc (.get fun s => toStreams port.toNat (s.camsOn port.toNat vc.toNat) (fun _ => .nop)))

def execLineEnd (port : BitVec 2) (vc : BitVec 4) (ecc : BitVec 2) :=
  does (onPacket port.toNat ecc (.get fun s => toStreams port.toNat (s.camsOn port.toNat vc.toNat) fun _ => .nop))

/-! ### The close of a frame (R408, R414–R417) -/

/-- A statistic of R414 that a YUV422 frame has no pixels for is left open: word `i` of the free value. -/
def statWord (t : Option (List (List (List Nat)))) (k i : Nat) (f : List (List (List Nat)) → Nat) : Nat :=
  match t with
  | some g => f g % 2 ^ 32
  | none => bits (Config.freeValue k) (32 * (i + 1)) 32

/-- A statistics record (R416). -/
def statsRecord (f : FrameS) (flags close flick c : Nat) (o : ImgOut) : Nat :=
  let at_ := fun (off v : Nat) => v * 2 ^ (8 * off)
  at_ 0 f.frame + at_ 4 f.num + at_ 6 flags + at_ 8 f.stamp + at_ 0x10 close + at_ 0x18 (f.lines % 2 ^ 16) +
  at_ 0x1A (f.skipped % 2 ^ 16) + at_ 0x1C f.tag + at_ 0x20 o.fixes + at_ 0x24 flick +
  (List.range 256).foldl (fun a k => a + at_ (0x40 + 4 * k) (statWord o.tone c k (fun g => histBin g k))) 0 +
  (List.range 768).foldl (fun a k => a + at_ (0x440 + 4 * k) (statWord o.tone c (256 + k) (fun g => zoneSum g (k / 48) (k / 3 % 16) (k % 3)))) 0 +
  (List.range 2).foldl (fun a k => a + at_ (0x1080 + 2048 * k) (ofBytes ((f.emb.getD k []).take 2048))) 0

/-- ERR bits of the stream's parameters and statistics raise PSET_ERR. -/
def psetErr (f : Fld) (st : Nat) : Act := .seq (setR f 1 0 st) (raiseEv R.ISP_EVENT_PSET_ERR R.ISP_EVENT_MASK_EN R.ISP_EVENT_MASK_VECTOR 2)

/-- The open frame of a stream closes, with the flags of its cause: the missing lines are filled or the frame is discarded, the
record is written, and the frame goes to the input pipeline. -/
def closeFrame (st cause : Nat) : Act :=
  .seq (drainLines st) (.get fun s => withA (s.cam st).frame fun f =>
    let w := s.reg R.ISP_STRM_SIZE_W_EXP 0 st
    let h := s.reg R.ISP_STRM_SIZE_H_EXP 0 st
    let dt := s.reg R.ISP_STRM_CFG_DT 0 st
    let short := decide (f.lines < h)
    let flags := f.flags ||| cause ||| (if short then (if s.bit R.ISP_STRM_CFG_FRAME_POLICY 0 st then 0x404 else 4) else 0)
    let g := f.rows.map Prod.snd ++ List.replicate (h - f.rows.length) (List.replicate w (s.padPix st))
    let o := pipeline f.pset dt (s.reg R.ISP_STRM_CFG_CFA 0 st) f.rows.length g
    let fl := if dt = 4 then (let v := Config.freeValue s.freeCtr; (v % 4, bits v 2 8, bits v 10 16)) else flickerOf o.means (f.rows.map Prod.fst)
    let word := fl.1 + fl.2.1 * 2 ^ 8 + fl.2.2 * 2 ^ 16
    let da := s.reg R.ISP_STRM_STATS_BASE_ADDR 0 st * 2 ^ 16 + 0x4000 * (f.frame % 4)
    let ctx := s.reg R.ISP_STRM_CFG_CTX 0 st
    let bad := (s.daPutFault hubXlt ctx da 0x4000).isSome
    many [
      whenA (decide (dt = 4)) (.put .fresh),
      updCam st (fun c => { c with frame := none }), setR R.ISP_STRM_STATUS_IN_FRAME 0 0 st,
      whenA (decide (fl.1 ≠ s.reg R.ISP_STRM_FLICKER_FREQ 0 st)) (raiseEv R.ISP_EVENT_FLICKER_CHANGE R.ISP_EVENT_MASK_EN R.ISP_EVENT_MASK_VECTOR 4),
      setR R.ISP_STRM_FLICKER_FREQ fl.1 0 st, setR R.ISP_STRM_FLICKER_CONF fl.2.1 0 st, setR R.ISP_STRM_FLICKER_PHASE fl.2.2 0 st,
      daPut hubXlt ctx da 0x4000 (statsRecord f flags (s.count 4) word s.freeCtr o) 0 true false,
      if bad then .seq (psetErr R.ISP_STRM_STATUS_STATS_FAULT st) (logIsp 6 st f.frame flags) else bump R.ISP_STRM_FRAMES_COUNT 1 0 st,
      whenA (decide (flags ≠ 0)) (many [
        bump R.ISP_STRM_BAD_FRAMES_COUNT 1 0 st, raiseEv R.ISP_EVENT_FRAME_ERR R.ISP_EVENT_MASK_EN R.ISP_EVENT_MASK_VECTOR 1, logIsp 2 st f.frame flags]),
      whenA (!bitOf flags 10) (deliverFrame st f.frame f.stamp flags (decide (dt = 4)) o.out) ])

/-- FRAME_END. -/
def execFrameEnd (port : BitVec 2) (vc : BitVec 4) (_num : BitVec 16) (ecc : BitVec 2) :=
  does (onPacket port.toNat ecc (.get fun s => toStreams port.toNat (s.camsOn port.toNat vc.toNat) (fun st => .get fun s =>
    if (s.cam st).frame.isSome then closeFrame st 0 else bump R.ISP_STRM_ORPHAN_COUNT 1 0 st)))

/-- FE_TIMEOUT: FE_TIMEOUT_US have passed since the FS. -/
def execFeTimeout (st : BitVec 3) (dt : Nat) :=
  does (after dt (.get fun s => withA (s.cam st.toNat).frame fun f =>
    whenA (s.hubUp 0 && decide (f.since + s.reg R.ISP_STRM_TIMING_FE_TIMEOUT_US 0 st.toNat * usU ≤ s.t)) (closeFrame st.toNat 16)))

/-! ### Frame start (R406, R412) -/

/-- How far an FS advances FRAME: the advance, and whether the frame is flagged FNUM_RESYNC. -/
def frameAdvance (mode : Bool) (prev : Option Nat) (n max : Nat) : Nat × Bool :=
  if !mode then (1, false)
  else if n = 0 then (1, true)
  else match prev with
    | none => (1, false)
    | some p =>
      let d := ((((n : Int) - p - 1) % (max : Int)) + 1).toNat
      if d ≤ 8 then (d, false) else (1, true)

/-- The pending set that is due at a frame: of the highest tag at or below it, the later commit on equal tags. -/
def dueSet (l : List PSetS) (frame : Nat) : Option PSetS :=
  (l.filter (fun p => decide (p.tag ≤ frame))).foldl (fun b p => match b with
    | some q => if q.tag ≤ p.tag then some p else some q
    | none => some p) none

/-- An FS of a stream: the open frame closes, FRAME advances, the due set applies, a frame opens. -/
def frameStart (st num : Nat) : Act :=
  .seq (closeFrame st 32) (.get fun s =>
    let c := s.cam st
    let adv := frameAdvance (s.bit R.ISP_STRM_CFG_FNUM_MODE 0 st) c.nprev num (s.reg R.ISP_STRM_FILL_FNUM_MAX 0 st)
    let frame := (s.reg R.ISP_STRM_FRAME_FRAME 0 st + adv.1) % 2 ^ 32
    let due := dueSet c.sets frame
    let rest := c.sets.filter (fun p => decide (frame < p.tag))
    let late := match due with | some p => !p.ready | none => false
    let cur := match due with | some p => if p.ready then some p else c.cur | none => c.cur
    let tag := match due with | some p => if p.ready then p.tag else s.reg R.ISP_STRM_ACTIVE_TAG_TAG 0 st | none => s.reg R.ISP_STRM_ACTIVE_TAG_TAG 0 st
    many [
      setR R.ISP_STRM_FRAME_FRAME frame 0 st, setR R.ISP_STRM_ACTIVE_TAG_TAG tag 0 st, setR R.ISP_STRM_STATUS_IN_FRAME 1 0 st,
      setSets st ((if late then due.toList else []) ++ rest),
      whenA late (psetErr R.ISP_STRM_STATUS_PSET_LATE st),
      whenA adv.2 (logIsp 5 st frame 0x200),
      updCam st (fun c => { c with
        cur := cur, nprev := some num,
        frame := some ⟨frame, num, s.count 4, (if late then 0x100 else 0) + (if adv.2 then 0x200 else 0), 0, adv.1 - 1, tag, cur, s.t, [], []⟩ }),
      roiFetch st frame ])

/-- FRAME_START. -/
def execFrameStart (port : BitVec 2) (vc : BitVec 4) (num : BitVec 16) (ecc : BitVec 2) :=
  does (onPacket port.toNat ecc (.get fun s => toStreams port.toNat (s.camsOn port.toNat vc.toNat) (fun st => frameStart st num.toNat)))

/-! ### Parameter sets (R410, R411) -/

/-- The offset of a register of stream st. -/
def strmOff (st o : Nat) : Nat := ispOff (0x1000 + 0x100 * st + o)

/-- PSET_COMMIT is written. -/
def psetCommit (k v : Nat) : Act :=
  .get fun s =>
    let l := (s.cam k).sets
    let frame := s.reg R.ISP_STRM_FRAME_FRAME 0 k
    if !bitOf v 0 then .nop
    else if 2 ≤ l.length then .seq (psetErr R.ISP_STRM_STATUS_COMMIT_REJ k) (logIsp 4 k frame 0)
    else setSets k (l ++ [⟨(frame + 1 + s.reg R.ISP_STRM_CFG_DELAY 0 k) % 2 ^ 32, false, false, s.reg R.ISP_STRM_PSET_ADDR_ADDR 0 k * 512, 0, 0, 0, 0⟩])

def execPsetCommit (port : Port) (st : BitVec 3) (v : BitVec 32) := does (portCmd port (strmOff st.toNat 0x20) v.toNat (psetCommit st.toNat v.toNat))

/-- PSET_PREFETCH_DONE: a pending set's record and the tables of its enabled stages have been read, or it is discarded. -/
def execPsetPrefetchDone (st : BitVec 3) (bank : Nat) :=
  let k := st.toNat
  does (.get fun s =>
    let l := (s.cam k).sets
    let ctx := s.reg R.ISP_STRM_CFG_CTX 0 k
    withA (l[bank]?) fun p =>
      if p.ready || !s.hubUp 0 then .nop
      else
        let rd := fun (a n : Nat) => s.daRead hubXlt ctx a n
        let drop : Act := many [setSets k (l.eraseIdx bank), psetErr R.ISP_STRM_STATUS_PSET_FAULT k, logIsp 3 k (s.reg R.ISP_STRM_FRAME_FRAME 0 k) 0]
        .seq (readAct hubXlt ctx p.addr 512 0 true false)
          (match rd p.addr 512 with
           | .bad _ => drop
           | .ok r =>
             if !psetOk r (s.reg R.ISP_STRM_SIZE_W_EXP 0 k) (s.reg R.ISP_STRM_SIZE_H_EXP 0 k) then drop
             else
               let on := fun j => bitOf (recF r 8 1) j
               let tabs := [(1, recF r 0x10 8 % 2 ^ 48, 4 * recF r 0xC 2), (2, recF r 0x18 8 % 2 ^ 48, 8712), (4, recF r 0x20 8 % 2 ^ 48, 1542)]
               let get := fun (t : Nat × Nat × Nat) => if on t.1 then rd t.2.1 t.2.2 else .ok 0
               .seq (forA tabs (fun t => whenA (on t.1 && decide (0 < t.2.2)) (readAct hubXlt ctx t.2.1 t.2.2 0 true false)))
                 (match tabs.map get with
                  | [.ok d, .ok e, .ok t] => setSets k (lset l bank { p with ready := true, rcd := r, dpc := d, lsc := e, tone := t })
                  | _ => drop)))

/-! ### Disabling a stream (R420) -/

/-- A stream is disabled: its open frame closes as DISCARDED and its pending sets are freed. -/
def camDisable (st : Nat) : Act :=
  many [closeFrame st 0x400, setR R.ISP_STRM_CFG_EN 0 0 st, setSets st [], updCam st (fun _ => CamS.reset)]

/-- The word of a stream's CFG with EN 0. -/
def State.camCfg (s : State) (k : Nat) : Nat :=
  s.reg R.ISP_STRM_CFG_PORT 0 k * 2 + s.reg R.ISP_STRM_CFG_VC 0 k * 2 ^ 3 + s.reg R.ISP_STRM_CFG_DT 0 k * 2 ^ 7 + s.reg R.ISP_STRM_CFG_CFA 0 k * 2 ^ 10 +
  s.reg R.ISP_STRM_CFG_FRAME_POLICY 0 k * 2 ^ 12 + s.reg R.ISP_STRM_CFG_DELAY 0 k * 2 ^ 13 + s.reg R.ISP_STRM_CFG_FNUM_MODE 0 k * 2 ^ 16 +
  s.reg R.ISP_STRM_CFG_CTX 0 k * 2 ^ 17

/-- CAMERA_STREAM_DISABLE: a write of CFG with EN = 0. -/
def execCameraStreamDisable (port : Port) (st : BitVec 3) :=
  does (.get fun s => portCmd port (strmOff st.toNat 0) (s.camCfg st.toNat) (whenA (s.bit R.ISP_STRM_CFG_EN 0 st.toNat) (camDisable st.toNat)))

/-! ### Ports -/

/-- LANES_HS_SYNC_CHANGE. -/
def execLanesHsSyncChange (port : BitVec 2) (lock ulps : Bool) :=
  does (.get fun s => whenA (s.hubUp 0 && s.bit R.ISP_PORT_CFG_EN 0 port.toNat)
    (.seq (setR R.ISP_PORT_STATUS_LOCK (b2n lock) 0 port.toNat) (setR R.ISP_PORT_STATUS_ULPS (b2n ulps) 0 port.toNat)))

/-! ### Sensor power switches (R418, R419, R549) -/

/-- A switch enters a state. -/
def swState (k st : Nat) : Act :=
  .get fun s => .seq (setR R.ISP_SW_STATUS_STATE st 0 k) (.put (.isp fun d => { d with sw := mset 0 d.sw k s.t }))

/-- A switch enters FAULT; the frames open on the ports it powers carry POWER. -/
def swFault (k cause : Nat) : Act :=
  .get fun s => many [
    swState k 3, setR R.ISP_SW_STATUS_CAUSE cause 0 k, bump R.ISP_SW_FAULTS_COUNT 1 0 k,
    raiseEv R.ISP_EVENT_SW_FAULT R.ISP_EVENT_MASK_EN R.ISP_EVENT_MASK_VECTOR 0, logIsp 1 k 0 cause,
    forA ((List.range 8).filter (fun st => bitOf (s.reg R.ISP_PORT_CFG_SW_MAP 0 (s.reg R.ISP_STRM_CFG_PORT 0 st)) k)) (fun st => frameFlag st 11) ]

/-- A write of CTL of a switch that there is. -/
def swCmd (port : Port) (k : BitVec 2) (v : Nat) (a : Act) : Act :=
  let off := ispOff (0x2000 + 0x20 * k.toNat)
  if k.toNat < 2 then portCmd port off v a else portCmd port off v (logReg port off v 2 false)

/-- EN = 1. -/
def swOn (k : Nat) : Act :=
  .get fun s => match s.reg R.ISP_SW_STATUS_STATE 0 k with
    | 0 => .seq (setR R.ISP_SW_CTL_EN 1 0 k) (swState k 1)
    | 3 => .nop
    | _ => setR R.ISP_SW_CTL_EN 1 0 k

def execSwEnable (port : Port) (k : BitVec 2) := does (swCmd port k 1 (swOn k.toNat))

/-- EN = 0: ON goes OFF; a ramp runs to its end first. -/
def swOff (k : Nat) : Act :=
  .get fun s => .seq (setR R.ISP_SW_CTL_EN 0 0 k) (whenA (decide (s.reg R.ISP_SW_STATUS_STATE 0 k = 2)) (swState k 0))

def execSwDisable (port : Port) (k : BitVec 2) := does (swCmd port k 0 (swOff k.toNat))

/-- CLR: FAULT goes OFF, and then EN takes effect. -/
def swClear (k : Nat) (on : Bool) : Act :=
  .seq (.get fun s => whenA (decide (s.reg R.ISP_SW_STATUS_STATE 0 k = 3)) (swState k 0)) (if on then swOn k else swOff k)

/-- SW_CLEAR: the EN bit of the same write is 0. -/
def execSwClear (port : Port) (k : BitVec 2) := does (swCmd port k 2 (swClear k.toNat false))

/-- SW_RAMP_END: 1 ms into the ramp the output is tested. -/
def execSwRampEnd (k : BitVec 2) (outMv inMv : Nat) (dt : Nat) :=
  does (after dt (.get fun s =>
    let n := k.toNat
    if s.reg R.ISP_SW_STATUS_STATE 0 n ≠ 1 ∨ s.t < mget 0 s.isp.sw n + msU then .nop
    else if outMv < 2970 ∨ inMv < 3000 then swFault n 1
    else swState n (if s.bit R.ISP_SW_CTL_EN 0 n then 2 else 0)))

/-- SW_LIMIT_TIMEOUT: the switch has limited for `us` µs without a break. -/
def execSwLimitTimeout (k : BitVec 2) (us : Nat) :=
  does (.get fun s =>
    let st := s.reg R.ISP_SW_STATUS_STATE 0 k.toNat
    whenA (decide (200 ≤ us) && (decide (st = 1) || decide (st = 2))) (swFault k.toNat 2))

end Sys2Proof.Machine
end

