-- ==== Sys2Proof/Machine/TimeOps.lean ====
section
/-! DEFINITION. System time: its layout and its computation from a count (R372, R373). -/

namespace Sys2Proof.Machine

/-- System time of a count in units of 2⁻¹⁶ ns (R373). -/
def sysTime (rate off c : Nat) : Nat := (c * rate / 2 ^ 16 + off) % 2 ^ 96

/-- The time layout of R372. -/
def timeLayout (t : Nat) : Nat :=
  t % 2 ^ 16 + t / 2 ^ 16 % 10 ^ 9 * 2 ^ 32 + t / (10 ^ 9 * 2 ^ 16) % 2 ^ 64 * 2 ^ 64

/-- The system time a layout holds. -/
def ofLayout (x : Nat) : Nat := bits x 64 64 * (10 ^ 9 * 2 ^ 16) + bits x 32 30 * 2 ^ 16 + bits x 0 16

/-- RATE and OFFSET in force at a die: the Hub die's stand in its registers. -/
def State.timePar (s : State) (d : Nat) : Nat × Nat :=
  if d = 4 then (s.reg R.TIME_RATE_RATE, s.reg R.TIME_OFFSET_OFFSET) else mget (0x200000000, 0) s.time.par d

/-- The system time of a count under the parameters in force at a die. -/
def State.timeOf (s : State) (d c : Nat) : Nat := sysTime (s.timePar d).1 (s.timePar d).2 c

/-- The Hub die's system time. -/
def State.now (s : State) : Nat := s.timeOf 4 (s.count 4)

end Sys2Proof.Machine
end

