-- ==== Sys2Proof/Machine/FabOps.lean ====
section
/-! DEFINITION. Flifer: packets, credits and the output arbiters, routes, and what a sender and a receiver do (R329, R330,
R344–R359). -/

namespace Sys2Proof.Machine

/-! ### Packets (R346, R348) -/

/-- The class of a TYPE: 0 REQ, 1 RSP, 2 MGMT. -/
def pktClass (typ : Nat) : Nat := if typ = 1 ∨ typ = 2 then 0 else if typ = 0x10 ∨ typ = 0x11 ∨ typ = 0x12 then 1 else 2

/-- Payload bytes, padded. -/
def PktS.pay (p : PktS) : Nat :=
  if p.typ = 1 ∨ p.typ = 0x11 then roundUp p.hdr.len.toNat 64 else if 0x21 ≤ p.typ ∧ p.typ ≤ 0x26 then 64 else 0

/-- Flits of a packet (R345). -/
def PktS.flits (p : PktS) : Nat := cdiv (32 + p.pay) 64

/-- The credit pool a packet takes from: class and channel; MGMT has one channel. -/
def PktS.pool (p : PktS) : Nat := if pktClass p.typ = 2 then 4 else pktClass p.typ * 2 + b2n p.hdr.ch

/-- Flits of a receive buffer (R346). -/
def poolCap (k : Nat) : Nat := if k = 4 then 64 else 256

/-- A header as its source makes it: HOPS 15, POP 1, channel 0. -/
def mkHdr (dst src job win code len off psn tag : Nat) : Pkt :=
  { dst := BitVec.ofNat 6 dst, ch := false, src := BitVec.ofNat 6 src, hops := 15, pop := 1, job := BitVec.ofNat 16 job,
    window := BitVec.ofNat 8 win, code := BitVec.ofNat 8 code, len := BitVec.ofNat 16 len, offset := BitVec.ofNat 32 off,
    psn := BitVec.ofNat 32 psn, tag := BitVec.ofNat 16 tag, stamp := 0 }

/-- The package's own number. -/
def State.ownPkg (s : State) : Nat := s.reg R.FAB_ID_PACKAGE

def State.fport (s : State) (m : Nat) : FPort := mget FPort.reset s.fab.ports m
def updFport (m : Nat) (f : FPort → FPort) : Act := .put (.fab fun x => { x with ports := mupd FPort.reset x.ports m f })

/-- Port m is up (R369). -/
def State.portUp (s : State) (m : Nat) : Bool := decide (s.reg R.FAB_PORT_STATUS_STATE 0 m = 2)

/-- A log entry of class 0x07: peer, port, window, NACK code, epochs (R396). -/
def logFab (ev peer port win code own their : Nat) : Act :=
  logEv 4 srcFab 7 ev (peer % 256 + port % 256 * 2 ^ 8 + win % 256 * 2 ^ 16 + code % 256 * 2 ^ 24 + own % 2 ^ 32 * 2 ^ 32 + their % 2 ^ 32 * 2 ^ 64)

/-- FAB_EVENT bits (R367, R520). -/
def fabEvent (bit : Nat) : Act :=
  match bit with
  | 0 => raiseEv R.FAB_EVENT_PORT_DOWN R.FAB_EVENT_MASK_EN R.HUB_FAB_IRQ_VECTOR 0
  | 1 => raiseEv R.FAB_EVENT_ROUTE_SWITCH R.FAB_EVENT_MASK_EN R.HUB_FAB_IRQ_VECTOR 1
  | 2 => raiseEv R.FAB_EVENT_ROUTE_LOST R.FAB_EVENT_MASK_EN R.HUB_FAB_IRQ_VECTOR 2
  | 3 => raiseEv R.FAB_EVENT_PEER_LOST R.FAB_EVENT_MASK_EN R.HUB_FAB_IRQ_VECTOR 3
  | 4 => raiseEv R.FAB_EVENT_DIGEST_MISMATCH R.FAB_EVENT_MASK_EN R.HUB_FAB_IRQ_VECTOR 4
  | 5 => raiseEv R.FAB_EVENT_NACK R.FAB_EVENT_MASK_EN R.HUB_FAB_IRQ_VECTOR 5
  | _ => raiseEv R.FAB_EVENT_E2E_TIMEOUT R.FAB_EVENT_MASK_EN R.HUB_FAB_IRQ_VECTOR 6

/-! ### Output ports (R330, R346) -/

/-- The first packet of an input that its credits cover, none overtaking another of its own class and channel. -/
def firstFit (used : SMap Nat) : List PktS → List Nat → Option PktS
  | [], _ => none
  | q :: r, no =>
    if no.contains q.pool then firstFit used r no
    else if mget 0 used q.pool + q.flits ≤ poolCap q.pool then some q
    else firstFit used r (q.pool :: no)

/-- What each input of a port's arbiter offers. -/
def FPort.heads (f : FPort) : List (Nat × PktS) :=
  (List.range 7).filterMap (fun i => (firstFit f.used (f.wait.filter (fun q => decide (q.inp = i))) []).map (fun q => (i, q)))

/-- The weights after the additions of R330. -/
def cwNext (cw : SMap Int) (h : List (Nat × PktS)) : SMap Int :=
  (List.range 7).foldl (fun m i => match h.find? (fun e => decide (e.1 = i)) with
    | some e => mset 0 m i (mget 0 cw i + e.2.hdr.pop.toNat)
    | none => m) []

/-- The input granted: the largest weight, the lowest number on ties. -/
def cwWin (cw : SMap Int) (h : List (Nat × PktS)) : Option (Nat × PktS) :=
  h.foldl (fun b e => match b with
    | none => some e
    | some x => if mget 0 cw x.1 < mget 0 cw e.1 then some e else some x) none

/-- What a packet that carries time takes at its departure (R386, R387): ORIGIN, T1 and T3; a forwarded TSYNC adds its
departure to CORRECTION, from which its arrival has been taken. -/
def stampOut (now : Nat) (q : PktS) : PktS :=
  if q.typ = 0x22 then { q with data := if q.inp = 6 then setBits q.data 0 128 (timeLayout now) else setBits q.data 128 64 (bits q.data 128 64 + now) }
  else if q.typ = 0x23 then { q with data := setBits q.data 0 128 (timeLayout now) }
  else if q.typ = 0x24 then { q with data := setBits q.data 256 128 (timeLayout now) }
  else q

/-- One grant of a port: the packet leaves, holds credits at the neighbour and a place in the replay buffer of 512 flits
until it is acknowledged (R345). -/
def grantPort (m : Nat) : Act :=
  .get fun s =>
    let f := s.fport m
    let h := f.heads
    let cw := cwNext f.cw h
    let held := (f.unacked.map Prod.fst).sum
    match cwWin cw h with
    | none => .nop
    | some (w, q) =>
      if !s.portUp m || !s.bit R.FAB_CFG_ENABLE || 512 < held + q.flits then .nop
      else
        let total : Nat := (h.map (fun e => e.2.hdr.pop.toNat)).sum
        let hdr := { q.hdr with pop := BitVec.ofNat 12 (min 4095 total), stamp := if q.inp = 6 then BitVec.ofNat 64 (s.count 4) else q.hdr.stamp }
        many [
          updFport m (fun g => { g with
            wait := g.wait.erase q, unacked := g.unacked ++ [(q.flits, { q with hdr := hdr })],
            used := mset 0 g.used q.pool (mget 0 g.used q.pool + q.flits),
            cw := mset 0 cw w (mget 0 cw w - (total : Int)) }),
          .put (.out (.packet m (stampOut s.now { q with hdr := hdr }))) ]

/-- Since when each class of a port has held packets without credit; STALL falls once none has for longer than LINK_US
(R369). -/
def stallMark (m : Nat) : Act :=
  .get fun s =>
    let f := s.fport m
    let lack := fun k => match f.wait.find? (fun q => decide (q.pool = k)) with
      | some q => decide (poolCap k < mget 0 f.used k + q.flits)
      | none => false
    let st : SMap (Option Nat) := (List.range 5).foldl (fun a k => if lack k then mset none a k (some ((mget none f.stall k).getD s.t)) else a) []
    many [
      updFport m (fun g => { g with stall := st }),
      whenA (!st.any (fun e => match e.2 with | some t0 => decide (t0 + s.reg R.FAB_TIMEOUT_LINK_US * usU < s.t) | none => false))
        (setR R.FAB_PORT_CREDIT_STALL 0 0 m) ]

/-- A port sends what it can. -/
def pumpPort (m : Nat) : Act := .get fun s => many [many (List.replicate (s.fport m).wait.length (grantPort m)), stallMark m]

/-! ### Routes (R348, R357) -/

/-- The port in use for a destination, and whether the packet moves to channel 1. -/
def State.route (s : State) (dst : Nat) : Option (Nat × Bool) :=
  let pr := s.reg R.FAB_ROUTE_PRIMARY 0 dst
  let al := s.reg R.FAB_ROUTE_ALT 0 dst
  let alOk := s.bit R.FAB_ROUTE_ALT_EN 0 dst && s.portUp al
  if !s.bit R.FAB_ROUTE_VALID 0 dst then none
  else if s.bit R.FAB_ROUTE_USING_ALT 0 dst && alOk then some (al, s.bit R.FAB_ROUTE_AVC 0 dst)
  else if s.portUp pr then some (pr, s.bit R.FAB_ROUTE_PVC 0 dst)
  else if alOk then some (al, s.bit R.FAB_ROUTE_AVC 0 dst)
  else none

/-- A packet waits for the port of its route, or is dropped and counted where there is none. -/
def enqueue (p : PktS) : Act :=
  .get fun s =>
    if !s.bit R.FAB_CFG_ENABLE then .nop
    else match s.route p.hdr.dst.toNat with
    | none => bump R.FAB_DROP_COUNT
    | some (m, vc) => .seq (updFport m fun f => { f with wait := f.wait ++ [{ p with hdr := { p.hdr with ch := p.hdr.ch || vc } }] }) (pumpPort m)

/-! ### The sender (R350, R354, R358) -/

/-- A response arrives at the package (R354). -/
def recvRsp (p : PktS) : Act :=
  .get fun s =>
    let h := p.hdr
    match s.fab.pend.find? (fun e => decide (e.psn = h.psn.toNat) && decide (e.tag = h.tag.toNat) &&
        (decide (p.typ = 0x12) || decide (e.isRead = decide (p.typ = 0x11)))) with
    | none => bump R.FAB_DUP_COUNT
    | some e => many [
        .put (.fab fun f => { f with pend := f.pend.erase e }),
        if p.typ = 0x10 then .seq (endSeg e.x e.k) (.get fun s => withA (s.xfer e.x) fun v => whenA v.fin.isSome (settleXfer e.x))
        else if p.typ = 0x11 then updSeg e.x e.k fun g => { g with st := .haveData, data := p.data % 2 ^ (8 * e.len) }
        else many [
          whenA (!s.bit R.FAB_NACK_LAST_VALID) (many [
            setR R.FAB_NACK_LAST_CODE (h.code.toNat % 16), setR R.FAB_NACK_LAST_CLASS (h.code.toNat / 16),
            setR R.FAB_NACK_LAST_PEER h.src.toNat, setR R.FAB_NACK_LAST_WINDOW h.window.toNat, setR R.FAB_NACK_LAST_VALID 1]),
          fabEvent 5, logFab 5 h.src.toNat (p.inp % 7) h.window.toNat h.code.toNat 0 0,
          failSeg e.x e.k (if h.code.toNat % 16 = 8 then stPeerLost else stWindow) ] ]

/-- A response goes out, or straight to the package itself. -/
def sendRsp (p : PktS) : Act := .get fun s => if p.hdr.dst.toNat = s.ownPkg then recvRsp p else enqueue p

/-- The answer to a request: its TYPE, CODE and payload. -/
def answer (q : PktS) (typ code : Nat) (data : Nat) : Act :=
  .get fun s => sendRsp ⟨typ, mkHdr q.hdr.src.toNat s.ownPkg q.hdr.job.toNat q.hdr.window.toNat code (if typ = 0x11 then q.hdr.len.toNat else 0)
    q.hdr.offset.toNat q.hdr.psn.toNat q.hdr.tag.toNat, data, 6⟩

/-- A request with no usable route is answered with code 8 (R348, R353). -/
def forward (p : PktS) : Act :=
  .get fun s =>
    if s.bit R.FAB_CFG_ENABLE && (s.route p.hdr.dst.toNat).isNone && decide (pktClass p.typ = 0) then answer p 0x12 8 0 else enqueue p

/-! ### The receiver (R351–R355) -/

/-- PSN `a` comes after `b` in the count of R355, which wraps at 2³². -/
def psnAfter (a b : Nat) : Bool := decide (0 < (a + 2 ^ 32 - b) % 2 ^ 32) && decide ((a + 2 ^ 32 - b) % 2 ^ 32 < 2 ^ 31)

/-- What the record of a source says of a PSN: new (0), a duplicate with the code it was answered with (1 + code), or
stale. -/
def FSeen.look (r : Option FSeen) (psn : Nat) : Option Nat :=
  match r with
  | none => some 0
  | some f =>
    if psnAfter psn f.top then some 0
    else if 2048 ≤ (f.top + 2 ^ 32 - psn) % 2 ^ 32 then Option.none
    else match f.seen.find? (fun e => decide (e.1 = psn)) with
      | some e => some (1 + e.2)
      | _ => some 0

/-- A PSN enters the record. -/
def FSeen.note (r : Option FSeen) (psn code : Nat) : FSeen :=
  match r with
  | none => ⟨psn, [(psn, code)]⟩
  | some f =>
    let top := if psnAfter psn f.top then psn else f.top
    ⟨top, (f.seen.filter (fun e => decide ((top + 2 ^ 32 - e.1) % 2 ^ 32 < 2048) && decide (e.1 ≠ psn))) ++ [(psn, code)]⟩

/-- The device address a window maps an offset to. -/
def State.winAddr (s : State) (w off : Nat) : Nat := s.reg R.FAB_WIN_BASE_ADDR 0 w * 2 ^ 16 + off

/-- The first of the checks 1 to 5 of R353 that a request fails. -/
def State.winCheck (s : State) (p : PktS) : Option Nat :=
  let w := p.hdr.window.toNat
  let h := p.hdr
  if 64 ≤ w || !s.bit R.FAB_WIN_CTL_OPEN 0 w then some 1
  else if !bitOf (s.reg R.FAB_WIN_PEERS_MASK 0 w) h.src.toNat then some 2
  else if h.job.toNat ≠ s.reg R.FAB_WIN_JOB_SEM_JOB 0 w then some 3
  else if !(if p.typ = 1 then s.bit R.FAB_WIN_CTL_WR_EN 0 w else s.bit R.FAB_WIN_CTL_RD_EN 0 w) then some 4
  else if s.reg R.FAB_WIN_SIZE_PAGES 0 w * 65536 < h.offset.toNat + h.len.toNat then some 5
  else none

/-- The window's bytes as runs within a page. -/
def State.winRuns (s : State) (p : PktS) : List (Nat × Nat) := splitPage (s.winAddr p.hdr.window.toNat p.hdr.offset.toNat) p.hdr.len.toNat

/-- Translation at the receiver, by the tables of die `hubXlt`. -/
def State.winLook (s : State) (p : PktS) (da : Nat) : TRes :=
  s.translate hubXlt (s.reg R.FAB_WIN_CTL_CTX 0 p.hdr.window.toNat) da (decide (p.typ = 1)) none

/-- Checks 6 and 7 of R353, a bulk page that a READ waits for, and a resident one whose frame has an uncorrectable error (R237). -/
inductive WinRes where
  | ok
  | nack (code : Nat) (da cls : Nat) (bad : Option Nat)
  | wait (pte da : Nat)
  | lostPage (pa n pte : Nat)
  deriving DecidableEq, Repr

def State.winMem (s : State) (p : PktS) : WinRes :=
  match (s.winRuns p).findSome? (fun r => match s.winLook p r.1 with
      | .fault c b => some (WinRes.nack (6 + 16 * c) r.1 c b)
      | .mig pte _ => some (.wait pte r.1)
      | .dram pa pte e =>
        if s.inReset 2 (paDie pa) then some (.nack 7 r.1 0 none)
        else if p.typ = 1 then
          (if (unitsOf pa r.2).any (fun u => decide (mget 0 s.die.errs u = 2) && (decide (64 * u < pa) || decide (pa + r.2 < 64 * u + 64))) then some (.nack 7 r.1 0 none) else none)
        else if (s.badUnit pa r.2).isSome then (if bits e 0 2 = 3 then some (.lostPage pa r.2 pte) else some (.nack 7 r.1 0 none)) else none
      | .hub _ => none
      | _ => some (.nack (6 + 16) r.1 1 none)) with
  | some r => r
  | none => .ok

/-- The bytes of a window's run. -/
def State.winBytes (s : State) (p : PktS) (da n : Nat) : Nat :=
  match s.winLook p da with
  | .dram pa _ _ => s.dramGet pa n
  | .hub o => memRead s.hubMem o n
  | _ => 0

/-- A READ is answered with its data. -/
def answerRead (p : PktS) : Act :=
  .get fun s => many [
    forA (s.winRuns p) (fun r => .get fun s =>
      let t := s.winLook p r.1
      match t with
      | .dram pa _ _ => many [noteWalk hubXlt (s.reg R.FAB_WIN_CTL_CTX 0 p.hdr.window.toNat) r.1 t, readErrs pa r.2 false (s.reg R.FAB_WIN_CTL_CTX 0 p.hdr.window.toNat)]
      | _ => .nop),
    answer p 0x11 0 ((s.winRuns p).foldr (fun r acc => s.winBytes p r.1 r.2 + acc * 2 ^ (8 * r.2)) 0) ]

/-- A WRITE takes effect, is acknowledged, and rings the window's bell where it covers its last unit (R351). -/
def doWrite (p : PktS) : Act :=
  .get fun s =>
    let w := p.hdr.window.toNat
    let size := s.reg R.FAB_WIN_SIZE_PAGES 0 w * 65536
    let ctx := s.reg R.FAB_WIN_CTL_CTX 0 w
    let put := fun (da n v : Nat) => Act.get fun s =>
      let t := s.winLook p da
      match t with
      | .dram pa _ _ => many [noteWalk hubXlt ctx da t, dramStore pa n v ctx]
      | .hub o => .put (.hubMem o n v)
      | _ => .nop
    many [
      (match s.winRuns p with
       | [(a, n), (b, m)] => .seq (put a n (p.data % 2 ^ (8 * n))) (put b m (p.data / 2 ^ (8 * n) % 2 ^ (8 * m)))
       | l => forA l (fun r => put r.1 r.2 (p.data % 2 ^ (8 * r.2)))),
      answer p 0x10 0 0,
      whenA (s.bit R.FAB_WIN_CTL_BELL 0 w && decide (p.hdr.offset.toNat + 64 ≤ size) && decide (size ≤ p.hdr.offset.toNat + p.hdr.len.toNat))
        (signal (s.reg R.FAB_WIN_JOB_SEM_SEM 0 w) 1 ((s.ctxPart hubXlt ctx).getD 16) 4 0xFFFF 0) ]

/-- A request is turned away: NACK and the window's count. -/
def nackReq (p : PktS) (code : Nat) : Act :=
  .seq (whenA (decide (p.hdr.window.toNat < 64)) (bump R.FAB_WIN_NACK_COUNT 1 0 p.hdr.window.toNat)) (answer p 0x12 code 0)

/-- A READ waits for a page to be migrated, or is turned away where no frame can be had (R234, R353). -/
def waitPage (p : PktS) (ctx pte da : Nat) (note : Nat → Act) : Act :=
  .get fun s => many [
    note 0, migFault hubXlt ctx ((s.ctxPart hubXlt ctx).getD 0) pte,
    .get fun s => if s.migWaits pte || bitOf (s.dramGet pte 8) 3 then .put (.fab fun f => { f with held := f.held ++ [(pte, p)] })
      else .seq (recordFault hubXlt ctx da 8 none 0 true false false) (nackReq p (6 + 16 * 8)) ]

/-- The memory side of a request that passed checks 1 to 5: `again` marks a repeated READ, counted no second time. -/
def serveReq (p : PktS) (again : Bool) (note : Nat → Act) : Act :=
  .get fun s =>
    let w := p.hdr.window.toNat
    let ctx := s.reg R.FAB_WIN_CTL_CTX 0 w
    match s.winMem p with
    | .nack c da cls b => many [note c, whenA (decide (c % 16 = 6)) (recordFault hubXlt ctx da cls b 0 true false (decide (p.typ = 1))),
        whenA (decide (c = 7)) (forA (s.winRuns p) (fun r => match s.winLook p r.1 with
          | .dram pa _ _ => readErrs pa r.2 false ctx
          | _ => .nop)),
        nackReq p c]
    | .wait pte da => waitPage p ctx pte da note
    | .lostPage pa n pte => .seq (bulkBad pa n ctx pte) (waitPage p ctx pte 0 note)
    | .ok => many [note 0, whenA (!again) (bump R.FAB_WIN_ACCEPT_COUNT 1 0 w), if p.typ = 1 then doWrite p else answerRead p]

/-- A REQ packet at its destination (R353, R355, R358). -/
def recvReq (p : PktS) : Act :=
  .get fun s =>
    let src := p.hdr.src.toNat
    let psn := p.hdr.psn.toNat
    let note := fun (code : Nat) => Act.put (.fab fun f => { f with recs := mset none f.recs src (some (FSeen.note (mget none f.recs src) psn code)) })
    if bitOf (s.reg R.FAB_PEER_LOST_LOST) src then bump R.FAB_DROP_COUNT
    else match FSeen.look (mget none s.fab.recs src) psn with
    | none => bump R.FAB_DUP_COUNT
    | some 0 => match s.winCheck p with
      | some c => .seq (note c) (nackReq p c)
      | none => serveReq p false note
    | some (c + 1) => .seq (bump R.FAB_DUP_COUNT)
        (if c ≠ 0 then answer p 0x12 c 0
         else if p.typ = 1 then answer p 0x10 0 0
         else if s.fab.held.any (fun e => decide (e.2.hdr.src = p.hdr.src) && decide (e.2.hdr.psn = p.hdr.psn)) then .nop
         else serveReq p true (fun _ => .nop))

/-- READs that waited for a page whose migration has ended: they are answered, or turned away with the class the migration
failed with, or with MIG_NOFRAME where none began (R234, R353). -/
def heldDone (pte cls : Nat) : Act :=
  .get fun s => forA (s.fab.held.filter (fun e => !s.migWaits e.1 && !bitOf (s.dramGet e.1 8) 3)) (fun e => .get fun s => many [
    .put (.fab fun f => { f with held := f.held.erase e }),
    if bits (s.dramGet e.1 8) 0 2 = 2 then
      let c := if e.1 = pte then cls else 8
      .seq (recordFault hubXlt (s.reg R.FAB_WIN_CTL_CTX 0 e.2.hdr.window.toNat) (match s.winMem e.2 with | .wait _ da => da | _ => 0) c none 0 true false false)
        (nackReq e.2 (6 + 16 * c))
    else serveReq e.2 false (fun _ => .nop) ])

/-- A request leaves the package, or is delivered in it. -/
def sendReqPkt (p : PktS) : Act := .get fun s => if p.hdr.dst.toNat = s.ownPkg && s.bit R.FAB_ID_VALID then recvReq p else forward p

/-! ### A sender's segments (R350) -/

/-- The smallest TAG no outstanding segment has. -/
def State.freeTag (s : State) : Nat := (findUp (fun t => !s.fab.pend.any (fun e => decide (e.tag = t))) 0 65536).getD 0

/-- The packet of a segment goes out: its PSN is the next of the pair, its TAG a free slot. -/
def sendSeg (x k : Nat) (isRead : Bool) (peerOff len data : Nat) : Act :=
  .get fun s => withA (s.xfer x) fun v =>
    let dst := peerOff / 2 ^ 38 % 64
    let psn := mget 0 s.fab.psn dst
    let tag := s.freeTag
    many [
      .put (.fab fun f => { f with
        psn := mset 0 f.psn dst ((psn + 1) % 2 ^ 32),
        pend := f.pend ++ [⟨dst, psn, tag, x, k, isRead, s.t, v.part, len⟩] }),
      sendReqPkt ⟨if isRead then 2 else 1, mkHdr dst s.ownPkg (s.reg R.FAB_PART_W0_JOB 0 v.part) (peerOff / 2 ^ 32 % 64) 0 len (peerOff % 2 ^ 32) psn tag, data, 6⟩ ]

/-- Segments of a transfer toward or from a package that have not ended. -/
def Xfer.peerSegs (v : Xfer) (dst : Option Nat) : Nat :=
  (v.segs.filter (fun g => decide (g.st ≠ .ended) &&
    ((decide (g.srcKind = 4) && (match dst with | some d => decide (g.src / 2 ^ 38 % 64 = d) | none => true)) ||
     (decide (g.dstKind = 4) && (match dst with | some d => decide (g.dst / 2 ^ 38 % 64 = d) | none => true))))).length

/-- FAB_PART_p.INFLIGHT (R370). -/
def State.partFlight (s : State) (p : Nat) : Nat :=
  (s.die.xfers.map (fun e => match e.2 with | some v => if v.part = p then v.peerSegs none else 0 | none => 0)).sum

/-- Packets to one destination that are outstanding from the package. -/
def State.peerFlight (s : State) (d : Nat) : Nat :=
  (s.die.xfers.map (fun e => match e.2 with | some v => v.peerSegs (some d) | none => 0)).sum

/-- What R349 and R350 say of a segment toward a window address: it may go, it waits, or it ends its transfer. -/
inductive PeerGo where
  | go | wait
  | stop (st : Nat)
  deriving DecidableEq, Repr

def State.peerGate (s : State) (p peerOff : Nat) : PeerGo :=
  let d := peerOff / 2 ^ 38 % 64
  if !s.bit R.FAB_PART_W0_EN 0 p then .stop 3
  else if !bitOf (s.reg R.FAB_PEER_MASK_MASK) d || bitOf (s.reg R.FAB_PEER_LOST_LOST) d then .stop stPeerLost
  else if s.reg R.FAB_PART_W1_LIMIT 0 p ≤ s.partFlight p || 1024 ≤ s.peerFlight d then .wait
  else .go

/-- Every segment outstanding to a package ends at once, its transfer with PEER_LOST (R358). -/
def losePeer (d : Nat) : Act :=
  .get fun s => many [
    .put (.fab fun f => { f with pend := f.pend.filter (fun e => decide (e.dst ≠ d)) }),
    forA (s.die.xfers.map Prod.fst) (fun x => .get fun s => withA (s.xfer x) fun v =>
      whenA (decide (0 < v.peerSegs (some d))) (many [
        updXfer x (fun v => { v with
          fin := some (v.fin.getD stPeerLost),
          segs := v.segs.map (fun g => if (g.srcKind = 4 ∧ g.src / 2 ^ 38 % 64 = d) ∨ (g.dstKind = 4 ∧ g.dst / 2 ^ 38 % 64 = d) then { g with st := .ended } else g) }),
        settleXfer x ])) ]

end Sys2Proof.Machine
end

