-- ==== Sys2Proof/Machine/Fabric.lean ====
section
/-! DEFINITION. Flifer: what its ports, packets and timers do (R344–R359, R538, R539). -/

namespace Sys2Proof.Machine

/-- A bit of a field takes a value. -/
def setBitR (f : Fld) (b : Bool) (k : Nat) (i : Nat := 0) (j : Nat := 0) : Act := .get fun s => setR f (setBits (s.reg f i j) k 1 (b2n b)) i j

/-! ### Ports (R345, R357) -/

/-- A port goes down: it is recorded, its routes switch, and what it held goes on by the routes that are left, in its
original order (R357). -/
def portDown (m cause : Nat) : Act :=
  .get fun s =>
    if s.reg R.FAB_PORT_STATUS_STATE 0 m = 3 then .nop
    else
      let f := s.fport m
      let left := f.unacked.map Prod.snd ++ f.wait
      many [
        setR R.FAB_PORT_STATUS_STATE 3 0 m, setR R.FAB_PORT_STATUS_LANES 0 0 m, setR R.FAB_PORT_STATUS_CAUSE cause 0 m,
        bump R.FAB_PORT_DOWNS_COUNT 1 0 m, fabEvent 0, logFab 1 (s.reg R.FAB_PORT_STATUS_PEER_PKG 0 m) m 0 0 0 0,
        updFport m (fun _ => FPort.reset), setR R.FAB_PORT_CREDIT_STALL 0 0 m,
        forA (List.range 64) (fun k => .get fun s =>
          let pr := s.reg R.FAB_ROUTE_PRIMARY 0 k
          let al := s.reg R.FAB_ROUTE_ALT 0 k
          let alOk := s.bit R.FAB_ROUTE_ALT_EN 0 k && s.portUp al
          let using_ := s.bit R.FAB_ROUTE_USING_ALT 0 k
          if !s.bit R.FAB_ROUTE_VALID 0 k then .nop
          else if pr = m ∧ using_ = false then
            (if alOk then many [setR R.FAB_ROUTE_USING_ALT 1 0 k, fabEvent 1, logFab 2 k al 0 0 0 0]
             else many [fabEvent 2, logFab 3 k m 0 0 0 0])
          else if al = m ∧ using_ = true then
            (if s.portUp pr then many [setR R.FAB_ROUTE_USING_ALT 0 0 k, fabEvent 1, logFab 2 k pr 0 0 0 0]
             else many [fabEvent 2, logFab 3 k m 0 0 0 0])
          else .nop),
        forA left forward ]

/-- A flit has come: the port's timer begins again, and flits the neighbour acknowledges leave the replay buffer. -/
def ackFlits : List (Nat × PktS) → Nat → List (Nat × PktS)
  | [], _ => []
  | (k, q) :: r, n => if k ≤ n then ackFlits r (n - k) else (k - n, q) :: r

/-- FLIT: a flit with a good CRC is taken and carries a cumulative acknowledgement; a bad one is counted and replayed,
and after 16 failed replays in a row the port goes down. -/
def execFlit (p : Fin 6) (crcOk : Bool) (acked : Nat) :=
  does (.get fun s =>
    if !s.portUp p.val then .nop
    else if crcOk then .seq (updFport p.val fun f => { f with fails := 0, lastOk := s.t, unacked := ackFlits f.unacked acked }) (pumpPort p.val)
    else many [
      bump R.FAB_PORT_BAD_COUNT 1 0 p.val,
      if 16 ≤ (s.fport p.val).fails then portDown p.val 1 else updFport p.val fun f => { f with fails := f.fails + 1 } ])

/-- FLIFER_IDLE_FLIT: an idle port sends an idle flit every microsecond. -/
def execFliferIdleFlit (p : Fin 6) (dt : Nat) :=
  does (after dt (.get fun s => whenA (s.portUp p.val && decide ((s.fport p.val).wait = []) && decide (usU ≤ dt)) (.put (.out (.flit p.val true)))))

/-- FLIFER_LINK_TIMEOUT: no valid flit for LINK_US. -/
def execFliferLinkTimeout (p : Fin 6) (dt : Nat) :=
  does (after dt (.get fun s =>
    whenA (s.portUp p.val && decide ((s.fport p.val).lastOk + s.reg R.FAB_TIMEOUT_LINK_US * usU ≤ s.t)) (portDown p.val 2)))

/-- ROUTE_RESTORE: a primary port that has been up for RESTORE_MS takes its routes back. -/
def execRouteRestore (p : Fin 6) (dt : Nat) :=
  does (after dt (.get fun s =>
    if s.portUp p.val && decide ((s.fport p.val).upSince + s.reg R.FAB_PERIOD_RESTORE_MS * msU ≤ s.t) then
      .seq (forA (List.range 64) (fun k => .get fun s =>
        whenA (decide (s.reg R.FAB_ROUTE_PRIMARY 0 k = p.val) && s.bit R.FAB_ROUTE_USING_ALT 0 k)
          (many [setR R.FAB_ROUTE_USING_ALT 0 0 k, fabEvent 1, logFab 2 k p.val 0 0 0 0]))) (pumpPort p.val)
    else .nop))

/-- FLIFER_TRAIN_DONE: training of an enabled port ends with the lanes that pass in both directions and what the other end
said of itself (R344, R538): four lanes, two, or down with CAUSE 3. -/
def execFliferTrainDone (p : Fin 6) (lanes : BitVec 4) (pkg : BitVec 6) (pvalid : Bool) (pport : BitVec 3) (uid : BitVec 128) :=
  does (.get fun s =>
    let m := p.val
    let n := ((List.range 4).filter (fun k => bitOf lanes.toNat k)).length
    if !bitOf (s.reg R.FAB_CFG_PORT_EN) m || s.portUp m then .nop
    else if n < 2 then portDown m 3
    else many [
      setR R.FAB_PORT_STATUS_STATE 2 0 m, setR R.FAB_PORT_STATUS_LANES (if n = 4 then 2 else 1) 0 m,
      setR R.FAB_PORT_STATUS_PEER_PKG pkg.toNat 0 m, setR R.FAB_PORT_STATUS_PEER_PORT pport.toNat 0 m,
      setR R.FAB_PORT_NBR_PKG pkg.toNat 0 m, setR R.FAB_PORT_NBR_PKG_VALID (b2n pvalid) 0 m, setR R.FAB_PORT_NBR_PORT pport.toNat 0 m,
      forA (List.range 4) (fun i => setR R.FAB_PORT_NBR_UID_UID (bits uid.toNat (32 * i) 32) 0 (4 * m + i)),
      updFport m (fun f => { FPort.reset with wait := f.wait, upSince := s.t, lastOk := s.t }),
      pumpPort m ])

/-- A port is enabled: it trains; or disabled: it goes down with CAUSE 4 (R367, R369). -/
def portEnable (m : Nat) (on : Bool) : Act :=
  .get fun s =>
    if on then whenA (decide (s.reg R.FAB_PORT_STATUS_STATE 0 m ≠ 2)) (setR R.FAB_PORT_STATUS_STATE 1 0 m)
    else whenA (decide (s.reg R.FAB_PORT_STATUS_STATE 0 m ≠ 0)) (portDown m 4)

/-- CREDIT_RETURN: flits have left the neighbour's receive buffer. -/
def execCreditReturn (p : Fin 6) (cls : BitVec 2) (ch : Bool) (n : Nat) :=
  let k := if cls.toNat = 2 then 4 else cls.toNat * 2 + b2n ch
  does (.seq (updFport p.val fun f => { f with used := mset 0 f.used k (mget 0 f.used k - n) }) (pumpPort p.val))

/-- CREDIT_STALL: a class has held packets without credit for longer than LINK_US. -/
def execCreditStall (p : Fin 6) (cls : BitVec 2) (ch : Bool) (dt : Nat) :=
  let k := if cls.toNat = 2 then 4 else cls.toNat * 2 + b2n ch
  does (after dt (.get fun s => match mget none (s.fport p.val).stall k with
    | some t0 => whenA (decide (t0 + s.reg R.FAB_TIMEOUT_LINK_US * usU < s.t)) (setR R.FAB_PORT_CREDIT_STALL 1 0 p.val)
    | none => .nop))

/-! ### Arrival (R348, R358, R539) -/

/-- A packet from a peer has come: an unknown peer is up (R358). -/
def noteHeard (n : Nat) : Act :=
  .get fun s => whenA (bitOf (s.reg R.FAB_PEER_MASK_MASK) n && !bitOf (s.reg R.FAB_PEER_LOST_LOST) n)
    (.seq (.put (.fab fun f => { f with heard := mset 0 f.heard n s.t })) (setBitR R.FAB_PEER_UP_UP true n))

/-- A packet arrives at a port: dropped, forwarded, or delivered to what its class does here. -/
def arrive (m : Nat) (p : PktS) (here : Act) : Act :=
  .get fun s =>
    let src := p.hdr.src.toNat
    if !s.bit R.FAB_CFG_ENABLE || !s.portUp m then .nop
    else .seq (updFport m fun f => { f with lastOk := s.t, fails := 0 }) (
      if src = s.ownPkg then .seq (bump R.FAB_DROP_COUNT) (logFab 8 src m 0 0 0 0)
      else if p.hdr.dst.toNat = s.ownPkg then
        .seq (noteHeard src)
          (if bitOf (s.reg R.FAB_PEER_LOST_LOST) src then whenA (decide (pktClass p.typ ≠ 2)) (bump R.FAB_DROP_COUNT) else here)
      else if p.hdr.hops = 0 then bump R.FAB_DROP_COUNT
      else forward { p with hdr := { p.hdr with hops := p.hdr.hops - 1 }, inp := m })

def execWrite (p : Fin 6) (k : Pkt) (data : Nat) :=
  let q : PktS := ⟨1, k, data % 2 ^ (8 * k.len.toNat), p.val⟩
  does (arrive p.val q (recvReq q))

def execRead (p : Fin 6) (k : Pkt) :=
  let q : PktS := ⟨2, k, 0, p.val⟩
  does (arrive p.val q (recvReq q))

def execAck (p : Fin 6) (k : Pkt) :=
  let q : PktS := ⟨0x10, k, 0, p.val⟩
  does (arrive p.val q (recvRsp q))

def execReadData (p : Fin 6) (k : Pkt) (data : Nat) :=
  let q : PktS := ⟨0x11, k, data % 2 ^ (8 * k.len.toNat), p.val⟩
  does (arrive p.val q (recvRsp q))

def execNack (p : Fin 6) (k : Pkt) :=
  let q : PktS := ⟨0x12, k, 0, p.val⟩
  does (arrive p.val q (recvRsp q))

/-- E2E_TIMEOUT: a segment without a response within E2E_MS ends with PEER_LOST (R354). -/
def execE2eTimeout (x k : Nat) (dt : Nat) :=
  does (after dt (.get fun s => withA (s.fab.pend.find? (fun e => decide (e.x = x) && decide (e.k = k))) fun e =>
    whenA (decide (e.since + s.reg R.FAB_TIMEOUT_E2E_MS * msU ≤ s.t)) (many [
      .put (.fab fun f => { f with pend := f.pend.erase e }), bump R.FAB_E2E_TO_COUNT, fabEvent 6, failSeg x k stPeerLost ])))

/-! ### Peers (R358) -/

def execPresence (p : Fin 6) (k : Pkt) :=
  let q : PktS := ⟨0x20, k, 0, p.val⟩
  does (arrive p.val q .nop)

/-- The packages of FAB_PEER_MASK. -/
def State.peers (s : State) : List Nat := (List.range 64).filter (fun n => bitOf (s.reg R.FAB_PEER_MASK_MASK) n && decide (n ≠ s.ownPkg))

/-- A management packet of a TYPE to a package. -/
def sendMgmt (typ dst len data : Nat) : Act := .get fun s => enqueue ⟨typ, mkHdr dst s.ownPkg 0 0 0 len 0 0 0, data, 6⟩

/-- PRESENCE_TIMER: every PRESENCE_US a PRESENCE packet goes to every package of the mask. -/
def execPresenceTimer (dt : Nat) :=
  does (after dt (.get fun s =>
    if s.bit R.FAB_CFG_ENABLE && decide (s.fab.presAt + s.reg R.FAB_PERIOD_PRESENCE_US * usU ≤ s.t) then
      .seq (.put (.fab fun f => { f with presAt := s.t })) (forA s.peers (fun n => sendMgmt 0x20 n 0 0))
    else .nop))

/-- PEER_TIMEOUT: a peer that is up and has sent nothing for PEER_US is lost. -/
def execPeerTimeout (peer : BitVec 6) (dt : Nat) :=
  does (after dt (.get fun s =>
    let n := peer.toNat
    whenA (bitOf (s.reg R.FAB_PEER_UP_UP) n && decide (mget 0 s.fab.heard n + s.reg R.FAB_TIMEOUT_PEER_US * usU ≤ s.t)) (many [
      setBitR R.FAB_PEER_UP_UP false n, setBitR R.FAB_PEER_LOST_LOST true n, fabEvent 3, logFab 4 n 0 0 0 0 0, losePeer n ])))

/-- PEER_REARM: a 1 written to a peer's LOST bit makes it unknown. -/
def execPeerRearm (port : Port) (peer : BitVec 6) :=
  does (portCmd port (fabOff 0x20 + 4 * (peer.toNat / 32)) (2 ^ (peer.toNat % 32)) (setBitR R.FAB_PEER_LOST_LOST false peer.toNat))

/-! ### Windows (R352) -/

/-- The offset of a register of window w. -/
def winOff (w o : Nat) : Nat := fabOff (0x1000 + 0x40 * w + o)

/-- What R352 and R370 say of opening window w. -/
def State.openOk (s : State) (w : Nat) : Bool :=
  decide (s.reg R.FAB_WIN_SIZE_PAGES 0 w ≠ 0) && decide (s.reg R.FAB_WIN_SIZE_PAGES 0 w ≤ 65536) &&
  (match s.ctxPart hubXlt (s.reg R.FAB_WIN_CTL_CTX 0 w) with
   | some p => s.bit R.FAB_PART_W0_EN 0 p
   | none => false)

/-- The word of FAB_WIN_w CTL with OPEN as given and every other field as it is. -/
def State.winWord (s : State) (w o : Nat) : Nat :=
  o + s.reg R.FAB_WIN_CTL_RD_EN 0 w * 2 + s.reg R.FAB_WIN_CTL_WR_EN 0 w * 4 + s.reg R.FAB_WIN_CTL_BELL 0 w * 8 + s.reg R.FAB_WIN_CTL_CTX 0 w * 16

def execWindowOpen (port : Port) (w : BitVec 8) :=
  does (.get fun s => portCmd port (winOff w.toNat 0) (s.winWord w.toNat 1) (.get fun s =>
    if 64 ≤ w.toNat || s.bit R.FAB_WIN_CTL_OPEN 0 w.toNat then .nop
    else if s.openOk w.toNat then setR R.FAB_WIN_CTL_OPEN 1 0 w.toNat
    else reserved port (winOff w.toNat 0) (s.winWord w.toNat 1)))

/-- WINDOW_CLOSE: later packets receive NACK code 1; what was accepted completes. -/
def closeWin (w : Nat) : Act := setR R.FAB_WIN_CTL_OPEN 0 0 w

def execWindowClose (port : Port) (w : BitVec 8) :=
  does (.get fun s => portCmd port (winOff w.toNat 0) (s.winWord w.toNat 0) (whenA (decide (w.toNat < 64)) (closeWin w.toNat)))

end Sys2Proof.Machine
end

