-- ==== Sys2Proof/Machine/ChrOps.lean ====
section
/-! DEFINITION. The Chainring links and the paths over them (R18, R19, R337–R343). -/

namespace Sys2Proof.Machine

def State.link (s : State) (l : Nat) : ChrL := mget ChrL.reset s.chr l
def State.linkSt (s : State) (l : Nat) : Nat := s.reg R.CHR_LINK_STATUS_STATE 0 l
def updLink (l : Nat) (f : ChrL → ChrL) : Act := .put (.chr l f)

/-- The ends of a link: ring links 0–3 in the ring direction, hub links 4–7; 4 is the Hub die. -/
def linkEnds (l : Nat) : Nat × Nat := [(0, 1), (1, 3), (3, 2), (2, 0), (0, 4), (1, 4), (2, 4), (3, 4)].getD l (0, 0)

/-- One end of the link is a compute die in reset (R482). -/
def State.endReset (s : State) (l : Nat) : Bool := [(linkEnds l).1, (linkEnds l).2].any (fun d => decide (d < 4) && s.inReset 2 d)

/-- One end of the link sleeps: the link is parked (R450). -/
def State.parked (s : State) (l : Nat) : Bool := [(linkEnds l).1, (linkEnds l).2].any (fun d => decide (d < 4) && decide (s.reg R.PWR_STATE_DIE 0 d ≠ 0))

/-- A link that carries traffic, for routing. -/
def State.linkUse (s : State) (l : Nat) : Bool := (decide (s.linkSt l = 1) || decide (s.linkSt l = 2)) && !s.endReset l

/-- The dies reached from a list over links that pass a test, one hop further. -/
def hop (use : Nat → Bool) (from_ : List Nat) : List Nat :=
  (List.range 5).filter (fun d => from_.contains d || (List.range 8).any (fun l => use l &&
    ((decide ((linkEnds l).1 = d) && from_.contains (linkEnds l).2) || (decide ((linkEnds l).2 = d) && from_.contains (linkEnds l).1))))

/-- The compute dies out of reset that have no path to the Hub die over such links. -/
def State.cutOff (s : State) (use : Nat → Bool) : List Nat :=
  let r := hop use (hop use (hop use (hop use [4])))
  (List.range 4).filter (fun d => !s.inReset 2 d && !r.contains d)

/-- A log entry of class 0x06: the state entered. -/
def logChr (st l cause : Nat) : Act := logEv 4 srcChr 6 st (l + cause * 2 ^ 8)

/-- A link enters a state; leaving DOWN is logged. -/
def linkState (l st : Nat) : Act :=
  .get fun s => many [
    whenA (decide (s.linkSt l = 3)) (logChr st l (s.reg R.CHR_LINK_STATUS_CAUSE 0 l)),
    setR R.CHR_LINK_STATUS_STATE st 0 l, setBitR R.CHR_STATUS_UP (decide (st = 1)) l ]

/-- A link enters DOWN: its traffic takes the detour, and a second loss holds new requests while every route is set anew
(R338, R339, R343). -/
def linkDown (l cause : Nat) : Act :=
  .get fun s =>
    if s.linkSt l = 3 then .nop
    else many [
      linkState l 3, setR R.CHR_LINK_STATUS_CAUSE cause 0 l, bump R.CHR_LINK_DOWNS_COUNT 1 0 l, setR R.CHR_LINK_DOWN_AT_STAMP (s.count 4) 0 l,
      logChr 3 l cause,
      updLink l (fun k => { k with fails := 0, unackUp := 0, unackDn := 0, since := s.t, bySw := decide (cause = 4) }),
      whenA (decide (setBits (s.reg R.CHR_STATUS_DETOUR) l 1 0 ≠ 0) || (List.range 4).any (s.inReset 2)) (setR R.CHR_STATUS_QUIESCE 1),
      setBitR R.CHR_STATUS_DETOUR true l ]

/-- A link begins to train. -/
def linkTrain (l : Nat) : Act := .get fun s => .seq (linkState l 0) (updLink l fun k => { k with since := s.t, bySw := false })

/-- A link is in service again. -/
def linkUp (l : Nat) : Act :=
  .get fun s => many [
    linkState l 1, setBitR R.CHR_STATUS_DETOUR false l,
    updLink l (fun k => { k with fails := 0, okUp := s.t, okDn := s.t, since := s.t, tries := 0 }) ]

/-- The other dies route around a die that enters reset (R482). -/
def routeAround : Act := .get fun s => whenA s.ready (setR R.CHR_STATUS_QUIESCE 1)

end Sys2Proof.Machine
end

