-- ==== Sys2Proof/Machine/Inp.lean ====
section
/-! DEFINITION. The input pipeline: samples into tensors, tensors into batches, and the semaphores a batch is handed over by
(R435–R441). -/

namespace Sys2Proof.Machine

/-! ### Augmentation (R438) -/

/-- What is applied to a sample: flip, offsets, gain, and whether its parameters were missed. -/
structure AugS where
  flip : Bool
  dx : Int
  dy : Int
  gain : Val
  miss : Bool
  deriving DecidableEq, Repr

def AugS.id : AugS := ⟨false, 0, 0, .fin false 1, false⟩

/-- A signed byte limited to ±j. -/
def jitter (v j : Nat) : Int := max (-(j : Int)) (min j (toSigned 8 v))

/-- The parameters of sample i of a pipe. -/
def State.augOf (s : State) (k i : Nat) : AugS :=
  match s.reg R.INP_PIPE_CFG_AUG_MODE 0 k with
  | 1 =>
    let z := fun (j : Nat) => srGen (s.reg R.INP_PIPE_AUG_SEED_SEED 0 k) (4 * i + j)
    let j := s.reg R.INP_PIPE_JITTER_PIXELS 0 k
    ⟨bitOf (z 0) 63, jitter (bits (z 1) 56 8) j, jitter (bits (z 2) 56 8) j,
     .fin false (1 + (((bits (z 3) 48 16 : Nat) : Int) - 32768 : Int) / 262144), false⟩
  | 2 =>
    match s.daRead hubXlt (s.pipeCtx k) (s.reg R.INP_PIPE_AUG_ADDR_ADDR 0 k + 16 * (i % 256)) 16 with
    | .ok r => if bits r 0 32 = i % 2 ^ 32 then ⟨decide (bits r 32 8 ≠ 0), toSigned 16 (bits r 48 16), toSigned 16 (bits r 64 16), fmtValue 7 (bits r 96 32), false⟩
        else { AugS.id with miss := true }
    | .bad _ => { AugS.id with miss := true }
  | _ => AugS.id

/-! ### Tensors (R201, R435) -/

/-- GAIN and BIAS of a channel. -/
def State.normOf (s : State) (k c which : Nat) : Val :=
  fmtValue 7 (if c < 4 then s.reg R.INP_PIPE_NORM_VALUE 0 (8 * k + 4 * which + c) else Config.norm k c which % 2 ^ 32)

/-- Channels of a sample. -/
def State.sampChans (s : State) (k : Nat) : Nat :=
  if s.bit R.INP_PIPE_CFG_AUDIO 0 k then s.reg R.INP_PIPE_CFG_NCH_M1 0 k + 1 else if s.bit R.INP_PIPE_CFG_LUMA 0 k then 1 else 3

/-- Channel c of a frame's pixel, exact: luma of R414, the channel itself, or an RGB channel of a YUV422 pixel. -/
def pixVal (luma yuv : Bool) (p : List Nat) (c : Nat) : Rat :=
  let v := fun (i : Nat) => ((p.getD i 0 : Nat) : Rat)
  if yuv then (if luma then v 0 else ((Config.yuvRgb (p.getD 0 0) (p.getD 1 0) (p.getD 2 0) c % 4096 : Nat) : Rat))
  else if luma then (v 0 + 2 * v 1 + v 2) / 4 else v c

/-- Channel c of position (y, x) of a sample's window; outside the frame the value is open. -/
def sampPix (m : SampS) (luma : Bool) (a : AugS) (c y x : Nat) : Rat :=
  let yy : Int := m.y + a.dy + y
  let xx : Int := m.x + a.dx + x
  let inside := decide (0 ≤ yy) && decide (yy < (m.pix.length : Int)) && decide (0 ≤ xx) && decide (xx < ((m.pix.getD 0 []).length : Int)) && decide (0 < m.w) && decide (0 < m.h)
  if inside then pixVal luma m.yuv ((m.pix.getD yy.toNat []).getD xx.toNat []) c
  else ((Config.outsidePixel xx yy c % 4096 : Nat) : Rat)

/-- The FP32 value of output (c, y, x) of a camera sample before normalisation: the bilinear rule of R213 and R215 with RMODE 1. -/
def camVal (m : SampS) (luma : Bool) (a : AugS) (ow oh c y x : Nat) : Val :=
  let ly := rszLine 1 (m.h * 65536 / oh) y m.h
  let lx := rszLine 1 (m.w * 65536 / ow) x m.w
  let p := sampPix m luma a c
  let mix := fun (u v : Rat) (f : Nat) => Val.fin false ((u * (65536 - f) + v * f) / 65536)
  let t := (fmtValue 7 (rne32 (mix (p ly.1 lx.1) (p ly.1 lx.2.1) lx.2.2)).1).rat
  let b := (fmtValue 7 (rne32 (mix (p ly.2.1 lx.1) (p ly.2.1 lx.2.1) lx.2.2)).1).rat
  fmtValue 7 (rne32 (mix t b ly.2.2)).1

/-- The value of output (c, y, x) of a sample before normalisation. -/
def State.sampVal (s : State) (k : Nat) (m : SampS) (a : AugS) (c y x : Nat) : Val :=
  let ow := s.reg R.INP_PIPE_OUT_OUT_W 0 k
  let x := if a.flip then ow - 1 - x else x
  if s.bit R.INP_PIPE_CFG_AUDIO 0 k then .fin false (toSigned 24 (pixAt m.pix 0 x c) / 8388608)
  else camVal m (s.bit R.INP_PIPE_CFG_LUMA 0 k) a ow (s.reg R.INP_PIPE_OUT_OUT_H 0 k) c y x

/-- Channels of a block. -/
def chanBlock (fmt : Nat) : Nat := if fmtBits fmt ≤ 8 then 32 else 16

/-- A block-major tensor from the code of each (channel, row, column); channels past the last are zero. -/
def tensorOf (fmt c h w : Nat) (f : Nat → Nat → Nat → Nat) : List Nat :=
  ((List.range (cdiv c (chanBlock fmt))).map (fun cb => ((List.range h).map (fun y => ((List.range w).map (fun x =>
    (List.range (chanBlock fmt)).map (fun e => if cb * chanBlock fmt + e < c then f (cb * chanBlock fmt + e) y x else 0))).flatten)).flatten)).flatten

/-- The tensor of a sample (R435, steps 2 to 4). -/
def State.tensor (s : State) (k : Nat) (m : SampS) (a : AugS) : List Nat :=
  let fmt := s.reg R.INP_PIPE_OUT_FMT 0 k
  tensorOf fmt (s.sampChans k) (s.reg R.INP_PIPE_OUT_OUT_H 0 k) (s.reg R.INP_PIPE_OUT_OUT_W 0 k) (fun c y x =>
    let v := vsum [vmul (vmul (s.sampVal k m a c y x) (s.normOf k c 0)) a.gain, s.normOf k c 1]
    (convert fmt .rne (fmtValue 7 (rne32 v).1)).1)

/-- The tensor of FILL. -/
def State.fillTensor (s : State) (k : Nat) : List Nat :=
  let fmt := s.reg R.INP_PIPE_OUT_FMT 0 k
  let v := (convert fmt .rne (fmtValue 6 (s.reg R.INP_PIPE_MASK_FILL 0 k))).1
  tensorOf fmt (s.sampChans k) (s.reg R.INP_PIPE_OUT_OUT_H 0 k) (s.reg R.INP_PIPE_OUT_OUT_W 0 k) (fun _ _ _ => v)

/-- A list of w-bit codes as one number. -/
def packN (w : Nat) (l : List Nat) : Nat := l.foldr (fun v a => v % 2 ^ w + a * 2 ^ w) 0

/-! ### Destinations (R439) -/

/-- A run of device addresses cut at page ends: address, length, offset in the run. -/
def runPages (da n : Nat) : List (Nat × Nat × Nat) :=
  (List.range (n / 65536 + 2)).filterMap (fun i =>
    let a := max da ((da / 65536 + i) * 65536)
    let b := min (da + n) ((da / 65536 + i + 1) * 65536)
    if a < b then some (a, b - a, a - da) else none)

/-- The core whose scratchpad a device address lies in. -/
def spadCore (da : Nat) : Option Nat := if 2 ^ 47 ≤ da ∧ da < 2 ^ 47 + 2 ^ 28 then some ((da - 2 ^ 47) / 2 ^ 22) else none

/-- The class of the first fault a write of a run meets. -/
def State.inpFault (s : State) (ctx da n : Nat) : Option Nat :=
  match spadCore da with
  | some g => match s.translate hubXlt ctx da true (some g) with
    | .spad _ off => if 2 ^ 22 < off + n then some 1 else none
    | .fault c _ => some c
    | _ => some 1
  | none => (runPages da n).findSome? (fun r => s.daWriteFault hubXlt ctx r.1 r.2.1)

/-- The claimant code of the input pipeline's slots (R56, mode PUT). -/
def claimInp : Nat := 9

/-- The slots of a core that bytes [off, off + n) of its scratchpad touch. -/
def slotsOf (off n : Nat) : List Nat := if n = 0 then [] else (List.range ((off + n - 1) / 4096 - off / 4096 + 1)).map (fun i => off / 4096 + i)

/-- Every slot is Empty and not in use, or already claimed by the pipeline. -/
def State.slotsOpen (s : State) (g : Nat) (l : List Nat) : Bool :=
  l.all (fun t => (decide (mget 0 (s.core g).tags t = 0) && !(s.core g).anyUse t) || decide (mget 0 (s.core g).claim t = claimInp))

/-- Bytes of a scratchpad are written. -/
def spadBytes (g off n v : Nat) : Act :=
  forA (if n = 0 then [] else (List.range ((off + n - 1) / 512 - off / 512 + 1)).map (fun i => off / 512 + i)) (fun r => .get fun s =>
    let a := max off (512 * r)
    let b := min (off + n) (512 * r + 512)
    putRow g r (rowPut (s.spadRow g r) (8 * (a - 512 * r)) (8 * (b - a)) (bits v (8 * (a - off)) (8 * (b - a)))))

/-- Slots take a tag, with the pipeline's claim while they are Filling. -/
def tagSlots (g tag : Nat) (l : List Nat) : Act :=
  updCore g fun m => { m with
    tags := l.foldl (fun t k => mset 0 t k tag) m.tags
    claim := l.foldl (fun t k => mset 0 t k (if tag = 1 then claimInp else 0)) m.claim }

/-- A run of a batch is written. `base` and `size` bound the buffer: in a scratchpad a slot becomes Full with the last row of the
buffer in it, but the header's slot, which waits for the header. -/
def inpPut (ctx da n v base size : Nat) : Act :=
  match spadCore da with
  | some g =>
    let off := da % 2 ^ 22
    let b0 := base % 2 ^ 22
    let full := (slotsOf off n).filter (fun t => decide (min (4096 * t + 4096) (b0 + size) ≤ off + n) && decide (t ≠ b0 / 4096))
    many [spadBytes g off n v, tagSlots g 1 (slotsOf off n), tagSlots g 2 full]
  | none => forA (runPages da n) (fun r => daWrite hubXlt ctx r.1 r.2.1 (bits v (8 * r.2.2) (8 * r.2.1)) 0 true false)

/-! ### Low water (R440) -/

/-- The pipe reads READY's count. -/
def lowCheck (k : Nat) : Act :=
  .get fun s =>
    let low := s.reg R.INP_PIPE_BATCH_LOW 0 k
    let c := s.smf R.QUE_SEM_W0_COUNT (s.reg R.INP_PIPE_SEM_READY 0 k)
    .seq (updPipe k fun p => { p with above := decide (low ≤ c), polled := s.t })
      (whenA (decide (c < low) && (s.pipe k).above) (.seq (logInp 13 k (s.pipe k).batch) (pipeRaise R.INP_PIPE_STATUS_LOW_WATER k)))

/-- READY_POLL. -/
def execReadyPoll (n : BitVec 4) := does (.get fun s => whenA (s.pipeOn n.toNat) (lowCheck n.toNat))

/-! ### Batches -/

/-- The partition of a pipe (R434). -/
def State.pipePart (s : State) (k : Nat) : Option Nat := s.ctxPart hubXlt (s.pipeCtx k)

/-- PIPE_FREE_ACQUIRE: FREE is decremented as SPOLL does, and a batch begins. -/
def execPipeFreeAcquire (n : BitVec 4) :=
  does (.get fun s =>
    let k := n.toNat
    let h := s.reg R.INP_PIPE_SEM_FREE 0 k
    let ok := decide (s.smf R.QUE_SEM_W0_VALID h = 1) && decide (s.smf R.QUE_SEM_W0_KIND h = 1) && decide (s.pipePart k = some (s.smf R.QUE_SEM_W0_PART h)) &&
      decide (0 < s.smf R.QUE_SEM_W0_COUNT h)
    whenA (s.pipeOn k && !(s.pipe k).has && ok && s.dieUp (h / 4096)) (many [
      setS R.QUE_SEM_W0_COUNT h (s.smf R.QUE_SEM_W0_COUNT h - 1),
      updPipe k (fun p => { p with has := true, inB := 0, hdr := 0 }),
      whenA (s.bit R.INP_PIPE_CFG_AUDIO 0 k) (audioGather k) ]))

/-- A write of the pipe has faulted: it stops (R441). -/
def pipeFault (k cls : Nat) : Act :=
  .get fun s => many [
    updPipe k (fun p => { p with stopped := true, has := false }), setR R.INP_PIPE_STATUS_CLASS cls 0 k, setR R.INP_PIPE_STATUS_ACTIVE 0 0 k,
    logInp 15 k (s.pipe k).batch, pipeRaise R.INP_PIPE_STATUS_ERR k ]

/-- The buffer of the batch in hand: its address and its size. -/
def State.pipeBuf (s : State) (k : Nat) : Nat := s.reg R.INP_PIPE_DEST_ADDR 0 k + (s.pipe k).batch % s.reg R.INP_PIPE_BATCH_DEPTH 0 k * s.reg R.INP_PIPE_STRIDE_BYTES 0 k
def State.sampBytes (s : State) (k : Nat) : Nat :=
  let fmt := s.reg R.INP_PIPE_OUT_FMT 0 k
  cdiv (s.sampChans k) (chanBlock fmt) * s.reg R.INP_PIPE_OUT_OUT_H 0 k * s.reg R.INP_PIPE_OUT_OUT_W 0 k * 32

/-- The batch is complete: its header row, READY, and the next batch. -/
def batchDone (k : Nat) : Act :=
  .get fun s =>
    let p := s.pipe k
    let base := s.pipeBuf k
    let size := 512 + s.reg R.INP_PIPE_BATCH_BATCH 0 k * s.sampBytes k
    let hdr := p.batch % 2 ^ 32 + s.reg R.INP_PIPE_BATCH_BATCH 0 k * 2 ^ 32 + k * 2 ^ 40 + bits p.hdr 512 64 * 2 ^ 64 + p.hdr
    match s.inpFault (s.pipeCtx k) base 512 with
    | some c => pipeFault k c
    | none => many [
        inpPut (s.pipeCtx k) base 512 hdr base size,
        (match spadCore base with
         | some g => tagSlots g 2 [base % 2 ^ 22 / 4096]
         | none => .nop),
        updPipe k (fun p => { p with batch := (p.batch + 1) % 2 ^ 32, inB := 0, has := false, hdr := 0 }),
        bump R.INP_PIPE_BATCHES_COUNT 1 0 k,
        withA (s.pipePart k) (fun q => signal (s.reg R.INP_PIPE_SEM_READY 0 k) 1 q 5 0xFFFF 0),
        lowCheck k ]

/-- A tensor takes its place in the batch, with its entry in the header (R439). `i` is its sample index. -/
def putSample (k : Nat) (m : SampS) (t : List Nat) (flags : Nat) : Act :=
  .get fun s =>
    let p := s.pipe k
    let base := s.pipeBuf k
    let n := s.sampBytes k
    let da := base + 512 + p.inB * n
    let ctx := s.pipeCtx k
    match s.inpFault ctx da n with
    | some c => .seq (whenA (decide (spadCore da = none)) (forA (runPages da n) (fun r => whenA (s.daWriteFault hubXlt ctx r.1 r.2.1).isSome (daWrite hubXlt ctx r.1 r.2.1 0 0 true false)))) (pipeFault k c)
    | none => many [
        inpPut ctx da n (packN (fmtBits (s.reg R.INP_PIPE_OUT_FMT 0 k)) t) base (512 + s.reg R.INP_PIPE_BATCH_BATCH 0 k * n),
        updPipe k (fun p => { p with
          buf := p.buf.drop 1, idx := p.idx + 1, inB := p.inB + 1,
          hdr := p.hdr + (m.stamp % 2 ^ 64 + m.num % 2 ^ 32 * 2 ^ 64 + m.region % 256 * 2 ^ 96 + flags * 2 ^ 104) * 2 ^ (512 + 128 * p.inB) }),
        .get fun s => whenA (decide (s.reg R.INP_PIPE_BATCH_BATCH 0 k ≤ (s.pipe k).inB)) (batchDone k),
        whenA (s.bit R.INP_PIPE_CFG_AUDIO 0 k) (audioGather k) ]

/-- The sample is corrupt under the pipe's MASK (R436). -/
def State.sampBad (s : State) (k : Nat) (m : SampS) : Bool :=
  decide (m.marks &&& (if s.bit R.INP_PIPE_CFG_AUDIO 0 k then s.reg R.INP_PIPE_MASK_AUDIO_BITS 0 k else s.reg R.INP_PIPE_MASK_FRAME_BITS 0 k) ≠ 0)

/-- PIPE_SAMPLE: the oldest waiting sample becomes a tensor of the batch in hand, is skipped, or is replaced. A scratchpad
destination waits until its slots are Empty. -/
def execPipeSample (n : BitVec 4) :=
  does (.get fun s =>
    let k := n.toNat
    let p := s.pipe k
    let base := s.pipeBuf k
    let da := base + 512 + p.inB * s.sampBytes k
    let open_ := match spadCore da with
      | some g => s.slotsOpen g (slotsOf (da % 2 ^ 22) (s.sampBytes k) ++ slotsOf (base % 2 ^ 22) 512)
      | none => true
    if !s.pipeOn k then .nop
    else withA p.buf.head? fun m =>
      let bad := s.sampBad k m
      if bad && decide (s.reg R.INP_PIPE_CFG_POLICY 0 k = 0) then many [
        updPipe k (fun p => { p with buf := p.buf.drop 1 }), bump R.INP_PIPE_SKIPPED_COUNT 1 0 k,
        whenA (s.bit R.INP_PIPE_CFG_AUDIO 0 k) (audioGather k) ]
      else if !p.has || !open_ then .nop
      else if bad then
        let last := if s.reg R.INP_PIPE_CFG_POLICY 0 k = 1 then p.good else none
        many [
          bump (if s.reg R.INP_PIPE_CFG_POLICY 0 k = 1 then R.INP_PIPE_REPLACED_COUNT else R.INP_PIPE_FILLED_COUNT) 1 0 k, logInp 12 k p.idx,
          putSample k m (last.getD (s.fillTensor k)) (m.flags + 1 + (if last.isSome then 0 else 2)) ]
      else
        let a := s.augOf k p.idx
        let t := s.tensor k m a
        many [
          whenA (decide (s.reg R.INP_PIPE_CFG_AUG_MODE 0 k = 2)) (readAct hubXlt (s.pipeCtx k) (s.reg R.INP_PIPE_AUG_ADDR_ADDR 0 k + 16 * (p.idx % 256)) 16 0 true false),
          whenA a.miss (bump R.INP_PIPE_AUG_MISS_COUNT 1 0 k),
          updPipe k (fun p => { p with good := some t }),
          putSample k m t (m.flags + b2n a.miss * 8) ])

/-- The word of a pipe's CFG with EN 0. -/
def State.pipeCfg (s : State) (k : Nat) : Nat :=
  s.reg R.INP_PIPE_CFG_AUDIO 0 k * 2 + s.reg R.INP_PIPE_CFG_SRC 0 k * 2 ^ 2 + s.reg R.INP_PIPE_CFG_NCH_M1 0 k * 2 ^ 8 + s.reg R.INP_PIPE_CFG_CTX 0 k * 2 ^ 12 +
  s.reg R.INP_PIPE_CFG_POLICY 0 k * 2 ^ 24 + s.reg R.INP_PIPE_CFG_AUG_MODE 0 k * 2 ^ 26 + s.reg R.INP_PIPE_CFG_ROI 0 k * 2 ^ 28 + s.reg R.INP_PIPE_CFG_LUMA 0 k * 2 ^ 29

/-- PIPE_DISABLE: a write of CFG with EN = 0. -/
def execPipeDisable (port : Port) (n : BitVec 4) :=
  does (.get fun s => portCmd port (inpOff (0x1000 + 0x100 * n.toNat)) (s.pipeCfg n.toNat) (whenA (s.bit R.INP_PIPE_CFG_EN 0 n.toNat) (pipeStop n.toNat)))

end Sys2Proof.Machine
end

