-- ==== Sys2Proof/Machine/Dma.lean ====
section
/-! DEFINITION. The execution of transfers: start, issue of segments, accesses at the home controllers, ends and resumption
(R203–R207, R224, R237, R272–R280). -/

namespace Sys2Proof.Machine

/-! ### Starting (R205, R272) -/

/-- Another transfer of the same queue, earlier in its ring, has not started. -/
def State.earlierWaits (s : State) (v : Xfer) : Bool :=
  match v.org with
  | .desc q _ => s.die.xfers.any (fun e => match e.2 with
    | some w => (match w.org with | .desc r _ => decide (r = q) | _ => false) && decide (w.place = 0) && decide (w.order < v.order)
    | none => false)
  | _ => false

/-- The lowest copy engine of a die that runs nothing. -/
def State.freeEngine (s : State) (d : Nat) : Option Nat :=
  findUp (fun e => !s.die.xfers.any (fun y => match y.2 with
    | some w => decide (w.die = d) && decide (w.place = 1 + e)
    | none => false)) 0 8

/-- A failed check of R205: logged with the offset of the first failing field; the transfer ends with AG_PROGRAM. -/
def failProgram (x off : Nat) (v : Xfer) : Act :=
  .seq (logEv (v.portCore.getD 0 / 16) (srcQue (v.portCore.getD 0 / 16)) 4 (stAgProgram % 256) (0xFFFF + off * 2 ^ 48))
    (.seq (dropXfer x) (match v.org with
      | .insn _ k _ _ => .get fun s => whenA (s.clause k).isSome (faultClause k stAgProgram 0 0)
      | _ => .nop))

/-- A transfer that is in its port or engine begins; an address generator's program row is read once and checked. -/
def beginXfer (x place : Nat) : Act :=
  .get fun s => withA (s.xfer x) fun v =>
    match v.ag with
    | none => setXfer x (some { v with place := place })
    | some r =>
      let p := (s.spadRow (v.portCore.getD 0) r).toNat
      match agFail p v.len v.src.isPad with
      | some off => failProgram x off v
      | none => setXfer x (some { v with place := place, ag := some p })

/-- The transfer is held in a Kickstand image (R279). -/
def State.imaged (s : State) (x : Nat) : Bool :=
  s.sch.images.any (fun e => match e.2 with | some im => im.xfers.contains x | none => false)

/-- A core of the transfer is being scrubbed (R498), or its context's clause is being saved there (R306). -/
def State.portHeld (s : State) (v : Xfer) : Bool :=
  (xferCores v).any (fun c => s.bit R.CORE_STATUS_SCRUB c ||
    (match mget none s.sch.kicks c with
     | some k => !k.restore && (match s.clause k.clause with | some cl => decide (cl.ctx = v.ctx) | none => false)
     | none => false))

/-- TRANSFER_START: a transfer without a scratchpad side takes a copy engine of its home die; one with a scratchpad side
an entry in the port of each core. -/
def execTransferStart (x : Nat) :=
  does (.get fun s => withA (s.xfer x) fun v =>
    if v.place ≠ 0 || v.fin.isSome || s.earlierWaits v || s.imaged x || s.portHeld v then .nop
    else match (xferCores v).eraseDups with
    | [] => withA (s.freeEngine v.die) fun e => beginXfer x (1 + e)
    | cs =>
      if cs.all (fun c => (s.core c).port.contains x) then beginXfer x 9
      else if cs.all (fun c => decide ((s.core c).port.length < 16)) then
        .seq (forA cs (fun c => updCore c fun k => { k with port := if k.port.contains x then k.port else k.port ++ [x] })) (beginXfer x 9)
      else .nop)

/-! ### Issue (R273, R274, R276, R350) -/

/-- Memory operations outstanding on a die, in all and of one partition (R274). -/
def State.ops (s : State) (d : Nat) (p : Option Nat) : Nat :=
  (s.die.xfers.map (fun e => match e.2 with
    | some v => if decide (v.die = d) && (match p with | some q => decide (v.part = q) | none => true) then (v.segs.filter (fun g => decide (g.st ≠ .ended))).length else 0
    | none => 0)).sum

/-- A gather from the core's own scratchpad holds owner 6 (R218). -/
def State.localGather (s : State) (c x : Nat) : Bool :=
  (s.core c).port.any (fun y => decide (y ≠ x) && match s.xfer y with
    | some v => (match v.prog with
        | some p => decide (v.place = 9) && !v.src.isPad && decide (v.susp = none) && isPad (agDev p)
        | none => false)
    | none => false)

/-- The transfer is the one its ports are at, or runs on a copy engine. -/
def State.onTurn (s : State) (x : Nat) (v : Xfer) : Bool :=
  decide (v.place ≠ 0) && !s.portHeld v &&
  (match v.dst with | .spad c _ => decide (s.portCur c true = some x) | _ => true) &&
  (match v.src with | .spad c _ => decide (s.portCur c false = some x) && !s.localGather c x | _ => true)

/-- A scatter's rows are read one after another. -/
def Xfer.scatterBusy (v : Xfer) : Bool := v.ag.isSome && v.src.isPad && v.segs.any (fun g => decide (g.st = .needRead))

/-- The window offset a plain device side leads to. -/
def State.sidePeer (s : State) (v : Xfer) (sd : Side) (off : Nat) (write : Bool) : Option Nat :=
  match sd, v.ag with
  | .dev da, none => (match s.look v (da + off) write with | .peer o => some o | _ => none)
  | _, _ => none

/-- The segment as it issues: kinds 0 fill, 1 scratchpad, 2 memory, 4 peer. -/
def mkSeg (v : Xfer) (k : Nat) (sp dp : Option Nat) : Seg :=
  { k := k, src := sp.getD 0,
    srcKind := (match v.src with | .fill _ => 0 | .spad _ _ => 1 | .dev _ => if sp.isSome then 4 else 2),
    dst := dp.getD 0, dstKind := (match v.dst with | .spad _ _ => 1 | _ => if dp.isSome then 4 else 2),
    len := (v.segAt k).2, data := 0, st := (match v.src with | .fill _ => .haveData | .spad _ _ => .needRead | .dev _ => if sp.isSome then .peerWait else .needRead),
    bad := false }

/-- The translations segment k needs: reads first, then writes (R273). -/
def State.segFault (s : State) (v : Xfer) (k : Nat) (srcPeer dstPeer : Bool) : Option (Nat × Bool × TRes) :=
  match s.firstBad v false (if srcPeer then [] else (v.reads k).map Prod.fst) with
  | some (a, t) => some (a, false, t)
  | none => (s.firstBad v true (if dstPeer then [] else (v.writes k 0).map Prod.fst)).map (fun e => (e.1, true, e.2))

/-- The segment issues. -/
def issueSeg (x : Nat) (v : Xfer) (sp dp : Option Nat) : Act :=
  .get fun s =>
    let g := mkSeg v v.k sp dp
    let g' := match v.src with | .fill _ => { g with data := s.segData v v.k } | _ => g
    many [
      forA (v.reads v.k) (fun r => .get fun s => whenA sp.isNone (noteWalk v.die v.ctx r.1 (s.look v r.1 false))),
      setXfer x (some { v with k := v.k + 1, segs := v.segs ++ [g'] }), forA (xferCores v) progress,
      .get fun s => setR R.QUE_OPS_PEAK (max (s.reg R.QUE_OPS_PEAK v.die) (s.ops v.die none)) v.die,
      withA sp fun o => sendSeg x v.k true o g.len 0 ]

/-- The home dies of the memory that a list of device addresses leads to. -/
def State.homes (s : State) (v : Xfer) (write : Bool) (l : List Nat) : List Nat :=
  l.filterMap (fun a => match s.look v a write with | .dram pa _ _ => some (paDie pa) | _ => none)

/-- Accesses homed on a die in reset end (R482); those homed on a die that sleeps, and new ones homed on a die that enters a
sleep, are held and wake it (R450, R453); others go on. `new` is the die a new request comes from: while the routes change, none leaves it (R343). -/
def onHomes (new : Option Nat) (l : List Nat) (lost go : Act) : Act :=
  .get fun s =>
    let asleep := l.filter (fun d => decide (s.pwrState d ≠ 0) || (new.isSome && (s.entering d).isSome))
    if l.any (s.inReset 2) then lost
    else if s.bit R.CHR_STATUS_QUIESCE && new.isSome && l.any (fun d => decide (new ≠ some d)) then .nop
    else if asleep.isEmpty then go
    else forA asleep wakeDie

/-- SEGMENT_ISSUE: the next segment translates and issues, waits, or ends its transfer. -/
def execSegmentIssue (x : Nat) :=
  does (.get fun s => withA (s.xfer x) fun v =>
    if v.fin.isSome || v.susp.isSome || v.segCount ≤ v.k || !s.onTurn x v || v.scatterBusy ||
        4096 ≤ s.ops v.die none || s.reg R.QUE_PART_OPS_LIMIT v.die v.part ≤ s.ops v.die (some v.part) then .nop
    else
      let off := (v.segAt v.k).1
      let sp := s.sidePeer v v.src off false
      let dp := s.sidePeer v v.dst off true
      let stop := fun (st da : Nat) (cls : Nat) (b : Option Nat) (w : Bool) => many [
        whenA (decide (cls ≠ 0)) (recordFault v.die v.ctx da cls b v.agent.1 false v.agent.2 w), failXfer x st, settleXfer x]
      let gates := ([sp, dp].filterMap id).map (s.peerGate v.part)
      match gates.find? (fun g => decide (g ≠ .go)) with
      | some (.stop st) => stop st (match v.src, v.dst with | .dev a, _ => a + off | _, .dev a => a + off | _, _ => 0) (if st = 3 then 3 else 0) none dp.isSome
      | some _ => .nop
      | none =>
        match s.segFault v v.k sp.isSome dp.isSome with
        | some (da, w, .fault c b) => stop c da c b w
        | some (_, _, .mig pte _) => .seq (updXfer x fun v => { v with susp := some pte }) (migFault v.die v.ctx v.part pte)
        | some (da, w, _) => stop 1 da 1 none w
        | none => onHomes (some v.die) ((if sp.isSome then [] else s.homes v false ((v.reads v.k).map Prod.fst)) ++ (if dp.isSome then [] else s.homes v true ((v.writes v.k 0).map Prod.fst)))
            (stop stDieReset 0 0 none false) (issueSeg x v sp dp))

/-! ### Accesses (R224, R237, R239) -/

/-- The read side of a segment: errors that come up are taken first; a bad unit of a resident bulk page sends the
segment to a new migration, one of another page poisons it. -/
def segReadMem (x k : Nat) (v : Xfer) (err : Nat) : Act :=
  .seq (match v.reads k with
      | r :: _ => .get fun s => (match s.look v r.1 false with | .dram pa _ _ => injectErr pa err | _ => .nop)
      | [] => .nop)
    (.get fun s =>
      match s.firstBad v false ((v.reads k).map Prod.fst) with
      | some (da, .fault c b) => .seq (recordFault v.die v.ctx da c b v.agent.1 false v.agent.2 false) (failSeg x k c)
      | some (_, .mig pte _) => migFault v.die v.ctx v.part pte
      | some _ => failSeg x k 1
      | none =>
        match (v.reads k).find? (fun r => decide (s.badKind v r.1 r.2 = 2)) with
        | some r => (match s.look v r.1 false with
            | .dram pa pte _ => .seq (bulkBad pa r.2 v.ctx pte) (migFault v.die v.ctx v.part pte)
            | _ => .nop)
        | none =>
          let bad := (v.reads k).any (fun r => decide (s.badKind v r.1 r.2 = 1))
          many [
            updSeg x k (fun g => { g with st := .haveData, data := s.segData v k, bad := bad }),
            forA (v.reads k) (fun r => readRun v r.1 r.2),
            whenA bad (failXfer x stPoison) ])

/-- The write side of a segment. -/
def segWriteMem (x k data : Nat) (v : Xfer) (err : Nat) : Act :=
  let ws := v.writes k data
  .seq (match ws with
      | w :: _ => .get fun s => (match s.look v w.1 true with | .dram pa _ _ => injectErr pa err | _ => .nop)
      | [] => .nop)
    (.get fun s =>
      match s.firstBad v true (ws.map Prod.fst) with
      | some (da, .fault c b) => .seq (recordFault v.die v.ctx da c b v.agent.1 false v.agent.2 true) (failSeg x k c)
      | some _ => failSeg x k 2
      | none =>
        let bad := ws.any (fun w => s.writePoison v w.1 w.2.1)
        many [
          forA ws (fun w => writeRun v w.1 w.2.1 w.2.2),
          whenA bad (.seq (updSeg x k fun g => { g with bad := true }) (failXfer x stPoison)),
          endSeg x k ])

/-- DRAM_ACCESS: the access segment k of a transfer makes next takes effect; `err` is the error its units show (0 none, 1
correctable, 2 uncorrectable, 3 a link failure). A segment whose data goes to a peer leaves as a WRITE. -/
def execDramAccess (x k : Nat) (err : BitVec 2) :=
  does (.get fun s => withA (s.xfer x) fun v => withA (s.seg x k) fun g =>
    let rows := fun (l : List Nat) (w : Bool) => forA l (fun a => .get fun s => match s.look v a w with
      | .dram pa _ _ => activate pa
      | _ => .nop)
    match g.st with
    | .needRead =>
      let l := (v.reads k).map Prod.fst
      whenA (decide (g.srcKind = 2) && !l.any (fun a => s.scrubbing v a false)) (onHomes none (s.homes v false l) (failSeg x k stDieReset) (.seq (rows l false) (segReadMem x k v err.toNat)))
    | .haveData =>
      if g.dstKind = 2 then
        let l := (v.writes k 0).map Prod.fst
        whenA (!l.any (fun a => s.scrubbing v a true)) (onHomes none (s.homes v true l) (failSeg x k stDieReset) (.seq (rows l true) (segWriteMem x k g.data v err.toNat)))
      else if g.dstKind = 4 then .seq (updSeg x k fun g => { g with st := .peerWait }) (sendSeg x k false g.dst g.len g.data)
      else .nop
    | _ => .nop)

/-- SEGMENT_DONE: the end of segment k counts; what has ended at the front leaves the transfer, and a transfer with nothing
left ends. -/
def execSegmentDone (x k : Nat) :=
  does (.get fun s => withA (s.seg x k) fun g => whenA (decide (g.st = .ended)) (.seq (advanceXfer x)
    (.get fun s => forA (List.range 64) (fun c => whenA (decide ((s.core c).wait ≠ .none)) (ctlRecheck c)))))

/-! ### Resumption (R276) -/

/-- The transfer on an owner is set aside with the block it has. -/
def setAside (c o x : Nat) : Act :=
  .get fun s =>
    match (mget OwnS.idle (s.core c).own o).blk with
    | none => .nop
    | some b => whenA (decide (b.ref.opnd ≠ x)) (many [
        updXfer b.ref.opnd (fun v => { v with aside := some b }),
        updCore c fun m => { m with own := mupd OwnS.idle m.own o fun w => { w with blk := none } } ])

/-- TRANSFER_RESUME: the migration has ended; the transfer takes its owner back. -/
def execTransferResume (x : Nat) :=
  does (.get fun s => withA (s.xfer x) fun v => withA v.susp fun pte =>
    if s.migWaits pte || bitOf (s.dramGet pte 8) 3 then .nop
    else if s.imaged x then updXfer x fun v => { v with susp := none }
    else many [
      updXfer x (fun v => { v with susp := none }), forA (xferCores v) progress,
      match v.dst with | .spad c _ => setAside c 5 x | _ => .nop,
      match v.src with | .spad c _ => setAside c 6 x | _ => .nop,
      forA (xferCores v) (fun c => updCore c fun k => { k with port := x :: k.port.erase x }) ])

end Sys2Proof.Machine
end

