-- ==== Sys2Proof/Machine/MemRows.lean ====
section
/-! DEFINITION. Migration's ends, sweeps and invalidations, and what the DRAM controllers do of their own (R229–R236,
R239–R244, R521). -/

namespace Sys2Proof.Machine

/-! ### Migration (R231, R233, R236, R521) -/

/-- The source of a migration is an NVMe drive. -/
def State.isNvme (s : State) (d : Nat) (m : Mig) : Bool := s.bit R.XLT_BULK_SRC_CFG_KIND d m.src

/-- A migration fails with MIG_ERROR. -/
def migLost (d i : Nat) : Act := .get fun s => withA (s.mig d i) fun m => .seq (migFail d i 7) (heldDone m.pte 7)

/-- MIGRATION_DONE: the source's data has come (a host source's page is the operand; a drive's has landed), or the source
failed. -/
def execMigrationDone (die : BitVec 2) (i : Nat) (page : Nat) (ok : Bool) :=
  does (.get fun s => withA (s.mig die.toNat i) fun m =>
    if !ok then migLost die.toNat i
    else if s.isNvme die.toNat m then whenA m.landed (.seq (migEnd die.toNat i m.data) (heldDone m.pte 7))
    else .seq (migEnd die.toNat i page) (heldDone m.pte 7))

/-- MIGRATION_TIMEOUT: XLT_MIG_TIMEOUT has passed. -/
def execMigrationTimeout (die : BitVec 2) (i : Nat) (dt : Nat) :=
  does (after dt (.get fun s => withA (s.mig die.toNat i) fun m =>
    whenA (decide (m.since + s.reg R.XLT_MIG_TIMEOUT_US die.toNat * usU ≤ s.t)) (migLost die.toNat i)))

/-- NVME_COMPLETION: the drive's completion entry for the Read of a migration. -/
def execNvmeCompletion (die : BitVec 2) (i : Nat) (ok : Bool) :=
  does (.get fun s => withA (s.mig die.toNat i) fun m =>
    if !s.isNvme die.toNat m then .nop
    else if ok then setMig die.toNat i (some { m with landed := true })
    else migLost die.toNat i)

/-- LANDING_WRITE: a PCIe write to the landing aperture. A landing slot takes it while its migration awaits data; the
queues of a source are the drive's to write; every other write is discarded and logged. -/
def execLandingWrite (off : Nat) (n : Nat) (v : Nat) :=
  does (.get fun s =>
    let drop := logPut (LogEnt.mk (s.count 4) 4 srcHub (256 + 2) (off % 2 ^ 32 + v % 2 ^ 32 * 2 ^ 32))
    let slot := (off - 0x1000000) / 0x10000
    let at_ := off % 0x10000
    if 0x1000000 ≤ off ∧ off < 0x1400000 then
      match s.mig (slot / 16) (slot % 16) with
      | some m =>
        if s.isNvme (slot / 16) m && !m.landed then
          setMig (slot / 16) (slot % 16) (some { m with data := setBits m.data (8 * at_) (8 * min n (0x10000 - at_)) v })
        else drop
      | none => drop
    else if off < 0x100000 ∧ 0x1000 ≤ at_ ∧ at_ < 0x1400 then .nop
    else drop)

/-- XLT_CTL.MIG_ENABLE takes a value on all four dies (R230); after a reset the engine sweeps first (R236). -/
def setMigEnable (on : Bool) : Act := forA (List.range 4) (fun d => setR R.XLT_CTL_MIG_ENABLE (b2n on) d)

/-- MIGRATION_SWEEP: a write that sets MIG_ENABLE. -/
def execMigrationSweep (port : Port) (die : BitVec 2) :=
  does (.get fun s => portCmd port (xltOff die.toNat 0) (s.reg R.XLT_CTL_ENABLE die.toNat + 2) (setMigEnable true))

/-- One frame-table entry of the sweep: a filling entry is free, and a BUSY that its lost migration left is cleared. -/
def sweepEntry (d p i : Nat) : Act :=
  .get fun s => whenA (decide (s.frameW d p i 0 % 4 = 1)) (many [
    setFrameState d p i 0,
    .get fun s =>
      let pte := s.frameW d p i 1
      let e := s.dramGet pte 8
      whenA (decide (bits e 0 2 = 2) && bitOf e 3) (casPte pte e (setBits e 3 1 0)) ])

/-- SWEEP_DONE: the sweep of a die ends; faults are served from then on. -/
def execSweepDone (die : BitVec 2) :=
  does (.get fun s =>
    let d := die.toNat
    if !s.bit R.XLT_CTL_MIG_ENABLE d || s.bit R.XLT_CTL_SWEEP_DONE d then .nop
    else many [
      forA (List.range 16) (fun p => .get fun s => forA (List.range (s.reg R.XLT_MIG_CFG_ENTRIES d p)) (sweepEntry d p)),
      setR R.XLT_CTL_SWEEP_DONE 1 d,
      many (List.replicate 16 (nextMig d)), heldDone 0 8 ])

/-! ### Invalidation (R229, R253) -/

/-- XLT_INV_CMD takes a value: a command is ignored and logged while one runs; PAGES 0 is reserved, and the field keeps its value. -/
def invWrite (port : Port) (d v : Nat) : Act :=
  .get fun s =>
    let scope := bits v 0 2
    let ctx := bits v 2 12
    let pages := if bits v 14 16 = 0 then s.reg R.XLT_INV_CMD_PAGES d else bits v 14 16
    if scope ≠ 0 ∧ s.bit R.XLT_INV_STATUS_BUSY d = true then ignored port (xltOff d 0x10) v
    else many [
      setR R.XLT_INV_CMD_CTX ctx d, setR R.XLT_INV_CMD_PAGES pages d,
      whenA (decide (bits v 14 16 = 0)) (reserved port (xltOff d 0x10) v),
      whenA (decide (scope ≠ 0)) (many [
        setR R.XLT_INV_STATUS_BUSY 1 d,
        .put (.die fun x => { x with invs := x.invs ++ [⟨d, scope, ctx, s.reg R.XLT_INV_ADDR_PAGE d, pages⟩] })]) ]

def invCmd (port : Port) (d scope ctx pages : Nat) : Act :=
  let v := scope + ctx * 4 + pages * 2 ^ 14
  portCmd port (xltOff d 0x10) v (invWrite port d v)

def execInvPages (port : Port) (die : BitVec 2) (ctx : BitVec 12) (pages : BitVec 16) :=
  does (invCmd port die.toNat 1 ctx.toNat pages.toNat)

def execInvContext (port : Port) (die : BitVec 2) (ctx : BitVec 12) :=
  does (.get fun s => invCmd port die.toNat 2 ctx.toNat (s.reg R.XLT_INV_CMD_PAGES die.toNat))

def execInvAll (port : Port) (die : BitVec 2) :=
  does (.get fun s => invCmd port die.toNat 3 (s.reg R.XLT_INV_CMD_CTX die.toNat) (s.reg R.XLT_INV_CMD_PAGES die.toNat))

/-- A context and page lie in an invalidation's scope. -/
def Inv.covers (v : Inv) (ctx page : Nat) : Bool :=
  decide (v.scope = 3) || (decide (v.ctx = ctx) && (decide (v.scope = 2) || (decide (v.page ≤ page) && decide (page < v.page + v.pages))))

/-- An outstanding segment uses a translation in the scope. -/
def State.invBusy (s : State) (v : Inv) : Bool :=
  s.die.xfers.any (fun e => match e.2 with
    | some x => x.segs.any (fun g => decide (g.st ≠ .ended) &&
        ((x.reads g.k).any (fun r => v.covers x.ctx (r.1 / 2 ^ 16)) || (x.writes g.k 0).any (fun r => v.covers x.ctx (r.1 / 2 ^ 16))))
    | none => false)

/-- A log entry of class 0x0A: the context, slot, core or scope, and a CODE. -/
def logSec (ev x code : Nat) : Act := logEv 4 srcSec 10 ev (x % 2 ^ 16 + code % 2 ^ 16 * 2 ^ 16)

/-- The last step of a kill has ended (R497). -/
def killDone (ctx : Nat) : Act :=
  many [
    .put (.sec fun x => { x with kill := none }), setR R.SEC_KILL_STATUS_BUSY 0, setR R.SEC_KILL_STATUS_DONE 1,
    bump R.SEC_KILL_COUNT_COUNT, logSec 4 ctx 0 ]

/-- INVALIDATION_DONE: the cached translations in the scope are gone on all four dies and no operation uses one. A kill's
invalidation stands for the Hub die, 4, and any die's report ends it once that die has none of its own. -/
def execInvalidationDone (die : BitVec 2) :=
  does (.get fun s => withA ((s.die.invs.find? (fun v => decide (v.die = die.toNat))).or (s.die.invs.find? (fun v => decide (v.die = 4)))) fun v =>
    if s.invBusy v then .nop
    else many [
      .put (.die fun x => { x with
        invs := x.invs.erase v,
        tlb := x.tlb.filter (fun e => !v.covers (e.1 / 2 ^ 32 % 4096) (e.1 % 2 ^ 32)) }),
      if v.die = 4 then killDone v.ctx
      else .seq (setR R.XLT_INV_STATUS_BUSY 0 v.die) (setR R.XLT_INV_STATUS_DONE 1 v.die) ])

/-! ### The DRAM controller's own work (R239–R245) -/

/-- PATROL_READ: the patrol reads a unit of an enabled group with ECC; an uncorrectable error has no requester. -/
def execPatrolRead (die : BitVec 2) (pa : Nat) (err : BitVec 2) :=
  does (.get fun s =>
    let u := pa / 64 * 64
    match s.grp u with
    | none => .nop
    | some n =>
      if s.bit R.DMC_PATROL_ENABLE die.toNat && decide (paDie u = die.toNat) && s.bit R.DMC_GROUP_ECC die.toNat n then
        many [activate u, injectErr u err.toNat, readErrs u 64 false 0]
      else .nop)

/-- MR4_POLL: a reading of MR4 (R244). -/
def execMr4Poll (die : BitVec 2) (ch : BitVec 4) (mr4 : BitVec 5) (hot overT : Bool) (dt : Nat) :=
  does (after dt (.get fun s =>
    let d := die.toNat
    let c := ch.toNat
    let low := mget 0 s.die.mr4Low (16 * d + c)
    many [
      setR R.DMC_CH_STATUS_MR4 mr4.toNat d c,
      (if hot then .seq (setR R.DMC_CH_STATUS_REFRESH_2X 1 d c) (.put (.die fun x => { x with mr4Low := mset 0 x.mr4Low (16 * d + c) 0 }))
       else .seq (.put (.die fun x => { x with mr4Low := mset 0 x.mr4Low (16 * d + c) (min 2 (low + 1)) }))
         (whenA (decide (1 ≤ low)) (setR R.DMC_CH_STATUS_REFRESH_2X 0 d c))),
      whenA overT (.seq (setR R.DMC_CH_STATUS_OVER_TEMP 1 d c) (logEv d (srcDmc d) 3 0x13 (d * 2 ^ 37))) ]))

/-- DRAM_REFRESH: a channel refreshes; neighbour refreshes that wait are issued. -/
def execDramRefresh (die : BitVec 2) (ch : BitVec 4) (dt : Nat) :=
  let c := 16 * die.toNat + ch.toNat
  does (after dt (.put (.die fun x => { x with refreshes := mset 0 x.refreshes c (mget 0 x.refreshes c + 1), nbrQ := mset [] x.nbrQ c [] })))

/-- The dirty code units of a channel are written back (R239). -/
def codeWriteback (d c : Nat) : Act := .put (.die fun x => { x with codeDirty := mset false x.codeDirty (16 * d + c) false })

def execCodeCacheWriteback (die : BitVec 2) (ch : BitVec 4) := does (codeWriteback die.toNat ch.toNat)

/-- What R222, R242 and R495 ask of a group that is to be enabled. -/
def State.groupOk (s : State) (d n : Nat) : Bool :=
  let m := s.reg R.DMC_GROUP_CHMASK d n
  let k := (maskBits m).length
  let r := s.grpRange d n
  (k = 1 || k = 2 || k = 4 || k = 8 || k = 16) && decide (s.reg R.DMC_GROUP_GRAIN d n ≤ 8) &&
  (!s.bit R.DMC_GROUP_ENC d n || (s.bit R.DMC_GROUP_PART_VALID d n &&
    s.bit R.SEC_KEY_SLOT_STATE 0 (s.reg R.DMC_PART_KEY_SLOT d (s.reg R.DMC_GROUP_PART d n)) &&
    decide (s.reg R.SEC_KEY_SLOT_OWNER 0 (s.reg R.DMC_PART_KEY_SLOT d (s.reg R.DMC_GROUP_PART d n)) = s.reg R.DMC_GROUP_PART d n))) &&
  (List.range 16).all (fun q => decide (q = n) || !s.bit R.DMC_GROUP_ENABLE d q ||
    ((maskBits m).all (fun c => !bitOf (s.reg R.DMC_GROUP_CHMASK d q) c) &&
     (decide ((s.grpRange d q).2 ≤ r.1) || decide (r.2 ≤ (s.grpRange d q).1))))

/-- ENABLE of a group goes to 1, with the clearing of R243 where SCRUB_ON_EN is 1. -/
def enableGroup (d n : Nat) : Act :=
  .get fun s => many [
    setR R.DMC_GROUP_ENABLE 1 d n,
    whenA (s.bit R.DMC_GROUP_SCRUB_ON_EN d n) (setR R.DMC_GROUP_SCRUB 1 d n) ]

/-- The offset of DMC_GROUP_n of a die. -/
def groupOff (d n : Nat) : Nat := dmcOff d (0x80 + 8 * n)

/-- The low word of DMC_GROUP_n with ENABLE set and every other field as it is. -/
def State.groupWord (s : State) (d n : Nat) : Nat :=
  s.reg R.DMC_GROUP_CHMASK d n + s.reg R.DMC_GROUP_GRAIN d n * 2 ^ 16 + s.reg R.DMC_GROUP_ECC d n * 2 ^ 20 + s.reg R.DMC_GROUP_ENC d n * 2 ^ 21 +
  s.reg R.DMC_GROUP_PART_VALID d n * 2 ^ 22 + s.reg R.DMC_GROUP_PART d n * 2 ^ 23 + 2 ^ 27 + s.reg R.DMC_GROUP_SCRUB_ON_EN d n * 2 ^ 29

/-- GROUP_SCRUB: a write that sets ENABLE of a group (R243, R249). -/
def execGroupScrub (port : Port) (die : BitVec 2) (g : BitVec 4) :=
  does (.get fun s => portCmd port (groupOff die.toNat g.toNat) (s.groupWord die.toNat g.toNat) (.get fun s =>
    if s.bit R.DMC_GROUP_ENABLE die.toNat g.toNat then .nop
    else if s.groupOk die.toNat g.toNat then enableGroup die.toNat g.toNat
    else reserved port (groupOff die.toNat g.toNat) (s.groupWord die.toNat g.toNat)))

/-- Every unit of a group's range is zero under the group's key, and free of errors. -/
def zeroGroup (d n : Nat) : Act :=
  .get fun s =>
    let r := s.grpRange d n
    let inside := fun (a : Nat) => decide (paDie a = d) && decide (a < 2 ^ 39) && decide (r.1 ≤ paOff a) && decide (paOff a < r.2)
    many [
      .put (.dramKeep fun a => !inside a),
      .put (.die fun x => { x with
        errs := x.errs.filter (fun e => !inside (64 * e.1)),
        sealed := x.sealed.filter (fun e => !inside (64 * e.1)) }) ]

def execGroupScrubDone (die : BitVec 2) (g : BitVec 4) :=
  does (.get fun s =>
    if s.bit R.DMC_GROUP_SCRUB die.toNat g.toNat then .seq (zeroGroup die.toNat g.toNat) (setR R.DMC_GROUP_SCRUB 0 die.toNat g.toNat)
    else .nop)

end Sys2Proof.Machine
end

