-- ==== Sys2Proof/Machine/Stream.lean ====
section
/-! DEFINITION. Streams: their swaps, and the export and import of Portable State Records (R186, R187, R192–R195, R199). -/

namespace Sys2Proof.Machine

/-! ### CRC-32C (R192) -/

/-- A bit of the reflected Castagnoli polynomial's division. -/
def crcBit (c : Nat) : Nat := if c % 2 = 1 then (c / 2) ^^^ 0x82F63B78 else c / 2

/-- One byte enters a CRC. -/
def crcByte (c b : Nat) : Nat := crcBit (crcBit (crcBit (crcBit (crcBit (crcBit (crcBit (crcBit (c ^^^ b))))))))

/-- The CRC-32C of bytes. -/
def crc32c (l : List Nat) : Nat := l.foldl crcByte 0xFFFFFFFF ^^^ 0xFFFFFFFF

/-! ### Records (R192) -/

/-- The first 0x3C bytes of a record of stream n. -/
def State.recordHead (s : State) (n : Nat) : Nat :=
  let t := s.timeOf 4 (s.reg R.SEQ_STREAM_TABLE_LAST_STEP 0 n)
  0x5253504E + 1 * 2 ^ 32 + s.reg R.SEQ_STREAM_TABLE_FMT 0 n * 2 ^ 64 + s.strLen n * 2 ^ 80 + 512 * s.strLen n * 2 ^ 96 +
    s.reg R.SEQ_STREAM_TABLE_CLAUSE_COUNT 0 n * 2 ^ 128 + t / 2 ^ 16 % 10 ^ 9 * 2 ^ 160 + t / (10 ^ 9 * 2 ^ 16) % 2 ^ 64 * 2 ^ 192 +
    s.reg R.FAB_ID_PACKAGE * 2 ^ 256 + n % 2 ^ 16 * 2 ^ 272

/-- A record: its head, its CRC over the head and the payload, and the payload. -/
def mkRecord (head len payload : Nat) : Nat :=
  head + crc32c (bytesOf 60 head ++ bytesOf len payload) * 2 ^ 480 + payload * 2 ^ 512

/-- What an import finds wrong with a record, in the order of R194: magic, version, CRC, format with length. A length
outside 1–64 rows names no payload. -/
def recordBad (r : Nat) : Option Nat :=
  let rows := if 1 ≤ bits r 80 16 ∧ bits r 80 16 ≤ 64 then bits r 80 16 else 0
  if bits r 0 32 ≠ 0x5253504E then some 1
  else if bits r 32 16 ≠ 1 then some 2
  else if crc32c (bytesOf 60 r ++ bytesOf (512 * rows) (r / 2 ^ 512)) ≠ bits r 480 32 then some 3
  else if 2 < bits r 64 8 ∨ rows = 0 ∨ bits r 96 32 ≠ 512 * rows then some 4
  else none

/-! ### Swaps (R186, R187) -/

/-- STREAM_SWAP: one listed stream comes closer to its clause's core. -/
def execStreamSwap (stream : BitVec 16) := does (bindStream stream.toNat)

/-! ### Commands (R193–R195, R199) -/

/-- The word a command writes to SEQ_STREAM_XCMD. -/
def xcmdWord (stream : Nat) (keep : Bool) (op : Nat) : Nat := stream + b2n keep * 2 ^ 16 + op * 2 ^ 28

/-- A command ends with a code. -/
def xportEnd (code : Nat) : Act :=
  many [
    setR R.SEQ_STREAM_XSTATUS_BUSY 0, setR R.SEQ_STREAM_XSTATUS_WAITING 0, setR R.SEQ_STREAM_XSTATUS_DONE 1,
    setR R.SEQ_STREAM_XSTATUS_CODE code, .put (.sch fun d => { d with xport := none }) ]

/-- The port may command transfers of the stream: the management path of a partition only of its own. -/
def State.xportOk (s : State) (p : Port) (n : Nat) : Bool :=
  match p with
  | .vf v => decide (s.vfPart v.toNat = some (s.strPart n))
  | _ => true

/-- An export begins: the stream counts as pinned. -/
def exportBegin (n : Nat) : Act :=
  many [
    setR R.SEQ_STREAM_XSTATUS_WAITING 0, setR R.SEQ_STREAM_TABLE_PINNED 1 0 n,
    .put (.sch fun d => { d with pins := mset 0 d.pins n (mget 0 d.pins n + 1) }) ]

/-- An export that can run begins; one of an invalid stream ends; one of a pinned stream waits. -/
def exportTry (n : Nat) : Act :=
  .get fun s =>
    if !s.strBit R.SEQ_STREAM_TABLE_VALID n then xportEnd 6
    else if s.strBit R.SEQ_STREAM_TABLE_PINNED n then setR R.SEQ_STREAM_XSTATUS_WAITING 1
    else exportBegin n

/-- A stream-transfer command: ignored and logged while another runs; refused with code 8 from another partition. -/
def xportGo (port : Port) (n : Nat) (keep : Bool) (op : Nat) (a : Act) : Act :=
  .get fun s =>
    if s.bit R.SEQ_STREAM_XSTATUS_BUSY then logEv 4 srcSeq 5 7 (s.strPart n + n * 2 ^ 16)
    else many [
      setR R.SEQ_STREAM_XCMD_STREAM n, setR R.SEQ_STREAM_XCMD_KEEP (b2n keep),
      if !s.xportOk port n then xportEnd 8
      else many [
        setR R.SEQ_STREAM_XSTATUS_BUSY 1, .put (.sch fun d => { d with xport := some ⟨n, decide (op = 2), keep⟩ }), a ] ]

def xportCmd (port : Port) (n : Nat) (keep : Bool) (op : Nat) (a : Act) : Act :=
  portCmd port (seqOff 0x420008) (xcmdWord n keep op) (xportGo port n keep op a)

def execStreamExport (port : Port) (stream : BitVec 16) (keep : Bool) := does (xportCmd port stream.toNat keep 1 (exportTry stream.toNat))

/-- STREAM_EXPORT_RESUME: the stream a waiting export names is no longer pinned. -/
def execStreamExportResume :=
  does (.get fun s => withA s.sch.xport fun x => whenA (s.bit R.SEQ_STREAM_XSTATUS_WAITING) (exportTry x.stream))

def execStreamImport (port : Port) (stream : BitVec 16) := does (xportCmd port stream.toNat false 2 .nop)

/-- The payload of an export: the frame of a resident stream, else its committed copy. -/
def State.exportData (s : State) (n : Nat) : MRes :=
  if s.strBit R.SEQ_STREAM_TABLE_RESIDENT n then .ok (s.frameBytes n)
  else s.daRead hubXlt (s.strCtx n) (s.strAddr n) (512 * s.strLen n)

/-- An export ends: the record is written, and without KEEP the stream is given up; a failed transfer leaves the stream. -/
def exportEnd (n : Nat) (keep failed : Bool) : Act :=
  .get fun s =>
    let len := 512 * s.strLen n
    let xa := s.reg R.SEQ_STREAM_XADDR_ADDR
    let unpin : Act := many [
      .put (.sch fun d => { d with pins := mset 0 d.pins n (mget 0 d.pins n - 1) }),
      .get fun s => whenA (decide (mget 0 s.sch.pins n = 0)) (setR R.SEQ_STREAM_TABLE_PINNED 0 0 n)]
    .seq unpin (.seq (whenA (!s.strBit R.SEQ_STREAM_TABLE_RESIDENT n) (readAct hubXlt (s.strCtx n) (s.strAddr n) len 0 true false))
      (match s.exportData n with
       | .bad _ => xportEnd 7
       | .ok v =>
         if failed then xportEnd 7
         else .seq (daPut hubXlt (s.strCtx n) xa (64 + len) (mkRecord (s.recordHead n) len v) 0 true false)
           (if (s.daPutFault hubXlt (s.strCtx n) xa (64 + len)).isSome then xportEnd 7
            else many [
              whenA (!keep) (.seq (setR R.SEQ_STREAM_TABLE_VALID 0 0 n) (setR R.SEQ_STREAM_TABLE_RESIDENT 0 0 n)),
              xportEnd 0 ])))

/-- An import ends: the record is checked in the order of R194 and copied, and the entry takes what it says. -/
def importEnd (n : Nat) (failed : Bool) : Act :=
  .get fun s =>
    let xa := s.reg R.SEQ_STREAM_XADDR_ADDR
    let ctx := s.strCtx n
    .seq (readAct hubXlt ctx xa 64 0 true false)
      (match s.daRead hubXlt ctx xa 64 with
       | .bad _ => xportEnd 7
       | .ok h =>
         let rows := if 1 ≤ bits h 80 16 ∧ bits h 80 16 ≤ 64 then bits h 80 16 else 0
         .seq (readAct hubXlt ctx xa (64 + 512 * rows) 0 true false)
           (match s.daRead hubXlt ctx xa (64 + 512 * rows) with
            | .bad _ => xportEnd 7
            | .ok r =>
              if failed then xportEnd 7
              else match recordBad r with
              | some c => xportEnd c
              | none =>
                if s.strBit R.SEQ_STREAM_TABLE_VALID n then xportEnd 5
                else .seq (daPut hubXlt ctx (s.strAddr n) (512 * rows) (r / 2 ^ 512) 0 true false)
                  (if (s.daPutFault hubXlt ctx (s.strAddr n) (512 * rows)).isSome then xportEnd 7
                   else many [
                     setR R.SEQ_STREAM_TABLE_VALID 1 0 n, setR R.SEQ_STREAM_TABLE_RESET 0 0 n, setR R.SEQ_STREAM_TABLE_RESIDENT 0 0 n,
                     setR R.SEQ_STREAM_TABLE_DIRTY 0 0 n, setR R.SEQ_STREAM_TABLE_FMT (bits r 64 8) 0 n, setR R.SEQ_STREAM_TABLE_LEN rows 0 n,
                     setR R.SEQ_STREAM_TABLE_CLAUSE_COUNT (bits r 128 32) 0 n, setR R.SEQ_STREAM_TABLE_LAST_STEP (s.count 4) 0 n,
                     xportEnd 0 ])))

/-- STREAM_TRANSFER_END: the running export or import ends; `failed` says that its transfer failed on the way. -/
def execStreamTransferEnd (failed : Bool) :=
  does (.get fun s => withA s.sch.xport fun x =>
    if s.bit R.SEQ_STREAM_XSTATUS_WAITING then .nop
    else if x.isImport then importEnd x.stream failed else exportEnd x.stream x.keep failed)

end Sys2Proof.Machine
end

