-- ==== Sys2Proof/Machine/TimeEv.lean ====
section
/-! DEFINITION. Time: requests and their application, the skew of the dies, the delays and offsets of the fabric,
snapshots, and the writer of the trouble log (R371–R402). -/

namespace Sys2Proof.Machine

/-- A log entry of class 0x08 (R396). -/
def logTime (ev data : Nat) : Act := logEv 4 srcTime 8 ev data

/-! ### Counters (R371, R376, R377) -/

/-- A die's counter runs on from a count. -/
def startCount (d c : Nat) : Act := .get fun s => .put (.clk d fun _ => ⟨true, (c : Int) - ((s.t / 3 : Nat) : Int), 0⟩)

/-- A die's counter holds. -/
def stopCount (d : Nat) : Act := .get fun s => .put (.clk d fun k => { k with run := false, hold := s.count d })

/-- A compute die loads its counter from the Hub die, with the RATE and OFFSET in force there (R376, R377). -/
def loadCount (d : Nat) : Act :=
  .get fun s => .seq (startCount d (s.count 4)) (.put (.time fun x => { x with
    par := mset (0x200000000, 0) x.par d (s.timePar 4),
    req := x.req.map (fun r => if r.done.contains 4 then { r with done := d :: r.done.filter (fun e => decide (e ≠ d)) }
      else { r with done := r.done.filter (fun e => decide (e ≠ d)) }) }))

/-- The dies whose counters run. -/
def State.ticking (s : State) (d : Nat) : Bool := (mget DieClk.stopped s.clk d).run

/-! ### Requests (R374, R375) -/

/-- TIME_CTL is written: the request captures the staged values, or is ignored while another is pending. -/
def timeGo (cmd : Nat) : Act :=
  .get fun s =>
    if cmd % 8 = 0 then .nop
    else if s.bit R.TIME_STATUS_PENDING then logTime 8 0
    else many [
      .put (.time fun x => { x with req := some {
        load := bitOf cmd 2, step := bitOf cmd 1, rate := bitOf cmd 0,
        rateNew := s.reg R.TIME_RATE_NEW_RATE, offNew := s.reg R.TIME_OFFSET_NEW_OFFSET, adj := s.reg R.TIME_OFFSET_ADJ_ADJ,
        at_ := (s.count 4 + 256) % 2 ^ 64, done := [] } }),
      setR R.TIME_APPLY_AT_COUNT (s.count 4 + 256), setR R.TIME_STATUS_PENDING 1 ]

def timeRequest (port : Port) (cmd : Nat) : Act := portCmd port (timeOff 0) cmd (timeGo cmd)

/-- The word with one request bit set. -/
def withBit (cmd k : Nat) : Nat := if bitOf cmd k then cmd else cmd + 2 ^ k

def execTimeLoad (port : Port) (cmd : BitVec 32) := does (timeRequest port (withBit cmd.toNat 2))
def execTimeStep (port : Port) (cmd : BitVec 32) := does (timeRequest port (withBit cmd.toNat 1))
def execTimeRate (port : Port) (cmd : BitVec 32) := does (timeRequest port (withBit cmd.toNat 0))

/-- OFFSET after the bits of a request, LOAD first, then STEP, then RATE. -/
def TimeReq.offset (r : TimeReq) (par : Nat × Nat) : Nat :=
  let o1 := if r.load then r.offNew else par.2
  let o2 := if r.step then ofSigned 96 ((o1 : Int) + toSigned 64 r.adj) else o1
  if r.rate then ofSigned 96 ((o2 : Int) + ((r.at_ * par.1 / 2 ^ 16 : Nat) : Int) - ((r.at_ * r.rateNew / 2 ^ 16 : Nat) : Int)) else o2

/-- RATE after a request. -/
def TimeReq.newRate (r : TimeReq) (par : Nat × Nat) : Nat := if r.rate then r.rateNew else par.1

/-- The Hub die applies a request: its registers, its log entries, and a step backward (R374, R375). -/
def applyHub (r : TimeReq) : Act :=
  .get fun s =>
    let par := s.timePar 4
    let off := r.offset par
    let rate := r.newRate par
    many [
      setR R.TIME_RATE_RATE rate, setR R.TIME_OFFSET_OFFSET off,
      logPut ⟨r.at_, 4, srcTime, 0x802, off % 2 ^ 96⟩,
      whenA r.rate (logPut ⟨r.at_, 4, srcTime, 0x801, rate % 2 ^ 40⟩),
      whenA ((r.load || r.step) && decide (sysTime rate off r.at_ < sysTime par.1 par.2 r.at_))
        (.seq (setR R.TIME_STATUS_BACKSTEP 1) (logPut ⟨r.at_, 4, srcTime, 0x804, 0⟩)) ]

/-- TIME_APPLY: a running die's counter has reached the apply count. -/
def execTimeApply (die : Fin 5) :=
  let d := die.val
  does (.get fun s => withA s.time.req fun r =>
    if !s.ticking d || r.done.contains d || decide (s.count d < r.at_) then .nop
    else many [
      if d = 4 then applyHub r
      else .put (.time fun x => { x with par := mset (0x200000000, 0) x.par d (r.newRate (s.timePar d), r.offset (s.timePar d)) }),
      .put (.time fun x => { x with req := some { r with done := d :: r.done } }),
      .get fun s => whenA ((List.range 5).all (fun k => !s.ticking k || k == d || r.done.contains k))
        (.seq (.put (.time fun x => { x with req := none })) (setR R.TIME_STATUS_PENDING 0)) ])

/-! ### Skew (R378) -/

/-- SKEW_CHECK: the Hub die's count arrives at a running compute die, `jitter` ticks from where the link delay puts it. The
die stands still or moves by two in one tick; a difference that the eight bits of D do not hold is left open. -/
def execSkewCheck (die : BitVec 2) (jitter : Int) :=
  let d := die.toNat
  does (.get fun s =>
    let x : Int := (s.count d : Int) - (s.count 4 : Int) + jitter
    if !s.ticking d then .nop
    else many [
      if -128 ≤ x ∧ x ≤ 127 then setR R.TIME_DIE_SKEW_D (ofSigned 8 x) 0 d else freshV (fun v => setR R.TIME_DIE_SKEW_D v 0 d),
      whenA (decide (2 ≤ x) || decide (x ≤ -2)) (many [
        .put (.tick 3), .put (.clk d fun k => { k with base := if 0 < x then k.base - 1 else k.base + 1 }),
        bump R.TIME_DIE_SKEW_CORRECTIONS 1 0 d ]),
      whenA (decide (2 < x) || decide (x < -2)) (.seq (setR R.TIME_DIE_SKEW_OUT 1 0 d)
        (.get fun s => logEv d srcTime 8 3 (d + s.reg R.TIME_DIE_SKEW_D 0 d * 2 ^ 8))) ])

/-- TIME_CONVERT: a count becomes a system time under the parameters in force (R380). -/
def timeConvert (c : Nat) : Act :=
  .get fun s => many [setR R.TIME_CONV_IN_COUNT c, setR R.TIME_CONV_OUT_TIME (timeLayout (s.timeOf 4 c))]

def execTimeConvert (port : Port) (count : BitVec 64) :=
  does (portCmd port (timeOff 0x64) (count.toNat / 2 ^ 32) (timeConvert count.toNat))

/-! ### Time over Flifer (R386, R387) -/

/-- TSYNC: the destination stores its offset from the master; a package on the way adds its residence and the delay of the
arrival port, of which the departure is added by the port it leaves through. -/
def execTsync (p : Fin 6) (k : Pkt) (time corr seq : Nat) :=
  does (.get fun s =>
    let m := p.val
    let c : Int := toSigned 64 corr + (s.reg R.TIME_FAB_PDELAY_U 0 m : Int) - (s.now : Int)
    arrive m ⟨0x22, k, time % 2 ^ 128 + ofSigned 64 c * 2 ^ 128 + seq % 2 ^ 32 * 2 ^ 192 + k.src.toNat * 2 ^ 224, m⟩
      (whenA (!s.bit R.TIME_FAB_CTL_MASTER) (many [
        setR R.TIME_FAB_OFFSET_U (ofSigned 64 ((ofLayout time : Int) + c)),
        setR R.TIME_FAB_AT_COUNT (s.count 4), setR R.TIME_FAB_SEQ_SYNC_SEQ seq ])))

/-- TSYNC_TIMER: the master's TSYNC to every UP peer every SYNC_MS. -/
def execTsyncTimer (dt : Nat) :=
  does (after dt (.get fun s =>
    if s.bit R.TIME_FAB_CTL_MASTER && decide (s.time.syncAt + s.reg R.TIME_FAB_CTL_SYNC_MS * msU ≤ s.t) then
      .seq (.put (.time fun x => { x with syncAt := s.t, syncSeq := (x.syncSeq + 1) % 2 ^ 32 }))
        (forA (s.peers.filter (fun n => bitOf (s.reg R.FAB_PEER_UP_UP) n)) (fun n => sendMgmt 0x22 n 0 (s.time.syncSeq * 2 ^ 192 + s.ownPkg * 2 ^ 224)))
    else .nop))

/-- A packet to the neighbour of a port leaves through that port. -/
def sendPort (m typ data : Nat) : Act :=
  .get fun s => whenA (s.bit R.FAB_CFG_ENABLE && s.portUp m)
    (.seq (updFport m fun f => { f with wait := f.wait ++ [⟨typ, mkHdr (s.reg R.FAB_PORT_STATUS_PEER_PKG 0 m) s.ownPkg 0 0 0 0 0 0 0, data, 6⟩] }) (pumpPort m))

/-- PDELAY_REQ: the neighbour's request is answered with the time it came; T3 goes in at departure. -/
def execPdelayReq (p : Fin 6) (t1 : Nat) :=
  does (.get fun s => sendPort p.val 0x24 (t1 % 2 ^ 128 + timeLayout s.now * 2 ^ 128))

/-- PDELAY_RESP: half the round trip less the neighbour's turnaround; a delay that the register does not hold is left
open. -/
def execPdelayResp (p : Fin 6) (t1 t2 t3 : Nat) :=
  does (.get fun s =>
    let x : Int := (((s.now : Int) - (ofLayout t1 : Int)) - ((ofLayout t3 : Int) - (ofLayout t2 : Int))) / 2
    if !s.bit R.FAB_CFG_ENABLE || !s.portUp p.val then .nop
    else if 0 ≤ x ∧ x < 2 ^ 32 then setR R.TIME_FAB_PDELAY_U x.toNat 0 p.val
    else freshV (fun v => setR R.TIME_FAB_PDELAY_U v 0 p.val))

/-- PDELAY_TIMER: every UP port asks its neighbour every PDELAY_MS; T1 goes in at departure. -/
def execPdelayTimer (dt : Nat) :=
  does (after dt (.get fun s =>
    if s.bit R.TIME_FAB_CTL_EN && decide (s.time.pdAt + s.reg R.TIME_FAB_CTL_PDELAY_MS * msU ≤ s.t) then
      .seq (.put (.time fun x => { x with pdAt := s.t })) (forA (List.range 6) (fun m => sendPort m 0x23 0))
    else .nop))

/-! ### Snapshots (R388–R391) -/

/-- The snapshot class: fields of a core, of a die's blocks, and of the Hub die. -/
def snapCore : List Fld := [R.CORE_BLOCK_COUNT_COUNT]
def snapDie : List Fld :=
  [R.DMC_ECC_COUNT_CE, R.DMC_ECC_COUNT_UE, R.XLT_MIG_DONE_COUNT, R.XLT_MIG_FAIL_COUNT, R.XLT_EVICT_COUNT, R.QUE_OPS_PEAK,
   R.QUE_SIG_LOST_COUNT, R.QUE_DOORBELL_BAD_COUNT, R.QUE_TAIL_TAIL, R.QUE_HEAD_HEAD, R.QUE_DONE_COUNT]
def snapHub : List Fld :=
  [R.SEQ_DL_MISS_COUNT, R.SEQ_PREEMPT_COUNT, R.SEQ_PROMOTE_COUNT, R.SEQ_REPLAY_COUNT, R.SEQ_BOOST_COUNT, R.SEQ_KV_STALL_COUNT,
   R.CHR_LINK_BAD_COUNT, R.CHR_LINK_DOWNS_COUNT, R.FAB_DUP_COUNT, R.FAB_DROP_COUNT, R.FAB_E2E_TO_COUNT, R.FAB_PORT_BAD_COUNT,
   R.FAB_PORT_DOWNS_COUNT, R.FAB_WIN_ACCEPT_COUNT, R.FAB_WIN_NACK_COUNT, R.LOG_HEAD_COUNT, R.LOG_LOST_COUNT, R.LOG_OVERRUN_COUNT] ++
  [R.ISP_PORT_ECC_FIX_COUNT, R.ISP_PORT_ECC_DROP_COUNT, R.ISP_PORT_CRC_COUNT, R.ISP_PORT_DISCARD_DT_COUNT, R.ISP_STRM_FRAMES_COUNT,
   R.ISP_STRM_BAD_FRAMES_COUNT, R.ISP_STRM_LINE_ERR_COUNT, R.ISP_STRM_ORPHAN_COUNT, R.ISP_SW_FAULTS_COUNT,
   R.AUD_OVERRUN_COUNT, R.AUD_WAKE_COUNT_W1, R.AUD_WAKE_COUNT_W2, R.AUD_WAKE_COUNT_W3] ++
  [R.INP_PIPE_BATCHES_COUNT, R.INP_PIPE_SKIPPED_COUNT, R.INP_PIPE_REPLACED_COUNT, R.INP_PIPE_FILLED_COUNT, R.INP_PIPE_ROI_STALE_COUNT,
   R.INP_PIPE_ROI_CLIP_COUNT, R.INP_PIPE_AUG_MISS_COUNT, R.INP_PIPE_DROPPED_COUNT, R.PWR_ENTRY_ABORTS_COUNT, R.PWR_THROTTLE_MS_COUNT,
   R.HUB_RCV_HANGS_COUNT, R.HUB_RCV_GUILTY_COUNT, R.HUB_RCV_UNREPRO_COUNT, R.HUB_RCV_ESCALATE_COUNT, R.HUB_ETH_DROP_COUNT,
   R.SEC_KILL_COUNT_COUNT]

/-- A register key belongs to a snapshot-class register of die d. -/
def snapOf (d k : Nat) : Bool :=
  (decide (d < 4) && ((snapCore.any (fun f => decide (f.id = keyId k)) && decide (dieOf (keyI k) = d)) ||
    (snapDie.any (fun f => decide (f.id = keyId k)) && decide (keyI k = d)))) ||
  (decide (d = 4) && snapHub.any (fun f => decide (f.id = keyId k)))

/-- A register key belongs to a register computed when read: CORE_CYCLE, QUE_OPS.INFLIGHT, TIME_COUNT. -/
def snapComputed (s : State) (d : Nat) : List (Nat × Nat) :=
  if d = 4 then [(R.TIME_COUNT_COUNT.key 0 0, s.count 4)]
  else (R.QUE_OPS_INFLIGHT.key d 0, s.ops d none) ::
    (List.range 16).map (fun c => (R.CORE_CYCLE_COUNT.key (16 * d + c) 0, s.cyc (16 * d + c)))

/-- A shadow key of die d. -/
def shadowOf (d k : Nat) : Bool :=
  snapOf d k || (decide (d = 4) && decide (keyId k = R.TIME_COUNT_COUNT.id)) ||
  (decide (d < 4) && ((decide (keyId k = R.QUE_OPS_INFLIGHT.id) && decide (keyI k = d)) ||
    (decide (keyId k = R.CORE_CYCLE_COUNT.id) && decide (dieOf (keyI k) = d))))

/-- A die's shadows take its registers. -/
def latchShadows (d : Nat) : Act :=
  .get fun s => .put (.time fun x => { x with
    shadow := (snapComputed s d).foldl (fun m e => mset 0 m e.1 e.2)
      ((s.regs.filter (fun e => snapOf d e.1)).foldl (fun m e => mset 0 m e.1 e.2) (mkeep (fun k => !shadowOf d k) x.shadow)) })

/-- A snapshot is armed for a time under an ID (R389). -/
def armSnap (t id : Nat) (remote : Bool) : Act :=
  .get fun s => many [
    .put (.time fun x => { x with snapT := t, snapId := id, snapDone := [] }),
    setR R.TIME_SNAP_STATUS_ARMED 1, setR R.TIME_SNAP_STATUS_DONE 0, setR R.TIME_SNAP_STATUS_REMOTE (b2n remote),
    setR R.TIME_SNAP_STATUS_MISSED 0, setR R.TIME_SNAP_STATUS_LATE (b2n (decide (t < s.now))),
    whenA (decide (t < s.now)) (logTime 6 id) ]

/-- TIME_SNAP_CTL is written. -/
def snapGo (v : Nat) : Act :=
  many [
    setR R.TIME_SNAP_CTL_FABRIC (bits v 1 1), setR R.TIME_SNAP_CTL_REMOTE_EN (bits v 2 1),
    whenA (bitOf v 0) (.get fun s =>
      let t := s.reg R.TIME_SNAP_AT_TIME
      let id := bits t 64 32
      if s.bit R.TIME_SNAP_STATUS_ARMED then logTime 7 id
      else many [
        armSnap (ofLayout t) id false, setR R.TIME_SNAP_ACK_PEERS 0,
        whenA (bitOf v 1) (forA (s.peers.filter (fun n => bitOf (s.reg R.FAB_PEER_UP_UP) n)) (fun n => sendMgmt 0x25 n 0 (t + id * 2 ^ 128))) ]) ]

/-- SNAPSHOT_ARM: a write with ARM. -/
def execSnapshotArm (port : Port) (cmd : BitVec 32) := does (portCmd port (timeOff 0x100) (withBit cmd.toNat 0) (snapGo (withBit cmd.toNat 0)))

/-- SNAPSHOT_LATCH: at its target count a running die latches its shadows; one that does not run misses the time. -/
def execSnapshotLatch (die : Fin 5) :=
  let d := die.val
  does (.get fun s =>
    let live := s.ticking d && (decide (d = 4) || !s.inReset 2 d)
    if !s.bit R.TIME_SNAP_STATUS_ARMED || s.time.snapDone.contains d || decide ((if live then s.timeOf d (s.count d) else s.now) < s.time.snapT) then .nop
    else many [
      if live then .seq (latchShadows d) (setR R.TIME_SNAP_TICK_COUNT (s.count d) 0 d) else setBitR R.TIME_SNAP_STATUS_MISSED true d,
      .put (.time fun x => { x with snapDone := d :: x.snapDone }),
      whenA ((List.range 5).all (fun k => k == d || s.time.snapDone.contains k)) (many [
        setR R.TIME_SNAP_STATUS_ARMED 0, setR R.TIME_SNAP_STATUS_DONE 1, logTime 5 s.time.snapId ]) ])

/-- SNAP_SCHED: a peer's snapshot arms this package and is acknowledged (R390). -/
def execSnapSched (p : Fin 6) (k : Pkt) (id : BitVec 32) (time : Nat) :=
  let q : PktS := ⟨0x25, k, time % 2 ^ 128 + id.toNat * 2 ^ 128, p.val⟩
  does (arrive p.val q (.get fun s =>
    let ack := fun (c : Nat) => sendMgmt 0x26 k.src.toNat 0 (id.toNat * 2 ^ 128 + c * 2 ^ 160)
    if !s.bit R.TIME_SNAP_CTL_REMOTE_EN then ack 3
    else if s.bit R.TIME_SNAP_STATUS_ARMED then ack 1
    else .seq (armSnap (ofLayout time) id.toNat true) (ack (if ofLayout time < s.now then 2 else 0))))

/-- SNAP_ACK: the peer has armed. -/
def execSnapAck (p : Fin 6) (k : Pkt) (id : BitVec 32) (code : BitVec 8) :=
  let q : PktS := ⟨0x26, k, id.toNat * 2 ^ 128 + code.toNat * 2 ^ 160, p.val⟩
  does (arrive p.val q (whenA (decide (code.toNat = 0) || decide (code.toNat = 2)) (setBitR R.TIME_SNAP_ACK_PEERS true k.src.toNat)))

/-! ### The writer of the trouble log (R392–R394, R402) -/

/-- The bytes of an entry. -/
def LogEnt.image (e : LogEnt) (n boot : Nat) : Nat :=
  e.stamp % 2 ^ 64 + n % 2 ^ 32 * 2 ^ 64 + boot % 2 ^ 16 * 2 ^ 96 + e.die % 2 ^ 8 * 2 ^ 112 + e.source % 2 ^ 16 * 2 ^ 128 +
    e.code % 2 ^ 16 * 2 ^ 144 + e.data % 2 ^ 96 * 2 ^ 160

/-- An entry's class is written. -/
def State.logged (s : State) (cls : Nat) : Bool := decide (cls = 0x0D) || (decide (0 < cls) && bitOf (s.reg R.LOG_CTL_MASK) (cls - 1))

/-- Entries that software has not consumed. -/
def State.logLevel (s : State) : Nat := (s.reg R.LOG_HEAD_COUNT + 2 ^ 32 - s.reg R.LOG_TAIL_CONSUMED) % 2 ^ 32

/-- One entry goes into the ring: an overrun is counted, and the level's rise to LEVEL sends the interrupt. -/
def writeEntry (e : LogEnt) : Act :=
  .get fun s =>
    let n := s.reg R.LOG_HEAD_COUNT
    let lv := s.reg R.LOG_IRQ_LEVEL
    many [
      .put (.aon (0x70000 + 32 * (n % 2048)) 32 (e.image n (s.reg R.LOG_BOOT_BOOT))),
      setR R.LOG_HEAD_COUNT (n + 1),
      whenA (decide (2048 < s.logLevel + 1)) (bump R.LOG_OVERRUN_COUNT),
      whenA (s.bit R.LOG_IRQ_EN && decide (s.logLevel < lv) && decide (lv ≤ s.logLevel + 1)) (msix (s.reg R.LOG_IRQ_VECTOR)) ]

/-- LOG_ENTRY_WRITE: the writer takes the FIFO's first entry; drops that came before are reported in the freed place. -/
def execLogEntryWrite :=
  does (.get fun s => match s.log.fifo with
    | [] => .nop
    | e :: r => .seq
        (.put (.log fun l => { l with
          fifo := r ++ (match l.lost with
            | some (a, n, b) => [⟨a, 4, srcLog, 0xD01, n % 2 ^ 32 + b % 2 ^ 64 * 2 ^ 32⟩]
            | none => []),
          lost := none }))
        (whenA (s.logged (e.code / 256)) (writeEntry e)))

/-- LOG_TAIL is written: a value above HEAD is discarded. -/
def logTail (v : Nat) : Act := .get fun s => whenA (decide (v ≤ s.reg R.LOG_HEAD_COUNT)) (setR R.LOG_TAIL_CONSUMED v)

def execLogTailWrite (port : Port) (v : BitVec 32) := does (portCmd port (logOff 8) v.toNat (logTail v.toNat))

end Sys2Proof.Machine
end

