-- ==== Sys2Proof/Machine/Reset.lean ====
section
/-! DEFINITION. The reset domains: cores, compute dies, Hub blocks and the package (R70, R478–R482, R561). -/

namespace Sys2Proof.Machine

/-! ### Registers -/

/-- The field identifiers of a block. -/
def idsOf (l : List RegDef) : List Nat := l.flatMap (fun r => r.places.map (fun p => p.f.id))

/-- Register entries return to their reset values; a field of the configuration class that held another value sets DIRTY
(R481). -/
def resetRegs (drop : Nat → Bool) : Act :=
  .get fun s => .seq (.put (.regsKeep fun k => !drop k))
    (whenA (s.regs.any (fun e => drop e.1 && classIds.contains (keyId e.1))) setDirty)

/-- The entries of some blocks, for the instances that pass a test, but for the fields kept. -/
def blockKeys (l : List RegDef) (inst : Nat → Bool) (keep : List Fld) (k : Nat) : Bool :=
  (idsOf l).contains (keyId k) && inst (keyI k) && !(keep.map Fld.id).contains (keyId k)

/-- What a core reset leaves of CORE_: the core's partition, which SEC_PART_p holds (R491), and a scrub that is still owed
(R498, R499). -/
def coreKeep : List Fld := [R.CORE_STATUS_PART_VALID, R.CORE_STATUS_PARTITION, R.CORE_STATUS_SCRUB]

/-- What a die reset leaves of DMC_: the retirement entries (R251) and what training found (R480). -/
def dieKeep : List Fld := coreKeep ++ [R.DMC_RETIRE_VALID, R.DMC_RETIRE_SOURCE, R.DMC_RETIRE_FRAME, R.DMC_STATUS_RETIRE_FULL, R.DMC_STATUS_FIT, R.DMC_CH_STATUS_PRESENT]

/-- The always-on registers (R401, R442, R464), and the state of HOLD_VIN. -/
def aonIds : List Nat :=
  idsOf regsLog ++ [R.AUD_RING_CFG_RING_EN, R.AUD_RING_CFG_FREEZE, R.AUD_RING_SEG_SEG, R.AUD_RING_WAKE_SEG_SEG, R.PWR_OFF_TIMER_SECONDS,
    R.PWR_WAKE_SRC_PIN, R.PWR_WAKE_SRC_ACOUSTIC, R.PWR_WAKE_SRC_TIMER, R.PWR_SAG_CFG_THRESH, R.PWR_SAG_CFG_FILTER,
    R.PWR_SAG_CFG_RECOVER_MS, R.PWR_SAG_CFG_EN, R.PWR_SAG_STATUS_HOLD_OK].map Fld.id

/-! ### Domains -/

/-- Triggers of a reset, in the order of R478 (0 a command). The spec gives the byte of R484 no codes. -/
def trigEscalate : Nat := 1
def trigPll : Nat := 2
def trigNoPath : Nat := 3
def trigImage : Nat := 4
def trigWatchdog : Nat := 5
def trigPcie : Nat := 6
def trigRefclk : Nat := 7
def trigRail : Nat := 8
def trigSag : Nat := 9
def trigOff : Nat := 10
def trigPwrgd : Nat := 11
def trigBoot : Nat := 12

/-- A domain enters reset. -/
def enterReset (dom idx trig : Nat) : Act :=
  .get fun s => .seq (setR R.HUB_RESET_STATUS_BUSY 1) (.put (.pkg fun p => { p with
    rst := mset 0 p.rst (rstKey dom idx) (trig + 1), since := mset 0 p.since (rstKey dom idx) s.t }))

/-- A recovery is abandoned (R482, R485). -/
def dropRecovery (c : Nat) : Act :=
  .get fun s => withA (mget none s.sch.recs c) fun r => .seq
    (match (r.cands[r.cur]?).bind s.clause with
     | some k => logRcv 6 k.ctx c 1 0 k.queue k.n
     | none => logRcv 6 0 c 1 0 0 0)
    (.put (.sch fun d => { d with recs := mset none d.recs c none }))

/-- Clauses running or saved on a core, or under recovery there, end with DIE_RESET (R310, R478). -/
def endCoreClauses (c : Nat) : Act :=
  .get fun s =>
    let cands := match mget none s.sch.recs c with | some r => r.cands | none => []
    .seq (dropRecovery c)
      (forA (s.clauseList.filter (fun k => decide (k.2.core = c) && (decide (k.2.st ≠ .waiting) || cands.contains k.1)))
        (fun k => endClause k.1 stDieReset 0 0))

/-- A core's own state after its reset (R70): its clock stands at 0 until the release. -/
def coreWipe (c : Nat) : Act :=
  many [
    updCore c (fun _ => CoreS.reset),
    .put (.sec fun x => { x with scrubs := mupd none x.scrubs c fun o => o.map fun o => { o with since := none } }) ]

/-- A transfer ends with DIE_RESET; its segments are lost. -/
def loseXfer (x : Nat) : Act := .seq (updXfer x fun v => { v with segs := [] }) (endXfer x stDieReset)

/-- A core reset. -/
def coreReset (c trig : Nat) : Act :=
  .get fun s => whenA (!s.inReset 1 c) (many [
    enterReset 1 c trig, endCoreClauses c,
    .get fun s => forA (s.die.xfers.map Prod.fst) (fun x => .get fun s => withA (s.xfer x) fun v => whenA ((xferCores v).contains c) (loseXfer x)),
    coreWipe c, resetRegs (blockKeys regsCore (fun i => decide (i = c)) coreKeep),
    dropLatches (fun o => decide (dieBase (dieOf c) + c % 16 * 0x100000 ≤ o) && decide (o < dieBase (dieOf c) + c % 16 * 0x100000 + 0x100000)) ])

/-! ### A compute die -/

/-- A descriptor whose queue's home die is reset leaves a log entry (R561). -/
def logLost (die q n : Nat) : Act := logEv die (srcQue die) 4 0x14 (q % 2 ^ 16 + n % 2 ^ 32 * 2 ^ 16)

/-- A clause that has not started is discarded without an end. -/
def discardClause (id : Nat) : Act :=
  .get fun s => withA (s.clause id) fun k => many [
    faultXfers id, stopKick id,
    .put (.sch fun d => { d with pins := k.streams.foldl (fun m n => mset 0 m n (mget 0 m n - 1)) d.pins }),
    .get fun s => forA k.streams (fun n => whenA (decide (mget 0 s.sch.pins n = 0)) (setR R.SEQ_STREAM_TABLE_PINNED 0 0 n)),
    setClause id none ]

/-- A fetched descriptor of a queue homed on a die in reset: what runs elsewhere goes on without it, what has not started is
discarded (R561). Work that goes on carries a queue number 65,536 too high. -/
def loseDesc (die q : Nat) (d : DescS) : Act :=
  .get fun s =>
    let lost := logLost die q d.n
    match s.clauseList.find? (fun k => decide (k.2.queue = q) && decide (k.2.n = d.n)) with
    | some k =>
      if k.2.st = .waiting ∨ k.2.st = .chosen ∨ k.2.st = .loading then .seq (discardClause k.1) lost
      else updClause k.1 fun c => { c with queue := 65536 + q }
    | none => match s.descXfer q d.n with
      | some x => (match s.xfer x with
        | some v =>
          if decide (v.place = 0) || decide (v.die = die) then .seq (dropXfer x) lost
          else updXfer x fun v => { v with org := .desc (65536 + q) d.n }
        | none => lost)
      | none =>
        let p := s.qf R.QUE_QCFG_PART q
        match (s.batch p).list.find? (fun e => decide (e.2.queue = q) && decide (e.2.n = d.n)) with
        | some e => setSeq p e.1 (some { e.2 with queue := 65536 + q })
        | none => .seq
            (updBatch p fun b => { b with
              reqs := b.reqs.filter (fun r => decide (r.queue ≠ q) || decide (r.n ≠ d.n)),
              cancels := b.cancels.filter (fun c => decide (c.1 ≠ q) || decide (c.2.1 ≠ d.n)) })
            (whenA (decide (d.endSt ≠ some stDieReset)) lost)

/-- The home dies of the accesses an issued segment still has to make. -/
def State.segHomes (s : State) (v : Xfer) (g : Seg) : List Nat :=
  match g.st with
  | .needRead => if g.srcKind = 2 then s.homes v false ((v.reads g.k).map Prod.fst) else []
  | .haveData => if g.dstKind = 2 then s.homes v true ((v.writes g.k 0).map Prod.fst) else []
  | _ => []

/-- A transfer touches a die (R279): where the die executes it the queue completes the descriptor with BYTES 0. -/
def dieXfer (d x : Nat) : Act :=
  .get fun s => withA (s.xfer x) fun v =>
    if v.die = d then .seq (dropXfer x) (match v.org with
      | .desc q n => endDesc q n stDieReset (q / 8192 % 8) (dmaExtra 0 (match (s.queue q).fetched.find? (fun e => decide (e.n = n)) with | some e => e.raw | none => 0))
      | _ => .nop)
    else whenA ((xferCores v).any (fun c => decide (dieOf c = d)) || v.segs.any (fun g => decide (g.st ≠ .ended) && (s.segHomes v g).contains d)) (loseXfer x)

/-- What the die holds beside its registers is as after reset. -/
def DieSide.sans (x : DieSide) (d : Nat) : DieSide :=
  { x with
      sems := mkeep (fun h => decide (h / 4096 ≠ d)) x.sems,
      reqs := x.reqs.filter (fun r => decide ((if r.isQue then r.obj / 8192 else r.obj / 4096) ≠ d) && decide (dieOf r.core ≠ d)),
      resps := x.resps.filter (fun r => decide (dieOf r.core ≠ d)),
      queues := mkeep (fun q => decide (q / 8192 ≠ d)) x.queues,
      qcmd := mdel x.qcmd d, turn := mdel x.turn d, qturn := mkeep (fun k => decide (k / 16 ≠ d)) x.qturn,
      tlb := mkeep (fun k => decide (k / 2 ^ 44 ≠ d)) x.tlb,
      migs := mkeep (fun k => decide (k / 16 ≠ d)) x.migs, migQ := x.migQ.filter (fun e => decide (e.1 ≠ d)),
      invs := x.invs.filter (fun v => decide (v.die ≠ d)),
      codeDirty := mkeep (fun k => decide (k / 16 ≠ d)) x.codeDirty, mr4Low := mkeep (fun k => decide (k / 16 ≠ d)) x.mr4Low,
      refreshes := mkeep (fun k => decide (k / 16 ≠ d)) x.refreshes, nbrQ := mkeep (fun k => decide (k / 16 ≠ d)) x.nbrQ,
      activates := mkeep (fun k => decide (k / 16 ≠ d)) x.activates }

/-- The contents of DRAM are lost on the dies that pass a test: every stored unit reads as one stored under a key that no longer
is (Config.garbled). -/
def loseDram (lost : Nat → Bool) : Act :=
  freshV fun v => .put (.die fun x => { x with
    sealed := x.sealed.map (fun e => if lost (paDie (64 * e.1)) then (e.1, 100 + v) else e),
    errs := mkeep (fun u => !lost (paDie (64 * u))) x.errs })

/-- A die leaves every power state. -/
def powerWipe (d : Nat) : Act :=
  many [
    setR R.PWR_STATE_DIE 0 0 d, setR R.PWR_STATE_BUSY 0 0 d, setR R.PWR_DIE_REQ_STATE 0 0 d,
    .put (.pwr fun p => { p with ent := mset none p.ent d none, exits := mset none p.exits d none, wake := mset false p.wake d false, image := mset none p.image d none }) ]

/-- A compute die is reset (R478, R480, R482, R561). `kept` says that self-refresh was reached within 10 µs; where the trigger
does not say it, it is open. -/
def dieReset (d trig : Nat) (kept : Option Bool) : Act :=
  .get fun s => whenA (!s.inReset 2 d) (many [
    enterReset 2 d trig,
    (match kept with
     | some true => .nop
     | some false => .seq (setR R.HUB_RESET_STATUS_DRAM_LOST 1) (loseDram fun e => decide (e = d))
     | none => freshV fun v => whenA (decide (v % 2 = 0)) (.seq (setR R.HUB_RESET_STATUS_DRAM_LOST 1) (loseDram fun e => decide (e = d)))),
    forA ((List.range 16).map (fun k => 16 * d + k)) endCoreClauses,
    .get fun s => forA (s.die.queues.filter (fun e => decide (e.1 / 8192 = d))) (fun e => forA e.2.fetched (loseDesc d e.1)),
    .get fun s => forA (s.die.xfers.map Prod.fst) (dieXfer d),
    .get fun s => forA (s.die.migs.filter (fun e => decide (e.1 / 16 = d))) (fun e => withA e.2 fun m => heldDone m.pte 7),
    .put (.die fun x => x.sans d),
    forA ((List.range 16).map (fun k => 16 * d + k)) (fun c => .seq (coreWipe c) (.put (.pkg fun p => { p with rst := mset 0 p.rst (rstKey 1 c) 0 }))),
    resetRegs (fun k => blockKeys regsCore (fun i => decide (i / 16 = d)) dieKeep k || blockKeys (regsDmc ++ regsQue ++ regsXlt) (fun i => decide (i = d)) dieKeep k),
    dropLatches (fun o => decide (offDie o = some d)), powerWipe d, stopCount d, routeAround ])

/-! ### Hub blocks (R479) -/

/-- A stream that is resident loses its frame without write-back (R188). -/
def loseStream (n : Nat) : Act :=
  .get fun s => whenA (s.strBit R.SEQ_STREAM_TABLE_RESIDENT n) (many [
    whenA (s.strBit R.SEQ_STREAM_TABLE_DIRTY n) (setR R.SEQ_STREAM_TABLE_STALE 1 0 n),
    setR R.SEQ_STREAM_TABLE_RESIDENT 0 0 n, setR R.SEQ_STREAM_TABLE_DIRTY 0 0 n ])

/-- The streams that are resident anywhere. -/
def State.residentAll (s : State) : List Nat := (s.regs.filter (fun e => decide (keyId e.1 = R.SEQ_STREAM_TABLE_RESIDENT.id))).map (fun e => keyJ e.1)

/-- The fields of the stream table, which survives a reset of SEQ (R478). -/
def streamFlds : List Fld :=
  [R.SEQ_STREAM_TABLE_STATE_ADDR, R.SEQ_STREAM_TABLE_VALID, R.SEQ_STREAM_TABLE_RESET, R.SEQ_STREAM_TABLE_FMT, R.SEQ_STREAM_TABLE_PART,
   R.SEQ_STREAM_TABLE_LEN, R.SEQ_STREAM_TABLE_RESIDENT, R.SEQ_STREAM_TABLE_DIRTY, R.SEQ_STREAM_TABLE_PINNED, R.SEQ_STREAM_TABLE_STALE,
   R.SEQ_STREAM_TABLE_ERR, R.SEQ_STREAM_TABLE_CORE, R.SEQ_STREAM_TABLE_FRAME, R.SEQ_STREAM_TABLE_LAST_STEP, R.SEQ_STREAM_TABLE_CLAUSE_COUNT]

/-- Inputs and cascade after a reset: the ring goes on from its next complete segment, the mute pin stays as it is. -/
def audWipe : Act :=
  many [
    updAud (fun a => { AudS.reset with pin := a.pin, relAt := a.relAt, ringP := a.ringP, ringS := a.ringS }),
    .get fun s => whenA (s.aud.pin || s.aud.relAt.isSome) (setR R.AUD_STATUS_MUTE 1), ringCheck false ]

/-- The sequences of a partition retire with DIE_RESET; released clauses run on. -/
def batchWipe (p : Nat) : Act :=
  .get fun s => .seq (forA (s.batch p).list (fun e => retireSeq p e.1 stDieReset 5))
    (updBatch p fun b => { BatchS.none with reqs := b.reqs, cancels := b.cancels })

/-- What a reset of a Hub block does to it: 0 ISP, 1 AUD, 2 INP, 3 SEQ, 4 FAB, 5 SBP. -/
def blockWipe : Nat → Act
  | 0 => .seq (.put (.isp fun _ => IspS.reset)) (resetRegs (blockKeys regsIsp (fun _ => true) []))
  | 1 => .seq (resetRegs (fun k => blockKeys regsAud (fun _ => true) [] k && !aonIds.contains (keyId k))) audWipe
  | 2 => .seq (forA (List.range 16) (fun k => updPipe k fun _ => PipeS.reset)) (resetRegs (blockKeys regsInp (fun _ => true) []))
  | 3 => many [
      forA (List.range 16) batchWipe, .get fun s => forA s.residentAll loseStream,
      .get fun s => withA s.sch.xport fun x => whenA (!s.bit R.SEQ_STREAM_XSTATUS_WAITING && !x.isImport)
        (.seq (.put (.sch fun d => { d with pins := mset 0 d.pins x.stream (mget 0 d.pins x.stream - 1) }))
          (.get fun s => whenA (decide (mget 0 s.sch.pins x.stream = 0)) (setR R.SEQ_STREAM_TABLE_PINNED 0 0 x.stream))),
      .put (.sch fun d => { d with xport := none }), resetRegs (blockKeys regsSeq (fun _ => true) streamFlds) ]
  | 4 => many [
      forA (List.range 6) (fun m => .get fun s => whenA (s.portUp m) (portDown m 4)), forA (List.range 64) closeWin,
      .put (.fab fun f => { FabS.reset with pend := f.pend, dirtyAt := f.dirtyAt }), resetRegs (blockKeys regsFab (fun _ => true) []) ]
  | _ => .seq (.put (.host fun h => { h with ind := 0 })) (resetRegs (blockKeys regsSbp (fun _ => true) [R.SBP_CTL_WRITE_LOCK]))

/-- The base and size of a Hub block's registers (R35). -/
def blockSpan (b : Nat) : Nat × Nat :=
  [(ispOff 0, 0x100000), (audOff 0, 0x100000), (inpOff 0, 0x100000), (seqOff 0, 0x1000000), (fabOff 0, 0x100000), (sbpOff 0, 0x100000)].getD b (0, 0)

/-- A Hub block is reset. -/
def hubReset (b trig : Nat) : Act :=
  .get fun s => whenA (!s.inReset 3 b) (many [
    enterReset 3 b trig, blockWipe b, dropLatches (fun o => decide ((blockSpan b).1 ≤ o) && decide (o < (blockSpan b).1 + (blockSpan b).2)) ])

/-! ### The package -/

/-- Everything outside the always-on island is cleared, and the package is held in reset until R542 releases it. `keep` says which
register entries stay. -/
def packageWipe (keep : Nat → Bool) (trig : Nat) : Act :=
  many [
    resetRegs (fun k => !keep k),
    .get fun s => forA (s.cores.map Prod.fst) (fun c => updCore c fun _ => CoreS.reset),
    .put (.spadKeep fun _ => false), .put (.accKeep fun _ => false), loseDram (fun _ => true), .put (.hubKeep fun _ => false),
    .put (.die fun x => { DieSide.reset with sealed := x.sealed }), .put (.sch fun _ => SchedSide.reset),
    forA (List.range 5) (fun d => .put (.clk d fun _ => DieClk.stopped)),
    .put (.time fun _ => TimeS.reset), .put (.bus fun _ => ⟨[], [], 0⟩), .put (.host fun _ => HostS.reset),
    .put (.sec fun _ => SecS.reset), .put (.fab fun f => { FabS.reset with dirtyAt := f.dirtyAt }),
    forA (List.range 8) (fun l => updLink l fun _ => ChrL.reset),
    .put (.isp fun _ => IspS.reset), audWipe, forA (List.range 16) (fun k => updPipe k fun _ => PipeS.reset),
    .put (.pwr fun p => { PwrS.reset with sag := p.sag, tripped := p.tripped, off := p.off, offTrip := p.offTrip, offWake := p.offWake }),
    .put (.pkg fun p => { p with held := true, rst := [], since := [], trig := trig }) ]

/-- A package reset (R478): what is always on stays. -/
def packageReset (trig : Nat) : Act := packageWipe (fun k => aonIds.contains (keyId k)) trig

/-! ### Release -/

/-- Some domain is in reset. -/
def resetEnd (dom idx trig : Nat) : Act :=
  many [
    .get fun s => setR R.HUB_RESET_STATUS_BUSY (b2n (s.pkg.rst.any (fun e => decide (e.1 / 64 ≠ 2) || decide (s.reg R.HUB_BOOT_STAGE = 6)))),
    setR R.HUB_RESET_STATUS_DONE 1, raiseRcv R.HUB_RCV_EVENT_RESET_DONE 5, logRcv 5 0 idx dom (Config.triggerCode trig) 0 0 ]

/-- A domain leaves reset. -/
def leaveReset (dom idx : Nat) : Act := .put (.pkg fun p => { p with rst := mset 0 p.rst (rstKey dom idx) 0 })

/-- A core's clock starts at 0 (R48). -/
def startCore (c : Nat) : Act := .get fun s => updCore c fun k => { k with cycRun := true, cycBase := -(s.t : Int), cycHold := 0 }

/-- A compute die leaves reset: its counter is loaded, its cores' clocks start, and a trained die is READY (R480). -/
def startDie (d : Nat) : Act :=
  many [
    leaveReset 2 d, loadCount d, forA ((List.range 16).map (fun k => 16 * d + k)) startCore,
    .get fun s => whenA (decide (s.reg R.DMC_STATUS_FIT d ≠ 0)) (setR R.DMC_STATUS_READY 1 d) ]

/-- The package leaves reset (R376, R533, R542): the Hub die's counter starts at 0 and LOG_BOOT counts; the compute dies stay in
reset, links and functions begin anew. -/
def packageRelease : Act :=
  .get fun s =>
    let p := s.pkg
    whenA (p.held && p.vaon && p.sysPwr && p.pwrgd && p.perst && p.refclk && s.pwr.sag.isNone && !s.pwr.tripped && s.pwr.off.isNone) (many [
      .put (.pkg fun q => { q with held := false, rst := (List.range 4).map (fun d => (rstKey 2 d, p.trig + 1)), since := [] }),
      startCount 4 0, setR R.LOG_BOOT_BOOT (s.reg R.LOG_BOOT_BOOT + 1), setR R.HUB_BOOT_STAGE 1,
      forA (List.range 8) linkTrain, resetEnd 4 0 p.trig ])

/-- RESET_RELEASE of a domain that is in reset. A compute die waits for the boot, and one that boot failed stays in reset (R535). -/
def execResetRelease (dom idx : Nat) :=
  does (.get fun s =>
    let tr := mget 0 s.pkg.rst (rstKey dom idx)
    if dom = 4 then packageRelease
    else if s.pkg.held ∨ tr = 0 then .nop
    else match dom with
    | 1 => whenA (!s.inReset 2 (dieOf idx)) (many [leaveReset 1 idx, startCore idx, resetEnd 1 idx (tr - 1)])
    | 2 => whenA (s.ready && bitOf (s.reg R.HUB_BOOT_DIE_OK) idx) (many [startDie idx, resetEnd 2 idx (tr - 1)])
    | 3 => many [leaveReset 3 idx, resetEnd 3 idx (tr - 1)]
    | _ => .nop)

/-! ### Commands (R478, R487) -/

/-- A write of HUB_RESET_CMD. -/
def resetGo (port : Port) (dom idx : Nat) (a : Act) : Act :=
  let v := dom + idx * 2 ^ 8
  let top := if dom = 1 then 64 else if dom = 2 then 4 else if dom = 3 then 6 else 64
  .get fun s =>
    if s.bit R.HUB_RESET_STATUS_BUSY then ignored port 0x80040 v
    else if top ≤ idx then reserved port 0x80040 v
    else .seq (setR R.HUB_RESET_CMD_INDEX idx) a

def resetCmd (port : Port) (dom idx : Nat) (a : Act) : Act := portCmd port 0x80040 (dom + idx * 2 ^ 8) (resetGo port dom idx a)

def execResetCore (port : Port) (core : BitVec 6) := does (resetCmd port 1 core.toNat (coreReset core.toNat 0))
def execResetDie (port : Port) (die : BitVec 2) (drainOk : Bool) := does (resetCmd port 2 die.toNat (dieReset die.toNat 0 (some drainOk)))
def execResetHubBlock (port : Port) (block : BitVec 6) := does (resetCmd port 3 block.toNat (hubReset block.toNat 0))
def execResetPackage (port : Port) := does (resetCmd port 4 0 (packageReset 0))

/-- PLL_LOCK_LOSS (R31): the entry of R484 that the release of the reset writes tells of it, with the die and the trigger. -/
def execPllLockLoss (die : Fin 5) :=
  does (.get fun s =>
    if s.pkg.held then .nop
    else if die.val = 4 then packageReset trigPll
    else dieReset die.val trigPll none)

end Sys2Proof.Machine
end

