-- ==== Sys2Proof/Machine/Power.lean ====
section
/-! DEFINITION. Power states, their entries and exits, the power cap and the temperature (R445–R459). -/

namespace Sys2Proof.Machine

/-! ### Requests (R449, R450) -/

/-- The queue that the cascade enters, where ACOUSTIC exempts it. -/
def State.wakeQ (s : State) (q : Nat) : Bool := s.bit R.PWR_WAKE_SRC_ACOUSTIC && decide (s.reg R.AUD_WAKE_Q_QUEUE = q)

/-- The queues of a die with ENABLE or ACTIVE at 1. -/
def State.liveQ (s : State) (d : Nat) : List Nat :=
  ((s.enabledQ d).map (fun q => 8192 * d + q) ++ ((s.die.queues.filter (fun e => decide (e.1 / 8192 = d) && !e.2.fetched.isEmpty)).map Prod.fst)).mergeSort.dedup

/-- The conditions of R449, for a die in Run. -/
def State.mayEnter (s : State) (d : Nat) : Bool :=
  s.dieUp d && (s.entering d).isNone &&
  s.clauseList.all (fun k => decide (dieOf k.2.core ≠ d)) && s.sch.images.all (fun e => decide (dieOf (e.1 / 4) ≠ d)) &&
  (s.liveQ d).all s.wakeQ &&
  s.die.sems.all (fun e => decide (e.1 / 4096 ≠ d) || e.2.waiters.isEmpty) &&
  s.regs.all (fun e => !(decide (keyId e.1 = R.QUE_SEM_W0_HELD.id) && decide (keyI e.1 = d))) &&
  s.die.migs.all (fun e => decide (e.1 / 16 ≠ d)) &&
  (List.range 16).all (fun n => !s.bit R.DMC_GROUP_SCRUB d n) &&
  (List.range 16).all (fun p => !s.bit R.SEQ_BATCH_CFG_ENABLE 0 p || (s.partCores p).all (fun c => decide (dieOf c ≠ d)))

/-- Every die that the package has brought to Retain exits, and the package's entry is over (R452). -/
def dropPkg : Act :=
  .get fun s => whenA s.pwr.pkg (.seq
    (.put (.pwr fun p => { p with pkg := false, ent := mset none p.ent 4 none, wake := mset false p.wake 4 false }))
    (.seq (setBusy 4 false) (forA ((List.range 4).filter (fun d => decide (s.pwrState d = 3))) wakeDie)))

/-- An entry is refused. -/
def refuseEntry (d target : Nat) : Act :=
  many [
    whenA (decide (d < 4)) (setR R.PWR_DIE_REQ_STATE 0 0 d), raisePwr R.PWR_EVENT_REFUSED 1, logPwr 3 d target 0,
    .put (.pwr fun p => { p with ent := mset none p.ent d none, wake := mset false p.wake d false }), setBusy d false, dropPkg ]

/-- An entry begins: point A follows the tests at once. -/
def beginEntry (d target : Nat) (pkg : Bool) : Act :=
  .get fun s =>
    if s.mayEnter d then .seq (.put (.pwr fun p => { p with ent := mset none p.ent d (some ⟨target, pkg, s.t⟩), wake := mset false p.wake d false })) (setBusy d true)
    else refuseEntry d target

/-- An entry is abandoned at a point (R451). -/
def abandonEntry (d point : Nat) : Act :=
  many [
    .put (.pwr fun p => { p with ent := mset none p.ent d none, wake := mset false p.wake d false }), setBusy d false,
    whenA (decide (d < 4)) (setR R.PWR_DIE_REQ_STATE 0 0 d),
    bump R.PWR_ENTRY_ABORTS_COUNT, raisePwr R.PWR_EVENT_ABORTED 2, logPwr 2 d point 0, dropPkg ]

/-- The word of PWR_DIE_REQ with one field changed. -/
def State.dieReqWord (s : State) (d v : Nat) : Nat :=
  (List.range 4).foldl (fun a k => a + (if k = d then v else s.reg R.PWR_DIE_REQ_STATE 0 k) * 2 ^ (4 * k)) 0

/-- A target is written to a die's field of PWR_DIE_REQ. A die that is not in Run, or that is entering, goes on as it is. -/
def dieTarget (d v : Nat) : Act :=
  .get fun s => .seq (setR R.PWR_DIE_REQ_STATE v 0 d)
    (if v = 0 then wakeDie d
     else if s.reg R.PWR_STATE_DIE 0 d ≠ 0 ∨ (s.entering d).isSome then .nop
     else beginEntry d v false)

def dieReqCmd (port : Port) (d v : Nat) : Act := .get fun s => portCmd port (pwrOff 4) (s.dieReqWord d v) (dieTarget d v)

def execDieCoastRequest (port : Port) (die : BitVec 2) := does (dieReqCmd port die.toNat 2)
def execDieRetainRequest (port : Port) (die : BitVec 2) := does (dieReqCmd port die.toNat 3)
def execDieRunRequest (port : Port) (die : BitVec 2) := does (dieReqCmd port die.toNat 0)

/-! ### Entry (R448, R450–R454, R456) -/

/-- No operation of the die's agents and no access homed on the die is outstanding. -/
def State.quietDie (s : State) (d : Nat) : Bool :=
  s.die.xfers.all (fun e => match e.2 with
    | some v => decide (v.die ≠ d) && (xferCores v).all (fun c => decide (dieOf c ≠ d)) &&
        v.segs.all (fun g => decide (g.st = .ended) || !(s.segHomes v g).contains d)
    | none => true) &&
  s.die.reqs.all (fun r => decide ((if r.isQue then r.obj / 8192 else r.obj / 4096) ≠ d)) && (s.die.invs.all fun v => decide (v.die ≠ d))

/-- An image of `n` bytes goes to always-on SRAM, its CRC-32C in the last four (R455); what it holds stays in State. -/
def writeImage (a n : Nat) : Act :=
  freshV fun v => .put (.aon a n (v % 2 ^ (8 * (n - 4)) + crc32c (bytesOf (n - 4) v) * 2 ^ (8 * (n - 4))))

/-- The image's CRC agrees. -/
def State.imageGood (s : State) (a n : Nat) : Bool := decide (crc32c (bytesOf (n - 4) (memRead s.aon a (n - 4))) = memRead s.aon (a + n - 4) 4)

/-- The package's logging of a state entered. -/
def stateEntered (d st : Nat) : Act := .seq (raisePwr R.PWR_EVENT_STATE_CHANGE 0) (logPwr 1 d st 0)

/-- CORE_CYCLE of a core stops. -/
def stopCyc (c : Nat) : Act := .get fun s => updCore c fun k => { k with cycRun := false, cycHold := s.cyc c }

/-- Steps 3 to 5 of R450. -/
def sleepDie (d target : Nat) : Act :=
  many [
    forA (List.range 16) (codeWriteback d), setR R.DMC_STATUS_SELF_REFRESH 1 d,
    whenA (decide (target = 3)) (.seq (writeImage (0xC00 * d) 0xC00) (.get fun s => .put (.pwr fun p => { p with image := mset none p.image d (some s.t) }))),
    .put (.pwr fun p => { p with ent := mset none p.ent d none }), setBusy d false, setR R.PWR_STATE_DIE target 0 d, stateEntered d target,
    forA ((List.range 16).map (fun k => 16 * d + k)) stopCyc, whenA (decide (target = 3)) (stopCount d) ]

/-- Entries of the trouble log's FIFO go to the ring until it is empty. -/
def drainLog : Act := many (List.replicate 65 (.get fun s => match s.log.fifo with
  | [] => .nop
  | e :: r => .seq
      (.put (.log fun l => { l with
        fifo := r ++ (match l.lost with
          | some (a, n, b) => [⟨a, 4, srcLog, 0xD01, n % 2 ^ 32 + b % 2 ^ 64 * 2 ^ 32⟩]
          | none => []),
        lost := none }))
      (whenA (s.logged (e.code / 256)) (writeEntry e))))

/-- The Hub die's points (R452). -/
def sleepHub : Act :=
  .get fun s =>
    if s.bit R.FAB_CFG_ENABLE || s.bit R.ISP_CTL_EN || s.bit R.INP_CTL_EN then refuseEntry 4 3
    else if mget false s.pwr.wake 4 then abandonEntry 4 1
    else many [
      drainLog, writeImage 0x3000 0x800,
      .get fun s => .put (.pwr fun p => { p with pkg := false, ent := mset none p.ent 4 none, image := mset none p.image 4 (some s.t) }),
      setBusy 4 false, setR R.PWR_STATE_HUB 3, stateEntered 4 3, stopCount 4 ]

/-- The package's entry goes on with the next die that is not in Retain, or with the Hub die. -/
def pkgNext : Act :=
  .get fun s => whenA s.pwr.pkg (match (List.range 4).find? (fun d => decide (s.pwrState d ≠ 3)) with
    | some d => beginEntry d 3 true
    | none => sleepHub)

/-- ENTRY_QUIESCED: step 2 has ended; a wake event found at point B undoes the entry. -/
def execEntryQuiesced (die : BitVec 2) :=
  does (.get fun s =>
    let d := die.toNat
    withA (s.entering d) fun e =>
      if mget false s.pwr.wake d then abandonEntry d 2
      else whenA (s.quietDie d) (.seq (sleepDie d e.target) (whenA e.pkg pkgNext)))

/-- ENTRY_WAIT_TIMEOUT: step 2 has passed 50 µs. -/
def execEntryWaitTimeout (die : BitVec 2) (dt : Nat) :=
  does (after dt (.get fun s =>
    let d := die.toNat
    withA (s.entering d) fun e => whenA (decide (e.since + 50 * usU < s.t)) (refuseEntry d e.target)))

def pkgRetain : Act :=
  .get fun s =>
    whenA (!s.pwr.pkg && decide (s.pwrState 4 = 0)) (many [
      .put (.pwr fun p => { p with pkg := true, ent := mset none p.ent 4 (some ⟨3, true, s.t⟩), wake := mset false p.wake 4 false }),
      setBusy 4 true, pkgNext ])

def execPkgRetainRequest (port : Port) := does (portCmd port (pwrOff 0) 3 pkgRetain)

/-- The package enters Off: the log is drained, key slots are erased, and SYS_PWR_EN goes low (R496, R544). -/
def enterOff (byTrip : Bool) : Act :=
  .get fun s => many [
    drainLog, packageReset trigOff,
    .put (.pwr fun p => { p with off := some s.t, offTrip := byTrip, offWake := false }),
    .put (.pkg fun p => { p with sysPwr := false }), .put (.out (.pin 0 0)) ]

def pkgOff : Act := .seq (stateEntered 4 4) (enterOff false)

def execPkgOffRequest (port : Port) := does (portCmd port (pwrOff 0) 4 pkgOff)

/-! ### Wake events (R453) -/

def execWakePin := does (.get fun s => whenA (s.bit R.PWR_WAKE_SRC_PIN) (wakePkg true))

/-- The Hub die's count, which always-on cycles carry on in Retain: 20 ticks each (R376). -/
def State.hubCount (s : State) : Nat := match mget none s.pwr.image 4 with
  | some t0 => (s.count 4 + 20 * ((s.t - t0) / 60)) % 2 ^ 64
  | none => s.count 4

def execWakeAtTimer (dt : Nat) :=
  does (after dt (.get fun s => whenA (s.bit R.PWR_WAKE_SRC_TIMER && s.bit R.PWR_WAKE_AT_COUNT && decide (s.reg R.PWR_WAKE_AT_COUNT ≤ s.hubCount)) (wakePkg false)))

/-- OFF_TIMER_EXPIRY: the seconds since the entry to Off. -/
def execOffTimerExpiry (dt : Nat) :=
  does (after dt (.get fun s => withA s.pwr.off fun t0 =>
    whenA (s.bit R.PWR_WAKE_SRC_TIMER && s.bit R.PWR_OFF_TIMER_SECONDS && decide (t0 + s.reg R.PWR_OFF_TIMER_SECONDS * 1000 * msU ≤ s.t)) (wakePkg true)))

def execPcieWake := does (.get fun s => whenA s.pwr.off.isNone (wakeDie 4))
def execDieWake (die : BitVec 2) := does (wakeDie die.toNat)

/-- OFF_HOLD_END: SYS_PWR_EN has been low for 10 ms, and a wake event was held (R544). -/
def execOffHoldEnd (dt : Nat) :=
  does (after dt (.get fun s => withA s.pwr.off fun t0 => whenA (s.pwr.offWake && decide (t0 + 10 * msU ≤ s.t)) leaveOff))

/-! ### Exit (R446, R448, R455) -/

/-- CORE_CYCLE resumes from its stopped value rounded up to a multiple of 8. -/
def resumeCyc (c : Nat) : Act := .get fun s => updCore c fun k => { k with cycRun := true, cycBase := (roundUp k.cycHold 8 : Nat) - (s.t : Int) }

/-- A die is in Run again. -/
def wokenDie (d : Nat) : Act :=
  .get fun s => many [
    .put (.die fun x => { x with tlb := mkeep (fun k => decide (k / 2 ^ 44 ≠ d)) x.tlb, nbrQ := mkeep (fun k => decide (k / 16 ≠ d)) x.nbrQ,
                                 activates := mkeep (fun k => decide (k / 16 ≠ d)) x.activates }),
    whenA (decide (s.pwrState d = 3)) (loadCount d), forA ((List.range 16).map (fun k => 16 * d + k)) resumeCyc,
    setR R.DMC_STATUS_SELF_REFRESH 0 d, powerWipe d, stateEntered d 0 ]

/-- WAKE_COMPLETE: the wake time has run. A die whose image is bad is reset. -/
def execWakeComplete (target : Fin 5) (dt : Nat) :=
  let d := target.val
  does (after dt (.get fun s => withA (s.exitOf d) fun t0 =>
    if d = 4 then whenA (decide (t0 + 1500 * usU ≤ s.t)) (many [
      startCount 4 s.hubCount,
      .put (.pwr fun p => { p with exits := mset none p.exits 4 none, image := mset none p.image 4 none }),
      setBusy 4 false, setR R.PWR_STATE_HUB 0, stateEntered 4 0 ])
    else whenA (decide (t0 + (if s.pwrState d = 3 then 1500 * usU else 20 * usU) ≤ s.t) && decide (s.pwrState 4 = 0))
      (if s.pwrState d = 3 && !s.imageGood (0xC00 * d) 0xC00 then many [raisePwr R.PWR_EVENT_IMAGE_ERR 5, logPwr 9 d 0 0, dieReset d trigImage none]
       else wokenDie d)))

/-! ### The power cap (R457, R458) -/

/-- POWER_ESTIMATE: every 10 µs, `w` W; the average is taken over WINDOW_MS. -/
def execPowerEstimate (w : Nat) (dt : Nat) :=
  does (after dt (.get fun s => whenA (!s.pkg.held)
    (let l := (w :: s.pwr.est).take (s.reg R.PWR_CAP_WINDOW_MS * 100)
     .seq (.put (.pwr fun p => { p with est := l })) (setR R.PWR_CAP_STATUS_AVG_W (min 1023 (l.sum / l.length))))))

/-- THROTTLE_ADJUST: every 1 ms the level moves by one against the limit. -/
def execThrottleAdjust (dt : Nat) :=
  does (after dt (.get fun s =>
    let lv := s.reg R.PWR_CAP_STATUS_LEVEL
    let lim := 10 * (if s.bit R.PWR_THERM_HOT then min (s.reg R.PWR_CAP_LIMIT) (s.reg R.PWR_CAP_HOT_LIMIT) else s.reg R.PWR_CAP_LIMIT)
    let n := s.pwr.est.length
    let next := if lim * n < s.pwr.est.sum then min 15 (lv + 1) else if s.pwr.est.sum < (lim - 10) * n then lv - 1 else lv
    whenA (!s.pkg.held && decide (s.pwr.adjAt + msU ≤ s.t)) (many [
      .put (.pwr fun p => { p with adjAt := s.t }),
      whenA (decide (0 < lv)) (bump R.PWR_THROTTLE_MS_COUNT), setR R.PWR_CAP_STATUS_LEVEL next,
      whenA (decide (lv = 0) && decide (0 < next)) (.seq (raisePwr R.PWR_EVENT_THROTTLE 3) (logPwr 4 4 0 next)),
      whenA (decide (0 < lv) && decide (next = 0)) (logPwr 5 4 0 0) ])))

/-- THROTTLE_ALLOWED_PART: cores held at a boundary may start clauses. -/
def execThrottleAllowedPart (die : BitVec 2) :=
  does (.get fun s => whenA (!s.throttled die.toNat) (forA ((List.range 16).map (fun k => 16 * die.toNat + k)) clauseChoice))

end Sys2Proof.Machine
end

