-- ==== Sys2Proof/Machine/Sag.lean ====
section
/-! DEFINITION. The sag save and its record, temperature and HOLD_VIN (R281, R459–R463, R546, R560). -/

namespace Sys2Proof.Machine

/-! ### The save (R460, R461) -/

/-- HEAD as R281 defines it. -/
def State.oldestHead (s : State) (q : Nat) : Nat := match (s.queue q).fetched with
  | d :: _ => d.n
  | [] => s.qf R.QUE_HEAD_HEAD q

/-- The committed set, ascending. -/
def State.committed (s : State) : List Nat := (List.range 4).flatMap s.liveQ

/-- A queue's entry of 24 bytes. -/
def State.sagEntry (s : State) (q : Nat) : Nat :=
  q + (s.qf R.QUE_QCFG_ENABLE q + b2n (s.qf R.QUE_QCFG_ENABLE q = 1 || !(s.queue q).fetched.isEmpty) * 2) * 2 ^ 16 +
    s.qf R.QUE_TAIL_TAIL q * 2 ^ 32 + s.oldestHead q * 2 ^ 64 + s.qf R.QUE_CQ_HEAD_CONSUMED q * 2 ^ 96 + s.qf R.QUE_DONE_COUNT q * 2 ^ 128

/-- The header without MARKER, LOG_HEAD and the CRC, as the trip finds the machine. -/
def State.sagHead (s : State) (thermal : Bool) : Nat :=
  min 4778 s.committed.length * 2 ^ 32 +
    (b2n (decide (4778 < s.committed.length)) + b2n thermal * 2 + b2n (!s.bit R.PWR_SAG_STATUS_HOLD_OK) * 4) * 2 ^ 48 +
    s.count 4 * 2 ^ 64 + s.reg R.TIME_RATE_RATE * 2 ^ 128 + s.reg R.TIME_OFFSET_OFFSET * 2 ^ 192 + timeLayout s.now * 2 ^ 320 +
    s.reg R.LOG_BOOT_BOOT * 2 ^ 480 + (List.range 8).foldl (fun a i => a + s.reg R.FAB_DIGEST_VALUE_BYTES 0 i * 2 ^ (512 + 32 * i)) 0 +
    s.reg R.FAB_DIGEST_EPOCH_EPOCH * 2 ^ 768 + s.reg R.FAB_DIGEST_CTL_DIRTY * 2 ^ 800

/-- A trip starts the save: what is outstanding is abandoned, and everything but the save path and the always-on island goes. -/
def sagStart (thermal : Bool) : Act :=
  .get fun s => many [
    logPwr 7 4 0 (min 4778 s.committed.length),
    .put (.pwr fun p => { p with sag := some {
      since := s.t, head := s.sagHead thermal, entries := (s.committed.take 4778).map s.sagEntry,
      keep := !s.bit R.PWR_SAG_STATUS_LOADED, thermal := thermal } }),
    packageReset trigSag ]

/-- SAG_TRIP: VIN_MON has been below THRESH for some always-on cycles. There is no trip in Off, nor while the package is held in
reset. -/
def execSagTrip (cycles : Nat) :=
  does (.get fun s =>
    whenA (s.bit R.PWR_SAG_CFG_EN && decide (s.reg R.PWR_SAG_CFG_FILTER ≤ cycles) && !s.pkg.held && s.pwr.sag.isNone && s.pwr.off.isNone) (sagStart false))

/-- Where the record lies: its header and its entries (R456). -/
def sagAt : Nat := 0x3800
def sagEntAt : Nat := 0x4000

/-- The bytes that the record's CRC covers: 0x04–0x67 of the header, and the entries. -/
def sagCrc (head : Nat) (entries : List Nat) : Nat := crc32c (bytesOf 100 (head / 2 ^ 32) ++ entries.flatMap (bytesOf 24))

/-- The record is written, MARKER last. -/
def sagWrite (r : SagS) : Act :=
  .get fun s =>
    let head := r.head + s.reg R.LOG_HEAD_COUNT * 2 ^ 448
    many [
      .put (.aon (sagAt + 4) 100 (head / 2 ^ 32)),
      forA (List.zip (List.range r.entries.length) r.entries) (fun e => .put (.aon (sagEntAt + 24 * e.1) 24 e.2)),
      .put (.aon (sagAt + 0x68) 4 (sagCrc head r.entries)), .put (.aon sagAt 4 0x53474152) ]

/-- SAG_SAVE_COMPLETE: the log has drained, the record stands, and the Hub die powers down; after a thermal trip the package is in
Off. -/
def execSagSaveComplete :=
  does (.get fun s => withA s.pwr.sag fun r => many [
    drainLog, whenA (!r.keep) (sagWrite r),
    .put (.pwr fun p => { p with sag := none, tripped := !r.thermal }),
    whenA r.thermal (enterOff true) ])

/-- SAG_RECOVER: VIN_MON has stayed above the threshold for some milliseconds. -/
def execSagRecover (ms : Nat) :=
  does (.get fun s => whenA (s.pwr.tripped && decide (s.reg R.PWR_SAG_CFG_RECOVER_MS ≤ ms))
    (.seq (.put (.pwr fun p => { p with tripped := false })) packageRelease))

/-! ### The record at boot (R462) -/

/-- The record's header and entries. -/
def State.sagHeadNow (s : State) : Nat := memRead s.aon sagAt 0x6C
def State.sagEntries (s : State) : List Nat := (List.range (bits s.sagHeadNow 32 16)).map (fun i => memRead s.aon (sagEntAt + 24 * i) 24)

/-- The record is valid for this boot. -/
def State.sagValid (s : State) : Bool :=
  let h := s.sagHeadNow
  decide (bits h 0 32 = 0x53474152) && decide (bits h 32 16 ≤ 4778) && decide (bits h 832 32 = sagCrc h s.sagEntries) &&
    decide (bits h 480 16 = (s.reg R.LOG_BOOT_BOOT + 2 ^ 16 - 1) % 2 ^ 16)

/-- The queues of the record come back with ENABLE 0 (R281). -/
def sagLoad : Act :=
  .get fun s => .seq
    (whenA s.sagValid
      (let h := s.sagHeadNow
       many [
        setR R.PWR_SAG_STATUS_VALID 1, setR R.PWR_SAG_STATUS_ENTRIES (bits h 32 16), setR R.PWR_SAG_STATUS_Q_OVERFLOW (bits h 48 1),
        setR R.PWR_SAG_STATUS_THERMAL (bits h 49 1), setR R.PWR_SAG_STATUS_HOLD_LOW (bits h 50 1),
        setR R.PWR_SAG_RATE_RATE (bits h 128 40), setR R.PWR_SAG_TIME_TIME (bits h 320 128),
        forA s.sagEntries (fun e =>
          let q := bits e 0 15
          many [setQ R.QUE_TAIL_TAIL q (bits e 32 32), setQ R.QUE_HEAD_HEAD q (bits e 64 32), setQ R.QUE_CQ_HEAD_CONSUMED q (bits e 96 32), setQ R.QUE_DONE_COUNT q (bits e 128 64)]),
        raisePwr R.PWR_EVENT_SAG_RECORD 7, logPwr 8 4 0 (bits h 32 16) ]))
    (setR R.PWR_SAG_STATUS_LOADED 1)

/-! ### Temperature and HOLD_VIN (R459, R546) -/

/-- THERMAL_READ: the readings of CD0–CD3 and the Hub die in °C. -/
def execThermalRead (temps : List Int) (dt : Nat) :=
  does (after dt (.get fun s =>
    let top := temps.foldl max 0
    let hotC : Int := (s.reg R.PWR_THERM_HOT_C : Nat)
    let warm := temps.findIdx? (fun t => decide (hotC ≤ t))
    let overD := (List.range 4).find? (fun d => (List.range 16).any (fun c => s.bit R.DMC_CH_STATUS_OVER_TEMP d c))
    let hot := warm.isSome || overD.isSome
    let die := (warm.or overD).getD 4
    whenA (!s.pkg.held) (many [
      setR R.PWR_THERM_TEMP_C (min 255 top.toNat), setR R.PWR_THERM_HOT (b2n hot),
      whenA (hot && !s.bit R.PWR_THERM_HOT) (.seq (raisePwr R.PWR_EVENT_HOT 4) (logPwr 6 die 0 (ofSigned 16 (temps.getD die 0)))),
      (match temps.findIdx? (fun t => decide (105 ≤ t)) with
       | some d => .seq (logPwr 10 d 0 (ofSigned 16 (temps.getD d 0))) (sagStart true)
       | none => .nop) ])))

def execHoldVinDrop :=
  does (.get fun s => whenA (s.bit R.PWR_SAG_STATUS_HOLD_OK) (.seq (setR R.PWR_SAG_STATUS_HOLD_OK 0) (raisePwr R.PWR_EVENT_HOLD_LOW 6)))

def execHoldVinRecover := does (setR R.PWR_SAG_STATUS_HOLD_OK 1)

end Sys2Proof.Machine
end

