-- ==== Sys2Proof/Machine/Crypto.lean ====
section
/-! DEFINITION. The cryptography the spec names by standard: SHA-256 (R361, R501–R506), ECDSA P-256 (R501, R505) and AES-256 key
unwrap (R494, RFC 3394). Byte strings are lists of bytes. -/

namespace Sys2Proof.Machine

/-- The big-endian byte string of a number, `n` bytes. -/
def beBytes (n v : Nat) : List Nat := (bytesOf n v).reverse
/-- The number a big-endian byte string spells. -/
def beNat (l : List Nat) : Nat := ofBytes l.reverse

/-! ### SHA-256 -/

def rotr32 (k x : Nat) : Nat := x / 2 ^ k + x % 2 ^ k * 2 ^ (32 - k)

/-- The 64 round constants, 32 bits each, the first at the top. -/
def shaK : List Nat :=
  (List.range 4).flatMap (fun r => (List.range 16).map (fun i => bits ([
    0x428a2f9871374491b5c0fbcfe9b5dba53956c25b59f111f1923f82a4ab1c5ed5d807aa9812835b01243185be550c7dc372be5d7480deb1fe9bdc06a7c19bf174,
    0xe49b69c1efbe47860fc19dc6240ca1cc2de92c6f4a7484aa5cb0a9dc76f988da983e5152a831c66db00327c8bf597fc7c6e00bf3d5a7914706ca635114292967,
    0x27b70a852e1b21384d2c6dfc53380d13650a7354766a0abb81c2c92e92722c85a2bfe8a1a81a664bc24b8b70c76c51a3d192e819d6990624f40e3585106aa070,
    0x19a4c1161e376c082748774c34b0bcb5391c0cb34ed8aa4a5b9cca4f682e6ff3748f82ee78a5636f84c878148cc7020890befffaa4506cebbef9a3f7c67178f2].getD r 0)
    (32 * (15 - i)) 32))

/-- The message schedule, newest word first. -/
def shaExpand : Nat → List Nat → List Nat
  | 0, w => w
  | n + 1, w =>
    let x := w.getD 1 0
    let y := w.getD 14 0
    let s1 := rotr32 17 x ^^^ rotr32 19 x ^^^ (x / 2 ^ 10)
    let s0 := rotr32 7 y ^^^ rotr32 18 y ^^^ (y / 2 ^ 3)
    shaExpand n ((s1 + w.getD 6 0 + s0 + w.getD 15 0) % 2 ^ 32 :: w)

/-- One round on the eight working variables. -/
def shaRound (v : List Nat) (kw : Nat × Nat) : List Nat :=
  let a := v.getD 0 0
  let b := v.getD 1 0
  let c := v.getD 2 0
  let e := v.getD 4 0
  let s1 := rotr32 6 e ^^^ rotr32 11 e ^^^ rotr32 25 e
  let ch := (e &&& v.getD 5 0) ^^^ ((2 ^ 32 - 1 - e) &&& v.getD 6 0)
  let t1 := v.getD 7 0 + s1 + ch + kw.1 + kw.2
  let s0 := rotr32 2 a ^^^ rotr32 13 a ^^^ rotr32 22 a
  let mj := (a &&& b) ^^^ (a &&& c) ^^^ (b &&& c)
  [(t1 + s0 + mj) % 2 ^ 32, a, b, c, (v.getD 3 0 + t1) % 2 ^ 32, e, v.getD 5 0, v.getD 6 0]

/-- One block of 64 bytes, as its 16 words. -/
def shaBlock (h : List Nat) (w : List Nat) : List Nat :=
  List.zipWith (fun x y => (x + y) % 2 ^ 32) h ((List.zip shaK (shaExpand 48 w.reverse).reverse).foldl shaRound h)

/-- The big-endian words of a byte string. -/
def shaWords (n : Nat) (l : List Nat) : List Nat := (List.range n).map (fun i => beNat ((l.drop (4 * i)).take 4))

/-- `n` blocks. -/
def shaRun : Nat → List Nat → List Nat → List Nat
  | 0, h, _ => h
  | n + 1, h, l => shaRun n (shaBlock h (shaWords 16 l)) (l.drop 64)

/-- SHA-256: the 32 bytes of the digest. -/
def sha256 (m : List Nat) : List Nat :=
  let z := (119 - m.length % 64) % 64
  let p := m ++ [0x80] ++ List.replicate z 0 ++ beBytes 8 (8 * m.length)
  (shaRun (p.length / 64)
    [0x6a09e667, 0xbb67ae85, 0x3c6ef372, 0xa54ff53a, 0x510e527f, 0x9b05688c, 0x1f83d9ab, 0x5be0cd19] p).flatMap (beBytes 4)

/-! ### ECDSA P-256 -/

def p256p : Nat := 0xffffffff00000001000000000000000000000000ffffffffffffffffffffffff
def p256n : Nat := 0xffffffff00000000ffffffffffffffffbce6faada7179e84f3b9cac2fc632551
def p256b : Nat := 0x5ac635d8aa3a93e7b3ebbd55769886bc651d06b0cc53b0f63bce3c3e27d2604b
def p256g : Nat × Nat :=
  (0x6b17d1f2e12c4247f8bce6e563a440f277037d812deb33a0f4a13945d898c296, 0x4fe342e2fe1a7f9b8ee7eb4a7c0f9e162bce33576b315ececbb6406837bf51f5)

/-- b to the power of the low `k` bits of e, modulo m. -/
def powMod (m : Nat) : Nat → Nat → Nat → Nat
  | 0, _, _ => 1 % m
  | k + 1, b, e => let r := powMod m k (b * b % m) (e / 2); if e % 2 = 1 then r * b % m else r

/-- The inverse modulo a 256-bit prime. -/
def invMod (m x : Nat) : Nat := powMod m 256 x (m - 2)

/-- The sum of two points; none is the point at infinity. -/
def ecAdd : Option (Nat × Nat) → Option (Nat × Nat) → Option (Nat × Nat)
  | none, q => q
  | q, none => q
  | some (x1, y1), some (x2, y2) =>
    let p := p256p
    if x1 = x2 ∧ (y1 + y2) % p = 0 then none
    else
      let l := if x1 = x2 then (3 * x1 * x1 + (p - 3)) * invMod p (2 * y1 % p) % p else (y2 + (p - y1)) * invMod p ((x2 + (p - x1)) % p) % p
      let x3 := (l * l + (p - x1) + (p - x2)) % p
      some (x3, (l * (x1 + (p - x3)) + (p - y1)) % p)

/-- k times a point, by the low `n` bits of k. -/
def ecMul (q : Option (Nat × Nat)) : Nat → Nat → Option (Nat × Nat)
  | 0, _ => none
  | n + 1, k => let h := ecMul q n (k / 2); let d := ecAdd h h; if k % 2 = 1 then ecAdd d q else d

/-- The signature (r, s) over a digest verifies under the key (x, y). -/
def ecdsaOk (key : Nat × Nat) (digest : List Nat) (r s : Nat) : Bool :=
  let p := p256p
  let n := p256n
  let w := invMod n s
  decide (key.1 < p) && decide (key.2 < p) && decide (key.2 * key.2 % p = (key.1 * key.1 % p * key.1 + (p - 3) * key.1 + p256b) % p) &&
  decide (0 < r) && decide (r < n) && decide (0 < s) && decide (s < n) &&
  (match ecAdd (ecMul (some p256g) 256 (beNat digest * w % n)) (ecMul (some key) 256 (r * w % n)) with
   | some (x, _) => decide (x % n = r)
   | none => false)

/-! ### AES-256 and key wrap -/

/-- The product in GF(2⁸), by the low `k` bits of b. -/
def gmul : Nat → Nat → Nat → Nat
  | 0, _, _ => 0
  | k + 1, a, b =>
    let d := if 128 ≤ a then (2 * a) ^^^ 0x11B else 2 * a
    (if b % 2 = 1 then a else 0) ^^^ gmul k d (b / 2)

/-- a to the power 254: the inverse, and 0 for 0. -/
def ginv (a : Nat) : Nat := (List.range 6).foldl (fun r _ => gmul 8 (gmul 8 r r) a) a |> fun r => gmul 8 r r

def rotl8 (k x : Nat) : Nat := x * 2 ^ k % 256 + x / 2 ^ (8 - k)

def sbox (a : Nat) : Nat := let b := ginv a; b ^^^ rotl8 1 b ^^^ rotl8 2 b ^^^ rotl8 3 b ^^^ rotl8 4 b ^^^ 0x63
def invSbox (a : Nat) : Nat := ginv (rotl8 1 a ^^^ rotl8 3 a ^^^ rotl8 6 a ^^^ 5)

/-- The 60 words of the key schedule, newest first. -/
def aesExpand : Nat → Nat → Nat → List (List Nat) → List (List Nat)
  | 0, _, _, w => w
  | n + 1, i, rc, w =>
    let t := w.getD 0 []
    let u := if i % 8 = 0 then (match (t.drop 1 ++ t.take 1).map sbox with
        | a :: r => (a ^^^ rc) :: r
        | [] => [])
      else if i % 8 = 4 then t.map sbox else t
    aesExpand n (i + 1) (if i % 8 = 0 then gmul 8 rc 2 else rc) (List.zipWith (· ^^^ ·) (w.getD 7 []) u :: w)

/-- The 15 round keys, 16 bytes each. -/
def aesKeys (key : List Nat) : List (List Nat) :=
  let w := (aesExpand 52 8 1 ((List.range 8).map (fun i => (key.drop (4 * i)).take 4)).reverse).reverse
  (List.range 15).map (fun r => ((w.drop (4 * r)).take 4).flatten)

def invMix (c : List Nat) : List Nat :=
  (List.range 4).map (fun i => gmul 8 (c.getD i 0) 14 ^^^ gmul 8 (c.getD ((i + 1) % 4) 0) 11 ^^^ gmul 8 (c.getD ((i + 2) % 4) 0) 13 ^^^ gmul 8 (c.getD ((i + 3) % 4) 0) 9)

/-- Inverse row shift and inverse S-box on a state held column by column. -/
def invShiftSub (b : List Nat) : List Nat := (List.range 16).map (fun i => invSbox (b.getD ((i + 16 - 4 * (i % 4)) % 16) 0))

/-- The inverse cipher on one block. -/
def aesDec (keys : List (List Nat)) (b : List Nat) : List Nat :=
  let x := List.zipWith (· ^^^ ·) b (keys.getD 14 [])
  let y := (List.range 13).foldl (fun st j =>
    let t := List.zipWith (· ^^^ ·) (invShiftSub st) (keys.getD (13 - j) [])
    (List.range 4).flatMap (fun c => invMix ((t.drop (4 * c)).take 4))) x
  List.zipWith (· ^^^ ·) (invShiftSub y) (keys.getD 0 [])

/-- The key that 40 wrapped bytes hold; none where the integrity check fails. -/
def keyUnwrap (kek wrapped : List Nat) : Option (List Nat) :=
  let ks := aesKeys kek
  let c := (List.range 5).map (fun i => (wrapped.drop (8 * i)).take 8)
  let r := (List.range 24).foldl (fun (st : List Nat × List (List Nat)) q =>
    let t := 24 - q
    let i := (t - 1) % 4
    let d := aesDec ks (List.zipWith (· ^^^ ·) st.1 (beBytes 8 t) ++ st.2.getD i [])
    (d.take 8, lset st.2 i (d.drop 8))) (c.getD 0 [], c.drop 1)
  if r.1 = List.replicate 8 0xA6 then some r.2.flatten else none

end Sys2Proof.Machine
end

