-- ==== Sys2Proof/Machine/Recovery.lean ====
section
/-! DEFINITION. Hang detection and the recovery of a core (R467–R477, R485). -/

namespace Sys2Proof.Machine

/-! ### Stalls (R468) -/

/-- A transfer of the clause on a core waits for a migration, for one of the limits of R274 and R350, or, under FENCE or CEND,
for an access that is under way. -/
def State.busyXfer (s : State) (v : Xfer) (fencing : Bool) : Bool :=
  v.susp.isSome ||
  (decide (v.place ≠ 0) && decide (v.k < v.segCount) && (decide (4096 ≤ s.ops v.die none) || decide (s.reg R.QUE_PART_OPS_LIMIT v.die v.part ≤ s.ops v.die (some v.part)))) ||
  [s.sidePeer v v.src (v.segAt v.k).1 false, s.sidePeer v v.dst (v.segAt v.k).1 true].any (fun o => match o with
    | some p => decide (s.peerGate v.part p = .wait)
    | none => false) ||
  (fencing && v.segs.any (fun g => decide (g.st ≠ .ended)))

/-- The core has an accountable wait. -/
def State.accountable (s : State) (c : Nat) : Bool :=
  let m := s.core c
  let fencing := match m.wait with | .fence _ => true | .cend _ => true | _ => false
  (s.firstBlk c).isSome || s.bit R.CORE_SEMWAIT_W0_VALID c ||
  s.die.xfers.any (fun e => match e.2 with
    | some v => v.ofClause m.clause && s.busyXfer v fencing
    | none => false)

/-- The condition of R468 holds now. -/
def State.stalled (s : State) (c : Nat) : Bool :=
  let m := s.core c
  s.bit R.HUB_RCV_CTL_STALL_EN && s.dieUp (dieOf c) && !s.inReset 1 c && m.inClause && !s.bit R.CORE_STATUS_SCRUB c && (mget none s.sch.kicks c).isNone &&
  !s.accountable c && decide (max m.prog (m.lockT.getD 0) + s.reg R.HUB_RCV_CFG_STALL ≤ s.coreTick c)

/-- Issue stops, and what the control engine waits for is withdrawn. -/
def haltCore (c : Nat) : Act := .seq (withdraw c) (updCore c fun m => { m with halted := true, wait := .none, dl := none })

/-- The clauses suspended on a core since its last clean boundary, the most recent first (R472). -/
def State.suspects (s : State) (c : Nat) : List Nat :=
  let l := s.clauseList.filter (fun k => decide (k.2.core = c) && k.2.sus && decide ((mget SlotS.none s.sch.slots c).clean < k.2.susAt))
  ((l.mergeSort (fun a b => decide (b.2.susAt ≤ a.2.susAt))).map Prod.fst).take 4

/-- A stall is declared: probes are made where R476 allows them, else the running clause ends. -/
def beginRecovery (c : Nat) : Act :=
  .get fun s => withA (s.running c) fun k =>
    let id := (s.core c).clause
    let l := s.suspects c
    .seq (declareHang 1 c id)
      (if !bitOf (s.reg R.HUB_RCV_PART_REPLAY_EN) k.part || !k.streams.isEmpty then endClause id stClauseFault 0 0
       else many [
        sliceStop id, haltCore c,
        .put (.sch fun d => { d with recs := mset none d.recs c (some
          { cands := id :: l, wasSus := false :: l.map (fun _ => true), outc := List.replicate (l.length + 1) 0, cur := 0, probing := false, since := s.coreTick c,
            cleared := false, first := true }) }) ])

/-- STALL_DETECT: in a probe it is the outcome GUILTY. -/
def execStallDetect (core : BitVec 6) (dt : Nat) :=
  does (after dt (.get fun s =>
    let c := core.toNat
    whenA (s.stalled c) (match mget none s.sch.recs c with
      | none => beginRecovery c
      | some r => whenA r.probing (.seq (haltCore c) (noteOutcome c 1)))))

/-! ### Clears (R473) -/

/-- What the clear of a core does for the candidate it is at. -/
def clearCore (c id : Nat) (sus : Bool) : Act :=
  many [
    withdraw c,
    .get fun s => forA (s.die.xfers.map Prod.fst) (fun x => .get fun s => withA (s.xfer x) fun v => whenA (v.ofClause id && !s.imaged x) (cancelXfer x)),
    updCore c (fun m => { m with
      inClause := false, clause := 0, halted := false, wait := .none, dl := none, held := [], mq := [], vq := [], cq := [], fbuf := [], lastRow := none,
      own := mkeep (fun o => o = 5 || o = 6) m.own, claim := m.claim.filter (fun e => decide (8 < e.2)) }),
    .get fun s => forA ((s.die.sems.filter (fun e => s.smf R.QUE_SEM_W0_HELD e.1 = 1 && s.smf R.QUE_SEM_W0_SUSPENDED e.1 = 0 && decide (e.2.clause = id))).map Prod.fst) releaseLock,
    .get fun s => withA (s.clause id) fun k => .seq (forA k.streams (fun n => .get fun s => many [
        whenA (s.strBit R.SEQ_STREAM_TABLE_RESIDENT n && s.strBit R.SEQ_STREAM_TABLE_DIRTY n) (setR R.SEQ_STREAM_TABLE_STALE 1 0 n),
        setR R.SEQ_STREAM_TABLE_RESIDENT 0 0 n, setR R.SEQ_STREAM_TABLE_DIRTY 0 0 n]))
      (updClause id fun k => { k with st := if sus then .suspended else .waiting }) ]

/-- CORE_CLEAR. -/
def execCoreClear (core : BitVec 6) :=
  does (.get fun s =>
    let c := core.toNat
    withA (mget none s.sch.recs c) fun r => whenA (!r.probing && !r.cleared) (.seq
      (clearCore c (r.cands.getD r.cur 0) (r.wasSus.getD r.cur false))
      (.put (.sch fun d => { d with recs := mset none d.recs c (some { r with cleared := true }) }))))

/-- A probe of a candidate begins (R474). -/
def beginProbe (c i : Nat) (r : RecS) : Act :=
  .get fun s => withA ((r.cands[i]?).bind (fun id => (s.clause id).map (fun k => (id, k)))) fun e => .seq
    (.put (.sch fun d => { d with recs := mset none d.recs c (some { r with cur := i, probing := true, since := s.coreTick c, cleared := false, first := false }) }))
    (chooseFresh e.1 e.2)

/-- What a candidate's outcome comes to (R475). -/
def settle (c id o : Nat) (sus : Bool) : Act :=
  .get fun s => match o with
    | 1 => many [endClause id stClauseFault 0 0, bump R.HUB_RCV_GUILTY_COUNT, raiseRcv R.HUB_RCV_EVENT_GUILTY 2]
    | 3 => .seq (endClause id 0 0 0)
        (whenA (!sus) (.put (.sch fun d => { d with slots := mupd SlotS.none d.slots c fun o => { o with clean := s.coreTick c } })))
    | 4 => whenA (!sus) (updClause id fun k => { k with first := true })
    | _ => .nop

/-- The recovery ends. -/
def endRecovery (c : Nat) (r : RecS) : Act :=
  let l := List.zip r.cands (List.zip r.outc r.wasSus)
  many [
    .put (.sch fun d => { d with recs := mset none d.recs c none }),
    forA l (fun e => settle c e.1 e.2.1 e.2.2),
    whenA (!r.outc.any (fun o => decide (o = 1) || decide (o = 2))) (.seq (bump R.HUB_RCV_UNREPRO_COUNT) (raiseRcv R.HUB_RCV_EVENT_NOT_REPRODUCED 3)),
    settleClasses, forA r.cands lateFaults ]

/-- CLEAR_DONE: the cleared work's transfers have ended; the next candidate that is still there is probed, or the recovery ends. -/
def execClearDone (core : BitVec 6) :=
  does (.get fun s =>
    let c := core.toNat
    withA (mget none s.sch.recs c) fun r =>
      let id := r.cands.getD r.cur 0
      let busy := s.die.xfers.any (fun e => match e.2 with
        | some v => v.ofClause id && !s.imaged e.1
        | none => false)
      whenA (!r.probing && r.cleared && !busy)
        (match findUp (fun i => ((r.cands[i]?).bind s.clause).isSome) (if r.first then 0 else r.cur + 1) 5 with
         | some i => beginProbe c i r
         | none => endRecovery c r))

/-- PROBE_TIMEOUT: PROBE ticks without a stall, an exception or an end. -/
def execProbeTimeout (core : BitVec 6) (dt : Nat) :=
  does (after dt (.get fun s =>
    let c := core.toNat
    withA (mget none s.sch.recs c) fun r => whenA (r.probing && decide (r.since + s.reg R.HUB_RCV_CFG_PROBE ≤ s.coreTick c))
      (.seq (haltCore c) (noteOutcome c 4))))

/-! ### Escalation (R477, R498) -/

/-- An escalation to a reset of a core (1) or of a die (2). -/
def escalate (dom idx : Nat) : Act := many [bump R.HUB_RCV_ESCALATE_COUNT, raiseRcv R.HUB_RCV_EVENT_ESCALATED 4, logRcv 4 0 idx dom 0 0 0]

/-- CLEAR_TIMEOUT: a clear that has not ended in 5 µs. -/
def execClearTimeout (core : BitVec 6) (dt : Nat) :=
  does (after dt (.get fun s =>
    let c := core.toNat
    withA (mget none s.sch.recs c) fun r => whenA (!r.probing && decide (r.since + 2500 ≤ s.coreTick c))
      (.seq (escalate 1 c) (coreReset c trigEscalate))))

/-- CORE_RESET_TIMEOUT: a core reset that has not ended in 10 µs. -/
def execCoreResetTimeout (core : BitVec 6) (dt : Nat) :=
  does (after dt (.get fun s =>
    let c := core.toNat
    let k := rstKey 1 c
    whenA (!s.pkg.held && decide (mget 0 s.pkg.rst k ≠ 0) && decide (mget 0 s.pkg.since k + 10 * usU ≤ s.t))
      (many [setR R.HUB_RESET_STATUS_FAILED 1, escalate 2 (dieOf c), dieReset (dieOf c) trigEscalate none])))

/-! ### Wait-for cycles (R469–R471) -/

/-- The slot a blocked access waits at. -/
def Blk.slot (b : Blk) : Nat := b.ref.row / 8

/-- The other scratchpad side of a transfer of core `c`, where that side is blocked. -/
def State.blockedFar (s : State) (c x : Nat) : List Nat :=
  match s.xfer x with
  | none => []
  | some v => match v.src, v.dst with
    | .spad a _, .spad b _ =>
      let far := if b = c then a else b
      let o := if b = c then 6 else 5
      if (match (mget OwnS.idle (s.core far).own o).blk with | some k => decide (k.ref.opnd = x) | none => false) then [far] else []
    | _, _ => []

/-- A transfer claims a slot of the core, or will write it. -/
def State.xferFills (s : State) (c x slot : Nat) : Bool :=
  decide (mget 0 (s.core c).claim slot = claimXfer x) ||
  (match s.xfer x with
   | some v => (match v.dst with
     | .spad d r => decide (d = c) && decide (r / 8 ≤ slot) && decide (slot * 8 < r + cdiv v.len 512)
     | _ => false)
   | none => false)

/-- Some engine of the core uses a slot, or has claimed it. -/
def State.engineHas (s : State) (c slot : Nat) : Bool :=
  [0, 1, 2, 3, 4, 7].any (fun k => decide (mget 0 (s.core c).claim slot = claimOwner k) || (mget OwnS.idle (s.core c).own k).use.any (fun u => decide (u % 1024 = slot)))

/-- The waits of a core with a record: each with its start and its edges. -/
def State.waitsOf (s : State) (c : Nat) : List (Nat × List Nat) :=
  let m := s.core c
  (match m.wait with
   | .sem 1 h _ _ st => [(st, if s.smf R.QUE_SEM_W0_HELD h = 1 ∧ s.smf R.QUE_SEM_W0_SUSPENDED h = 0 then [s.smf R.QUE_SEM_W0_HOLDER h] else [])]
   | .sem 4 _ _ _ st => [(st, [])]
   | .que 1 _ _ _ _ st => [(st, [])]
   | _ => []) ++
  (List.range 8).filterMap (fun k => (mget OwnS.idle m.own k).blk.map (fun b =>
    (b.start,
     if k = 5 ∨ k = 6 then (if s.engineHas c b.slot then [c] else [])
     else (m.port.filter (fun x => s.xferFills c x b.slot)).flatMap (s.blockedFar c))))

/-- The cores left when every core is taken out that has no wait, or a wait with no edge or with an edge to one taken out. -/
def prune (w : Nat → List (Nat × List Nat)) : Nat → List Nat → List Nat
  | 0, l => l
  | n + 1, l => prune w n (l.filter (fun c => !(w c).isEmpty && (w c).all (fun e => !e.2.isEmpty && e.2.all l.contains)))

/-- The cores an edge leads to, and so on. -/
def closure (w : Nat → List (Nat × List Nat)) : Nat → List Nat → List Nat
  | 0, l => l
  | n + 1, l => closure w n ((List.range 64).filter (fun d => l.contains d || l.any (fun c => (w c).any (fun e => e.2.contains d))))

/-- The cycles: the sets from each of whose cores every other one is reached. -/
def State.cycles (s : State) : List (List Nat) :=
  let w := s.waitsOf
  let l := prune w 64 ((List.range 64).filter (fun c => !s.inRecovery c))
  let reach := fun c => closure w 64 [c]
  ((l.map reach).eraseDups).filter (fun r => r.all (fun d => decide (reach d = r)))

/-- The victim of a cycle: the lowest class, then the latest stamp, then the highest core (R471). -/
def State.victimOf (s : State) (l : List Nat) : Option (Nat × ClauseS) :=
  bestBy (fun a b => decide (a.2.eclass < b.2.eclass) || (decide (a.2.eclass = b.2.eclass) && (decide (b.2.accept < a.2.accept) ||
      (decide (a.2.accept = b.2.accept) && decide (b.1 < a.1)))))
    (l.filterMap (fun c => (s.running c).map (fun k => (c, k))))

/-- A cycle is declared, and its victim ends. -/
def breakCycle (l : List Nat) : Act :=
  .get fun s => withA (s.victimOf l) fun v =>
    let id := (s.core v.1).clause
    many [
      declareHang 2 v.1 id, logRcv 3 v.2.ctx v.1 2 0 v.2.queue v.2.n, endClause id stClauseFault 0 0,
      bump R.HUB_RCV_GUILTY_COUNT, raiseRcv R.HUB_RCV_EVENT_GUILTY 2 ]

/-- WAIT_FOR_SCAN: the scan of every 5 µs. A set that has been found, with the same starts, for CONFIRM ticks is a cycle. -/
def execWaitForScan (dt : Nat) :=
  does (after dt (.get fun s =>
    let now := s.count 4
    whenA (s.bit R.HUB_RCV_CTL_CYCLE_EN && s.ready && decide (s.sch.scan.at_ + 2500 ≤ now))
      (let found := s.cycles.map (fun l =>
        let starts := l.flatMap (fun c => (s.waitsOf c).map Prod.fst)
        match s.sch.scan.sets.find? (fun e => decide (e.1 = l) && decide (e.2.2 = starts)) with
        | some e => e
        | none => (l, now, starts))
       let ripe := found.filter (fun e => decide (e.2.1 + s.reg R.HUB_RCV_CYCLE_CONFIRM ≤ now))
       .seq (.put (.sch fun d => { d with scan := ⟨now, found.filter (fun e => !ripe.contains e)⟩ }))
        (forA ripe (fun e => breakCycle e.1)))))

/-! ### Watchdogs (R478) -/

/-- Work is pending in a Hub block. -/
def State.hubWork (s : State) (b : Nat) : Bool :=
  match b with
  | 0 => !s.isp.buf.isEmpty || (List.range 8).any (fun k => (s.cam k).frame.isSome || (s.cam k).sets.any (fun p => !p.ready))
  | 1 => decide (s.reg R.AUD_WAKE_STATE_STATE ≠ 0)
  | 2 => (List.range 16).any (fun k => s.pipeOn k && !(s.pipe k).buf.isEmpty)
  | 3 => s.sch.xport.isSome || (List.range 16).any (fun p => !(s.batch p).list.isEmpty || !(s.batch p).reqs.isEmpty)
  | 4 => !s.fab.pend.isEmpty || (List.range 6).any (fun m => !(s.fport m).wait.isEmpty || !(s.fport m).unacked.isEmpty)
  | _ => decide (s.host.ind ≠ 0)

/-- BLOCK_WATCHDOG: `dt` without progress. -/
def execBlockWatchdog (block : BitVec 6) (dt : Nat) :=
  does (after dt (.get fun s =>
    let b := block.toNat
    whenA (decide (b < 6) && !s.pkg.held && s.hubWork b && decide (msU ≤ dt)) (hubReset b trigWatchdog)))

end Sys2Proof.Machine
end

