-- ==== Sys2Proof/Machine/Security.lean ====
section
/-! DEFINITION. Partitions, ways, key slots, kills, scrubs and debug sessions (R70, R488–R507). -/

namespace Sys2Proof.Machine

/-! ### Scrubs (R70, R498) -/

/-- A core is to be scrubbed; it joins the partition it was to join, or the one given. -/
def oweScrub (join : Option Nat) (c : Nat) : Act :=
  .put (.sec fun x => { x with scrubs := mset none x.scrubs c (some ⟨none, join.or ((mget none x.scrubs c).bind (·.join))⟩) })

/-- Register fields that a scrub clears. -/
def scrubIds : List Nat :=
  ([R.CORE_ARITH_FLAGS_NAN_IN, R.CORE_ARITH_FLAGS_INVALID, R.CORE_ARITH_FLAGS_OVERFLOW, R.CORE_ARITH_FLAGS_UNDERFLOW, R.CORE_ARITH_FLAGS_ACC_SAT,
    R.CORE_ARITH_FLAGS_SCALE_NAN, R.CORE_SR_SEED_SEED, R.CORE_SR_CTR_COUNT, R.CORE_STAT_W0_ABSMAX, R.CORE_STAT_W1_SUM,
    R.CORE_WAIT_W0_VALID, R.CORE_WAIT_W0_MODE, R.CORE_WAIT_W0_WANT, R.CORE_WAIT_W0_SLOT, R.CORE_WAIT_W1_START] ++
   [R.CORE_SEMWAIT_W0_VALID, R.CORE_SEMWAIT_W0_KIND, R.CORE_SEMWAIT_W0_OBJECT, R.CORE_SEMWAIT_W1_START,
    R.CORE_FAULT_CODE_CODE, R.CORE_FAULT_CODE_VALID, R.CORE_FAULT_CODE_DETAIL, R.CORE_FAULT_PC_PC, R.CORE_FAULT_INSN_WORD]).map Fld.id

/-- What a scrub clears of a core. -/
def scrubCore (c : Nat) : Act :=
  many [
    updCore c (fun m => { CoreS.reset with
      port := m.port, opSeq := m.opSeq, lastCyc := m.lastCyc, lockT := m.lockT, prog := m.prog, cycRun := m.cycRun, cycBase := m.cycBase, cycHold := m.cycHold }),
    .put (.spadKeep fun k => decide (k / 8192 ≠ c)), .put (.accKeep fun k => decide (k / 1024 ≠ c)),
    .put (.regsKeep fun k => !(scrubIds.contains (keyId k) && decide (keyI k = c))) ]

/-- The scrub that a core owes may start: nothing runs there and no issued segment is in flight. -/
def State.mayScrub (s : State) (c : Nat) : Bool :=
  s.dieUp (dieOf c) && !s.inReset 1 c && !s.coreTaken c && !s.inRecovery c &&
  s.die.xfers.all (fun e => match e.2 with
    | some v => !(xferCores v).contains c || v.segs.all (fun g => decide (g.st = .ended))
    | none => true)

/-- SCRUB_START: from here on no agent sees the old contents. -/
def execScrubStart (core : BitVec 6) :=
  does (.get fun s =>
    let c := core.toNat
    withA (mget none s.sec.scrubs c) fun x => whenA (x.since.isNone && s.mayScrub c) (many [
      .put (.sec fun y => { y with scrubs := mset none y.scrubs c (some ⟨some s.t, x.join⟩) }),
      setR R.CORE_STATUS_SCRUB 1 c, scrubCore c ]))

/-- The kill's scrubs have ended: its invalidation begins (R497, step 5). -/
def killCheck : Act :=
  .get fun s => withA s.sec.kill fun k => whenA (!k.inv && k.cores.isEmpty) (.seq
    (.put (.sec fun x => { x with kill := some { k with inv := true } }))
    (.put (.die fun x => { x with invs := x.invs ++ [⟨4, 2, k.ctx, 0, 0⟩] })))

/-- A scrub has ended: the core joins its partition, and a kill goes on. -/
def endScrub (c : Nat) (join : Option Nat) : Act :=
  many [
    .put (.sec fun y => { y with scrubs := mset none y.scrubs c none, kill := y.kill.map (fun k => { k with cores := k.cores.filter (fun d => decide (d ≠ c)) }) }),
    setR R.CORE_STATUS_SCRUB 0 c,
    withA join (fun p => .seq (setR R.CORE_STATUS_PARTITION p c) (setR R.CORE_STATUS_PART_VALID 1 c)), killCheck ]

def execScrubDone (core : BitVec 6) :=
  does (.get fun s => withA (mget none s.sec.scrubs core.toNat) fun x => whenA x.since.isSome (endScrub core.toNat x.join))

/-- SCRUB_TIMEOUT: a scrub that has not ended after 10 µs is escalated; it runs again after the reset. -/
def execScrubTimeout (core : BitVec 6) (dt : Nat) :=
  does (after dt (.get fun s =>
    let c := core.toNat
    withA ((mget none s.sec.scrubs c).bind (·.since)) fun t0 => whenA (decide (t0 + 10 * usU ≤ s.t)) (.seq (escalate 1 c) (coreReset c trigEscalate))))

/-! ### Partitions and ways (R490–R493) -/

/-- A clause runs, is bound or is suspended on a core, or a save slot of it is used. -/
def State.coreBusy (s : State) (c : Nat) : Bool := s.clauseList.any (fun k => decide (k.2.core = c)) || s.sch.images.any (fun e => decide (e.1 / 4 = c))

/-- A debug session with scope CORE or SCAN is open (R504). -/
def State.invasive (s : State) : Bool := s.bit R.SEC_DBG_STATUS_OPEN && decide (1 < s.reg R.SEC_DBG_STATUS_GRANTED)

/-- A write of SEC_PART_p CORES is refused (R491, R499, R504). -/
def State.coresBad (s : State) (p new : Nat) : Bool :=
  let old := s.reg R.SEC_PART_CORES_CORES 0 p
  (List.range 64).any (fun c => (bitOf old c != bitOf new c) &&
    (s.coreBusy c || (List.range 16).any (fun q => decide (q ≠ p) && bitOf (s.reg R.SEC_PART_CORES_CORES 0 q) c) ||
     s.invasive || (match s.sec.kill with | some k => decide (k.part = some p) | none => false)))

/-- SEC_PART_p CORES takes a value. -/
def coresWrite (port : Port) (p new : Nat) : Act :=
  .get fun s =>
    let off := secOff (0x200 + 0x10 * p)
    let old := s.reg R.SEC_PART_CORES_CORES 0 p
    if s.coresBad p new then reserved port off (new % 2 ^ 32)
    else .seq (setR R.SEC_PART_CORES_CORES new 0 p)
      (forA ((List.range 64).filter (fun c => bitOf old c != bitOf new c)) (fun c => many [
        setR R.CORE_STATUS_PART_VALID 0 c,
        .put (.sec fun x => { x with scrubs := mset none x.scrubs c (some ⟨none, if bitOf new c then some p else none⟩) }), logSec 8 c 0 ]))

def execPartitionCoreChange (port : Port) (part : BitVec 4) (cores : BitVec 64) :=
  does (portCmd port (secOff (0x200 + 0x10 * part.toNat)) (cores.toNat % 2 ^ 32) (coresWrite port part.toNat cores.toNat))

/-- HUB_WAY_w takes a value: the way's bytes are zero once the change has ended (R493). -/
def wayWrite (port : Port) (w v : Nat) : Act :=
  .get fun s =>
    if s.bit R.HUB_WAY_BUSY 0 w then ignored port (0x90000 + 4 * w) v
    else if s.reg R.HUB_WAY_MODE 0 w = bits v 0 1 ∧ s.reg R.HUB_WAY_PART 0 w = bits v 1 4 ∧ s.reg R.HUB_WAY_PART_VALID 0 w = bits v 5 1 then .nop
    else many [
      setR R.HUB_WAY_MODE (bits v 0 1) 0 w, setR R.HUB_WAY_PART (bits v 1 4) 0 w, setR R.HUB_WAY_PART_VALID (bits v 5 1) 0 w,
      setR R.HUB_WAY_BUSY 1 0 w, .put (.hubKeep fun a => decide (a / 2 ^ 21 ≠ w)) ]

def execWayChange (port : Port) (w : BitVec 4) (v : BitVec 32) :=
  does (portCmd port (0x90000 + 4 * w.toNat) v.toNat (wayWrite port w.toNat v.toNat))

def execWayClearDone (w : BitVec 4) := does (setR R.HUB_WAY_BUSY 0 0 w.toNat)

/-! ### Key slots (R494–R496) -/

/-- A slot is IN_USE (R495). -/
def State.slotInUse (s : State) (k : Nat) : Bool :=
  (List.range 4).any (fun d => (List.range 16).any (fun n => s.bit R.DMC_GROUP_ENABLE d n && s.bit R.DMC_GROUP_ENC d n &&
    decide (s.reg R.DMC_PART_KEY_SLOT d (s.reg R.DMC_GROUP_PART d n) = k)))

/-- A slot takes a key, an owner and its GEN bit; state 0 is EMPTY. -/
def setSlot (k st owner gen key : Nat) : Act :=
  many [
    setR R.SEC_KEY_SLOT_STATE st 0 k, setR R.SEC_KEY_SLOT_OWNER owner 0 k, setR R.SEC_KEY_SLOT_GEN gen 0 k,
    .put (.sec fun x => { x with keys := mset 0 x.keys k key }) ]

def eraseKeys : Act := forA (List.range 64) (fun k => setSlot k 0 0 0 0)

/-- A key command ends. -/
def keyEnd (slot code : Nat) : Act :=
  many [
    forA (List.range 10) (fun i => setR R.SEC_KEY_DATA_DATA 0 0 i), setR R.SEC_KEY_STATUS_DONE 1, setR R.SEC_KEY_STATUS_CODE code,
    whenA (decide (code ≠ 0)) (logSec 2 slot code) ]

/-- A key command of SEC_KEY_CMD. -/
def keyOp (op slot part : Nat) : Act :=
  .get fun s =>
    let empty := decide (s.reg R.SEC_KEY_SLOT_STATE 0 slot = 0)
    if s.bit R.SEC_DBG_STATUS_OPEN then keyEnd slot 4
    else match op with
    | 1 => if !empty then keyEnd slot 3 else
        (match keyUnwrap (bytesOf 32 Config.provisioningKek) ((List.range 10).flatMap (fun i => bytesOf 4 (s.reg R.SEC_KEY_DATA_DATA 0 i))) with
         | some key => .seq (setSlot slot 1 part 0 (ofBytes key)) (keyEnd slot 0)
         | none => keyEnd slot 1)
    | 2 => if !empty then keyEnd slot 3 else freshV fun v => .seq (setSlot slot 1 part 1 (v % 2 ^ 256)) (keyEnd slot 0)
    | 3 => if s.slotInUse slot then keyEnd slot 2 else .seq (setSlot slot 0 0 0 0) (keyEnd slot 0)
    | _ => .nop

/-- SEC_KEY_CMD is written with a command. -/
def keyWrite (op v : Nat) : Act :=
  many [setR R.SEC_KEY_CMD_SLOT (bits v 2 6), setR R.SEC_KEY_CMD_PART (bits v 8 4), keyOp op (bits v 2 6) (bits v 8 4)]

def keyCmd (port : Port) (op v : Nat) : Act := portCmd port (secOff 4) (setBits v 0 2 op) (keyWrite op v)

def execKeyLoad (port : Port) (v : BitVec 32) := does (keyCmd port 1 v.toNat)
def execKeyGenerate (port : Port) (v : BitVec 32) := does (keyCmd port 2 v.toNat)
def execKeyErase (port : Port) (v : BitVec 32) := does (keyCmd port 3 v.toNat)

/-! ### Kills (R497, R499) -/

/-- Queues that hold anything, of a context. -/
def State.queuesOf (s : State) (ctx : Nat) : List Nat :=
  (((s.regs.filter (fun e => [R.QUE_QCFG_ENABLE.id, R.QUE_TAIL_TAIL.id, R.QUE_HEAD_HEAD.id].contains (keyId e.1))).map (fun e => keyI e.1 * 8192 + keyJ e.1)).dedup).filter
    (fun q => decide (s.qf R.QUE_QCFG_CTX q = ctx))

/-- A partition's batch under a killed context: its sequences retire and ENABLE reads 0. -/
def killBatch (p : Nat) : Act :=
  .get fun s => many [
    forA (s.batch p).list (fun e => retireSeq p e.1 stKilled 5),
    updBatch p (fun b => { b with left := 0, leftOut := [], held := [], late := false, resume := false }),
    setR R.SEQ_BATCH_CFG_ENABLE 0 0 p, setR R.SEQ_STEP_STATUS_STATE 0 0 p, setR R.SEQ_STEP_STATUS_ACTIVE 0 0 p ]

/-- Step 1: what the context can still begin. -/
def killStep1 (ctx : Nat) (part : Option Nat) : Act :=
  .get fun s => many [
    forA ((List.range 64).filter (fun w => s.bit R.FAB_WIN_CTL_OPEN 0 w && decide (s.reg R.FAB_WIN_CTL_CTX 0 w = ctx))) closeWin,
    forA ((List.range 8).filter (fun k => s.bit R.ISP_STRM_CFG_EN 0 k && decide (s.reg R.ISP_STRM_CFG_CTX 0 k = ctx))) camDisable,
    forA ((List.range 16).filter (fun k => s.bit R.INP_PIPE_CFG_EN 0 k && decide (s.reg R.INP_PIPE_CFG_CTX 0 k = ctx))) pipeStop,
    withA part (fun p => whenA (decide (s.reg R.SEQ_BATCH_CFG_CTX 0 p = ctx) && s.bit R.SEQ_BATCH_CFG_ENABLE 0 p) (killBatch p)) ]

/-- Step 2 for one clause; the probe of a candidate stops first (R485). -/
def killClause (id : Nat) : Act := .get fun s => .seq (withA (s.probeCore id) (fun g => noteOutcome g 0)) (endClause id stKilled 0 0)

/-- The cores of a partition, by SEC_PART_p. -/
def State.ownCores (s : State) (part : Option Nat) : List Nat := match part with
  | some p => (List.range 64).filter (fun c => bitOf (s.reg R.SEC_PART_CORES_CORES 0 p) c)
  | none => []

/-- A write of GO: steps 1 to 3 at once, then the scrubs are owed. -/
def killStart (ctx : Nat) : Act :=
  .get fun s =>
    let part := s.ctxPart hubXlt ctx
    let cores := s.ownCores part
    many [
      setR R.SEC_KILL_STATUS_BUSY 1, setR R.SEC_KILL_STATUS_CTX ctx, logSec 3 ctx 0,
      .put (.sec fun x => { x with kill := some ⟨ctx, part, s.t, cores, false⟩ }),
      killStep1 ctx part,
      .get fun s => forA ((s.clauseList.filter (fun k => decide (k.2.ctx = ctx))).map Prod.fst) killClause,
      .get fun s => forA (s.queuesOf ctx) (fun q => cancelQueue q stKilled),
      forA cores (oweScrub none), forA ((List.range 4).filter (fun d => cores.any (fun c => decide (dieOf c = d)))) wakeDie, killCheck ]

/-- SEC_KILL_CMD takes a value; a virtual function names a context of its own partition only. -/
def killWrite (port : Port) (v : Nat) : Act :=
  .get fun s =>
    let ctx := bits v 0 12
    let mine := match port with
      | .vf n => (s.vfPart n.toNat).isSome && decide (s.ctxPart hubXlt ctx = s.vfPart n.toNat)
      | _ => true
    if !mine then logReg port (secOff 0x400) v 2 false
    else .seq (setR R.SEC_KILL_CMD_CTX ctx)
      (whenA (bitOf v 12) (if s.bit R.SEC_KILL_STATUS_BUSY then ignored port (secOff 0x400) v else killStart ctx))

def execKill (port : Port) (v : BitVec 32) := does (portCmd port (secOff 0x400) v.toNat (killWrite port v.toNat))

/-- KILL_WAIT_TIMEOUT: clauses of other contexts that still have a core the kill is to scrub are ended. -/
def execKillWaitTimeout (dt : Nat) :=
  does (after dt (.get fun s => withA s.sec.kill fun k =>
    whenA (decide (k.since + 3 * s.reg R.SEC_KILL_CFG_WAIT ≤ s.t))
      (forA ((s.clauseList.filter (fun c => k.cores.contains c.2.core &&
          (decide (c.2.st = .running) || decide (c.2.st = .chosen) || decide (c.2.st = .loading)))).map Prod.fst)
        (fun id => .seq (setR R.SEC_KILL_STATUS_CUT 1) (endClause id stClauseFault 0 0x32)))))

/-! ### Debug sessions (R503–R507) -/

/-- The word of SEC_DBG_CTL with one command bit. -/
def State.dbgWord (s : State) (k : Nat) : Nat :=
  s.reg R.SEC_DBG_CTL_SCOPE + 2 ^ k + s.reg R.SEC_DBG_CTL_PWD_LEN * 2 ^ 8 + s.reg R.SEC_DBG_CTL_MINUTES * 2 ^ 16

def dbgCmd (port : Port) (k : Nat) (a : Act) : Act := .get fun s => portCmd port (secOff 0x500) (s.dbgWord k) a

/-- A challenge of 64 bytes is made (R505). -/
def dbgChallenge : Act :=
  freshV fun v => .get fun s =>
    let c := 1 + s.reg R.SEC_DBG_CTL_SCOPE * 2 ^ 16 + s.reg R.SEC_DBG_CTL_MINUTES * 60 * 2 ^ 32 + Config.fusedUid % 2 ^ 128 * 2 ^ 64 +
      v % 2 ^ 256 * 2 ^ 192 + (s.sec.chalCtr + 1) % 2 ^ 64 * 2 ^ 448
    .seq (forA (List.range 16) (fun i => setR R.SEC_DBG_CHAL_DATA (bits c (32 * i) 32) 0 i))
      (.put (.sec fun x => { x with chalAt := some s.t, chalCtr := x.chalCtr + 1 }))

def execDebugChallenge (port : Port) := does (dbgCmd port 3 dbgChallenge)

/-- A request ends in refusal. -/
def dbgRefuse (scope code : Nat) : Act :=
  many [setR R.SEC_DBG_STATUS_CODE code, setR R.SEC_DBG_STATUS_DONE 1, bump R.SEC_DBG_FAILS_TOTAL, logSec 6 scope code]

/-- Tenants are present: a core in a partition, or an encrypted group (R504). -/
def State.tenants (s : State) : Bool :=
  (List.range 16).any (fun p => s.bit R.SEC_PART_CORES_CORES 0 p) || (List.range 4).any (fun d => (List.range 16).any (fun n => s.bit R.DMC_GROUP_ENC d n))

/-- A session opens; one that opens cores or scan chains erases every key and scrubs every core first. -/
def dbgGrant (scope minutes : Nat) : Act :=
  .get fun s => many [
    whenA (decide (2 ≤ scope)) (.seq eraseKeys (forA (List.range 64) (oweScrub none))),
    setR R.SEC_DBG_STATUS_OPEN 1, setR R.SEC_DBG_STATUS_GRANTED scope, setR R.SEC_DBG_STATUS_CODE 0, setR R.SEC_DBG_STATUS_DONE 1,
    setR R.SEC_DBG_STATUS_MINUTES_LEFT minutes, .put (.sec fun x => { x with sessAt := s.t }), logSec 5 scope 0 ]

/-- The bytes of the response and of the challenge. -/
def State.dbgResp (s : State) : List Nat := (List.range 34).flatMap (fun i => bytesOf 4 (s.reg R.SEC_DBG_RESP_DATA 0 i))
def State.dbgChal (s : State) : List Nat := (List.range 16).flatMap (fun i => bytesOf 4 (s.reg R.SEC_DBG_CHAL_DATA 0 i))

/-- What is wrong with a submitted response. -/
def State.dbgFail (s : State) : Option Nat :=
  let r := s.dbgResp
  let i := r.getD 0 0
  let scope := s.reg R.SEC_DBG_CHAL_DATA 0 0 / 2 ^ 16
  if s.reg R.SEC_STATUS_LIFE = 0 then some 8
  else if (match s.sec.chalAt with | some t0 => decide (t0 + 600000 * msU < s.t) | none => true) then some 3
  else if 4 ≤ i ∨ bitOf (s.reg R.SEC_STATUS_REVOKED) i = true ∨ sha256 ((r.drop 8).take 64) ≠ bytesOf 32 (Config.fusedKeyHash i) then some 2
  else if !ecdsaOk (beNat ((r.drop 8).take 32), beNat ((r.drop 40).take 32)) (sha256 s.dbgChal) (beNat ((r.drop 72).take 32)) (beNat ((r.drop 104).take 32)) then some 1
  else if bitOf scope 2 && decide (1 < i) then some 4
  else if decide (2 ≤ scope) && s.tenants then some 5
  else none

/-- SUBMIT. -/
def dbgSubmit : Act :=
  .get fun s =>
    let scope := s.reg R.SEC_DBG_CHAL_DATA 0 0 / 2 ^ 16
    match s.dbgFail with
    | some c => dbgRefuse scope c
    | none => dbgGrant scope (s.reg R.SEC_DBG_CHAL_DATA 0 1 / 60)

def execDebugSubmit (port : Port) := does (dbgCmd port 4 dbgSubmit)

/-- PASSWORD: no attempt is taken for 1 s after a failure (R506). -/
def dbgPassword : Act :=
  .get fun s =>
    let scope := s.reg R.SEC_DBG_CTL_SCOPE
    let pwd := ((List.range 16).flatMap (fun i => bytesOf 4 (s.reg R.SEC_DBG_PWD_DATA 0 i))).take (s.reg R.SEC_DBG_CTL_PWD_LEN)
    let n := s.reg R.SEC_DBG_FAILS_RUN + 1
    if s.sec.pwdAt.isSome then .nop
    else .seq
      (if s.reg R.SEC_STATUS_LIFE = 0 then dbgRefuse scope 8
       else if s.bit R.SEC_DBG_STATUS_LOCKOUT then dbgRefuse scope 7
       else if sha256 (bytesOf 16 Config.fusedSalt ++ pwd) ≠ bytesOf 32 Config.fusedPwdHash then many [
         dbgRefuse scope 6, setR R.SEC_DBG_FAILS_RUN (min 8 n), whenA (decide (8 ≤ n)) (setR R.SEC_DBG_STATUS_LOCKOUT 1),
         .put (.sec fun x => { x with pwdAt := some s.t }) ]
       else .seq (setR R.SEC_DBG_FAILS_RUN 0)
         (if bitOf scope 2 then dbgRefuse scope 4
          else if decide (2 ≤ scope) && s.tenants then dbgRefuse scope 5
          else dbgGrant scope (s.reg R.SEC_DBG_CTL_MINUTES)))
      (forA (List.range 16) (fun i => setR R.SEC_DBG_PWD_DATA 0 0 i))

def execDebugPassword (port : Port) := does (dbgCmd port 5 dbgPassword)

/-- A session ends: after one that opened cores or scan chains every core is scrubbed again. -/
def dbgClose : Act :=
  .get fun s => whenA (s.bit R.SEC_DBG_STATUS_OPEN) (many [
    whenA s.invasive (forA (List.range 64) (oweScrub none)),
    logSec 7 (s.reg R.SEC_DBG_STATUS_GRANTED) 0,
    setR R.SEC_DBG_STATUS_OPEN 0, setR R.SEC_DBG_STATUS_GRANTED 0, setR R.SEC_DBG_STATUS_MINUTES_LEFT 0 ])

def execDebugEnd (port : Port) := does (dbgCmd port 6 dbgClose)

/-- Units of time in a minute. -/
def minU : Nat := 60000 * msU

/-- MINUTES_LEFT. -/
def State.minutesLeft (s : State) : Nat := s.reg R.SEC_DBG_STATUS_MINUTES_LEFT - (s.t - s.sec.sessAt) / minU

def execSessionExpiry (dt : Nat) := does (after dt (.get fun s => whenA (decide (s.minutesLeft = 0)) dbgClose))

def execPasswordDelayEnd (dt : Nat) :=
  does (after dt (.get fun s => withA s.sec.pwdAt fun t0 => whenA (decide (t0 + 1000 * msU ≤ s.t)) (.put (.sec fun x => { x with pwdAt := none }))))

end Sys2Proof.Machine
end

