-- ==== Sys2Proof/Machine/Boot.lean ====
section
/-! DEFINITION. Boot and DRAM training (R501, R502, R533–R537). -/

namespace Sys2Proof.Machine

/-! ### Images (R501, R502) -/

/-- Why an image fails: 2 signature, 3 key, 4 rollback (the codes of SEC_STATUS.BOOT). -/
def State.imageFail (s : State) (l : List Nat) (version pkx pky r sg : Nat) : Option Nat :=
  let key := sha256 (beBytes 32 pkx ++ beBytes 32 pky)
  let slots := (List.range 4).filter (fun i => decide (key = bytesOf 32 (Config.fusedKeyHash i)))
  if !ecdsaOk (pkx, pky) (sha256 l) r sg then some 2
  else if slots.isEmpty then some 2
  else if slots.all (fun i => bitOf (s.reg R.SEC_STATUS_REVOKED) i) then some 3
  else if version < s.reg R.SEC_STATUS_ROLLBACK then some 4
  else none

/-- A verified image extends the measurement. -/
def measure (l : List Nat) : Act :=
  .get fun s =>
    let m := (List.range 8).flatMap (fun i => bytesOf 4 (s.reg R.SEC_MEASURE_BYTES 0 i))
    let d := sha256 (m ++ sha256 l)
    forA (List.range 8) (fun i => setR R.SEC_MEASURE_BYTES (ofBytes ((d.drop (4 * i)).take 4)) 0 i)

/-- A failure of the boot is logged. -/
def logBoot : Act := logRcv 5 0 0 4 0xFF 0 0

/-- A boot fails: the compute dies stay in reset. -/
def bootFail (err : Nat) : Act := many [setR R.HUB_BOOT_ERR err, setR R.HUB_BOOT_STAGE 15, logBoot]

/-- An image fails to verify. -/
def imageBad (code : Nat) : Act := many [setR R.SEC_STATUS_BOOT code, logSec 1 0 code, bootFail 1]

/-- An image is verified, measured and run, or the boot fails. -/
def loadImage (l : List Nat) (version pkx pky r sg : Nat) (next : Act) : Act :=
  .get fun s => match s.imageFail l version pkx pky r sg with
  | some c => imageBad c
  | none => many [measure l, setR R.SEC_STATUS_BOOT 1, next]

/-! ### Stages (R533, R535) -/

/-- The links have trained, or failed to. -/
def State.linksTried (s : State) : Bool := (List.range 8).all (fun l => decide (s.linkSt l ≠ 0) || decide (0 < (s.link l).tries))

/-- DRAM: every die has committed, at one rate and with one fit. -/
def dramEnd : Act :=
  .get fun s =>
    let rates := (List.range 4).map (fun d => mget 0 s.host.rates d)
    let fits := (List.range 4).map (fun d => s.reg R.DMC_STATUS_FIT d)
    if rates.any (fun r => decide (r = 0)) then .nop
    else if fits.all (fun f => decide (f = s.reg R.DMC_STATUS_FIT 0) && decide (f ≠ 0)) then
      .seq (setR R.HUB_BOOT_RATE (rates.headD 0)) (setR R.HUB_BOOT_STAGE 5)
    else bootFail 4

/-- RELEASE: the dies leave reset but for those on which a scrub did not end. -/
def releaseEnd (failed : Nat) : Act :=
  .get fun s =>
    let bad := fun (d : Nat) => decide (bits failed (16 * d) 16 ≠ 0)
    let good := (List.range 4).filter (fun d => !bad d)
    many [
      forA good (fun d => .seq (startDie d) (forA ((List.range 16).map (fun k => 16 * d + k)) scrubCore)),
      setR R.HUB_BOOT_DIE_OK (good.foldl (fun a d => a + 2 ^ d) 0), sagLoad, setR R.HUB_BOOT_STAGE 6,
      whenA (decide (failed ≠ 0)) (.seq (setR R.HUB_BOOT_ERR 5) logBoot),
      whenA (decide (failed = 0) && !s.pkg.rst.any (fun e => decide (e.1 / 64 ≠ 2))) (setR R.HUB_RESET_STATUS_BUSY 0) ]

/-- BOOT_STAGE_END. Images come at the end of IMAGE, and during DRAM and RELEASE. -/
def execBootStageEnd (o : BootIn) :=
  does (.get fun s => if s.pkg.held then .nop else
    match s.reg R.HUB_BOOT_STAGE, o with
    | 1, .plain true => setR R.HUB_BOOT_STAGE 2
    | 2, .plain false => imageBad 5
    | 2, .image l v x y r sg => loadImage (l.map BitVec.toNat) v x.toNat y.toNat r.toNat sg.toNat (setR R.HUB_BOOT_STAGE 3)
    | 3, .plain _ => whenA s.linksTried (.seq
        (whenA ((List.range 8).any (fun l => decide (s.linkSt l ≠ 1))) (.seq (setR R.HUB_BOOT_ERR 2) logBoot)) (setR R.HUB_BOOT_STAGE 4))
    | 4, .plain true => dramEnd
    | 4, .plain false => bootFail 3
    | 4, .image l v x y r sg => loadImage (l.map BitVec.toNat) v x.toNat y.toNat r.toNat sg.toNat .nop
    | 5, .image l v x y r sg => loadImage (l.map BitVec.toNat) v x.toNat y.toNat r.toNat sg.toNat .nop
    | 5, .plain _ => releaseEnd 0
    | 5, .release f => releaseEnd f.toNat
    | _, _ => .nop)

/-! ### Training (R536, R537) -/

/-- A field takes the value written, or keeps its own where the encoding is reserved (R9). -/
def rwField (f : Fld) (v i j : Nat) : Act := whenA (f.enc.ok v) (setR f v i j)

def trainOff (d o : Nat) : Nat := dmcOff d (0x600 + o)

/-- DMC_TRAIN_CTL is written with a COMMIT that another die's rate forbids. -/
def State.commitBad (s : State) (d v : Nat) : Bool :=
  let rate := if R.DMC_TRAIN_CTL_RATE.enc.ok (bits v 20 2) then bits v 20 2 else s.reg R.DMC_TRAIN_CTL_RATE d
  bitOf v 23 && (List.range 4).any (fun e => decide (mget 0 s.host.rates e ≠ 0) && decide (mget 0 s.host.rates e ≠ rate))

/-- The RW fields of DMC_TRAIN_CTL, and the one entry for what is reserved in the write. -/
def trainFields (port : Port) (d v : Nat) : Act :=
  .get fun s => many [
    setR R.DMC_TRAIN_CTL_CHMASK (bits v 0 16) d, rwField R.DMC_TRAIN_CTL_OP (bits v 16 4) d 0, rwField R.DMC_TRAIN_CTL_RATE (bits v 20 2) d 0,
    whenA (!R.DMC_TRAIN_CTL_OP.enc.ok (bits v 16 4) || !R.DMC_TRAIN_CTL_RATE.enc.ok (bits v 20 2) || s.commitBad d v)
      (reserved port (trainOff d 0) v) ]

/-- GO: an operation starts. OP 6 moves the PHY, and OP 5 writes over the DRAM. -/
def trainGo (port : Port) (d v : Nat) : Act :=
  .get fun s =>
    if s.bit R.DMC_STATUS_READY d then .nop
    else if s.bit R.DMC_TRAIN_STATUS_BUSY d then ignored port (trainOff d 0) v
    else many [
      setR R.DMC_TRAIN_STATUS_BUSY 1 d,
      whenA (decide (s.reg R.DMC_TRAIN_CTL_OP d = 6)) (.put (.host fun h => { h with phy := mset 0 h.phy d (s.reg R.DMC_TRAIN_CTL_RATE d) })),
      whenA (decide (s.reg R.DMC_TRAIN_CTL_OP d = 5)) (loseDram fun e => decide (e = d)) ]

/-- COMMIT: the densities of the 16 channels are read, 1 for 4 GiB and 2 for 8 GiB. -/
def trainCommit (d v : Nat) (density : List Nat) : Act :=
  .get fun s =>
    let rate := s.reg R.DMC_TRAIN_CTL_RATE d
    let mask := s.reg R.DMC_TRAIN_CTL_CHMASK d
    let fit := density.getD 0 0
    if s.commitBad d v then .nop
    else many [
      .put (.host fun h => { h with rates := mset 0 h.rates d rate }),
      forA (maskBits mask) (fun c => setR R.DMC_CH_STATUS_PRESENT 1 d c),
      whenA (decide (mask = 0xFFFF) && (List.range 16).all (fun c => decide (density.getD c 0 = fit)) && (decide (fit = 1) || decide (fit = 2)))
        (.seq (setR R.DMC_STATUS_READY 1 d) (setR R.DMC_STATUS_FIT fit d)) ]

def trainCmd (port : Port) (d v : Nat) (a : Act) : Act := portCmd port (trainOff d 0) v (.seq (trainFields port d v) a)

/-- The word written with GO and an operation. -/
def goWord (v op : Nat) : Nat := setBits (setBits (setBits v 16 4 op) 22 1 1) 23 1 0
def trainOp (port : Port) (die : BitVec 2) (v : BitVec 32) (op : Nat) : Act :=
  trainCmd port die.toNat (goWord v.toNat op) (trainGo port die.toNat (goWord v.toNat op))

def execTrainZq (port : Port) (die : BitVec 2) (v : BitVec 32) := does (trainOp port die v 1)
def execTrainCa (port : Port) (die : BitVec 2) (v : BitVec 32) := does (trainOp port die v 2)
def execTrainWck2ck (port : Port) (die : BitVec 2) (v : BitVec 32) := does (trainOp port die v 3)
def execTrainReadDq (port : Port) (die : BitVec 2) (v : BitVec 32) := does (trainOp port die v 4)
def execTrainWriteRead (port : Port) (die : BitVec 2) (v : BitVec 32) := does (trainOp port die v 5)
def execTrainSetRate (port : Port) (die : BitVec 2) (v : BitVec 32) := does (trainOp port die v 6)

def execTrainCommit (port : Port) (die : BitVec 2) (v : BitVec 32) (density : List Nat) :=
  let w := setBits (setBits v.toNat 22 1 0) 23 1 1
  does (trainCmd port die.toNat w (trainCommit die.toNat w density))

/-- DMC_TRAIN_SET is written: APPLY puts VALUE in force on a lane (Vref codes end at 127). -/
def trainSet (port : Port) (d v : Nat) : Act :=
  let off := trainOff d 8
  many [
    setR R.DMC_TRAIN_SET_CHANNEL (bits v 0 4) d, rwField R.DMC_TRAIN_SET_LANE (bits v 4 5) d 0, rwField R.DMC_TRAIN_SET_KIND (bits v 9 2) d 0,
    .get fun s =>
      let high := decide (s.reg R.DMC_TRAIN_SET_KIND d = 2) && decide (127 < bits v 11 8)
      .seq (whenA (!high) (setR R.DMC_TRAIN_SET_VALUE (bits v 11 8) d))
        (whenA (high || !R.DMC_TRAIN_SET_LANE.enc.ok (bits v 4 5) || !R.DMC_TRAIN_SET_KIND.enc.ok (bits v 9 2)) (reserved port off v)),
    .get fun s => whenA (bitOf v 19) (.put (.host fun h => { h with
      taps := mset 0 h.taps (((d * 16 + s.reg R.DMC_TRAIN_SET_CHANNEL d) * 32 + s.reg R.DMC_TRAIN_SET_LANE d) * 4 + s.reg R.DMC_TRAIN_SET_KIND d) (s.reg R.DMC_TRAIN_SET_VALUE d + 1) })) ]

def execTrainApply (port : Port) (die : BitVec 2) (v : BitVec 32) :=
  let w := setBits v.toNat 19 1 1
  does (portCmd port (trainOff die.toNat 8) w (trainSet port die.toNat w))

/-- TRAIN_OP_DONE: for each channel its DQ bits and bursts in error. -/
def execTrainOpDone (die : BitVec 2) (errs : List (Nat × Nat)) :=
  let d := die.toNat
  does (.get fun s => whenA (s.bit R.DMC_TRAIN_STATUS_BUSY d)
    (let l := (maskBits (s.reg R.DMC_TRAIN_CTL_CHMASK d)).map (fun c => (c, errs.getD c (0, 0)))
     many [
      setR R.DMC_TRAIN_STATUS_BUSY 0 d, setR R.DMC_TRAIN_STATUS_DONE 1 d,
      forA l (fun e => .seq (setR R.DMC_TRAIN_ERR_BITS e.2.1 d e.1) (setR R.DMC_TRAIN_ERR_COUNT (min 0xFFFF e.2.2) d e.1)),
      whenA (l.any (fun e => decide (e.2.1 % 2 ^ 16 ≠ 0) || decide (e.2.2 ≠ 0))) (setR R.DMC_TRAIN_STATUS_FAIL 1 d) ]))

end Sys2Proof.Machine
end

