-- ==== Sys2Proof/Machine/Chainring.lean ====
section
/-! DEFINITION. What the Chainring links do (R337–R343). -/

namespace Sys2Proof.Machine

/-- The link is trained: it sends and takes frames. -/
def State.linkLive (s : State) (l : Nat) : Bool := decide (s.linkSt l = 1) || decide (s.linkSt l = 2) || decide (s.linkSt l = 4)

/-- CHAINRING_FRAME: a frame arrives at the end its direction leads to. A good one acknowledges frames of the other direction and ends
a retry; a bad one is counted and replayed, and after 16 failed replays the link goes down. -/
def execChainringFrame (link : BitVec 3) (toHub : Bool) (crcOk idle : Bool) (acked : Nat) :=
  does (.get fun s =>
    let l := link.toNat
    if !s.linkLive l then .nop
    else if crcOk then .seq
      (updLink l fun k =>
        let n := if idle then 0 else 1
        { k with
            fails := 0,
            okUp := if toHub then s.t else k.okUp, okDn := if toHub then k.okDn else s.t,
            unackUp := if toHub then min 64 (k.unackUp + n) else k.unackUp - acked,
            unackDn := if toHub then k.unackDn - acked else min 64 (k.unackDn + n) })
      (whenA (decide (s.linkSt l = 2)) (linkState l 1))
    else .seq (bump R.CHR_LINK_BAD_COUNT 1 0 l)
      (if 16 ≤ (s.link l).fails then linkDown l 1
       else .seq (updLink l fun k => { k with fails := k.fails + 1 }) (whenA (decide (s.linkSt l = 1)) (linkState l 2))))

/-- CHAINRING_IDLE_FRAME: a sender with nothing to send for 1 µs sends an idle frame. -/
def execChainringIdleFrame (link : BitVec 3) (toHub : Bool) (dt : Nat) :=
  does (after dt (.get fun s => whenA (s.linkLive link.toNat && !s.parked link.toNat && !s.endReset link.toNat && decide (usU ≤ dt))
    (.put (.out (.chrFrame link.toNat toHub true)))))

/-- CHAINRING_LINK_TIMEOUT: an end has had no valid frame for 2 µs. -/
def execChainringLinkTimeout (link : BitVec 3) (dt : Nat) :=
  does (after dt (.get fun s =>
    let l := link.toNat
    let k := s.link l
    whenA (s.linkLive l && !s.parked l && !s.endReset l && decide (min k.okUp k.okDn + 2 * usU ≤ s.t)) (linkDown l 2)))

/-- QUIESCE_DRAINED: nothing is in flight on the links that carry traffic; routes are set, held requests go on, and a die without a
path is reset (R343). -/
def execQuiesceDrained :=
  does (.get fun s =>
    let quiet := (List.range 8).all (fun l => !s.linkUse l || (decide ((s.link l).unackUp = 0) && decide ((s.link l).unackDn = 0)))
    whenA (s.bit R.CHR_STATUS_QUIESCE && quiet) (.seq (setR R.CHR_STATUS_QUIESCE 0) (forA (s.cutOff s.linkUse) (fun d => dieReset d trigNoPath none))))

/-- CHAINRING_TRAIN_DONE: UP, or RESTORE while the link's traffic takes a detour. -/
def execChainringTrainDone (link : BitVec 3) :=
  does (.get fun s =>
    let l := link.toNat
    whenA (decide (s.linkSt l = 0) && !s.pkg.held)
      (if bitOf (s.reg R.CHR_STATUS_DETOUR) l then .seq (linkState l 4) (updLink l fun k => { k with okUp := s.t, okDn := s.t, since := s.t }) else linkUp l))

/-- CHAINRING_TRAIN_TIMEOUT: 1 ms without passing. -/
def execChainringTrainTimeout (link : BitVec 3) (dt : Nat) :=
  does (after dt (.get fun s =>
    let l := link.toNat
    whenA (decide (s.linkSt l = 0) && !s.pkg.held && decide ((s.link l).since + msU ≤ s.t)) (linkDown l 3)))

/-- RESTORE_COMPLETE: every frame of the detour has been acknowledged at the far end (R340). -/
def execRestoreComplete (link : BitVec 3) := does (.get fun s => whenA (decide (s.linkSt link.toNat = 4)) (linkUp link.toNat))

/-- RETRAIN_TIMER (R341). -/
def execRetrainTimer (link : BitVec 3) (dt : Nat) :=
  does (after dt (.get fun s =>
    let l := link.toNat
    let k := s.link l
    whenA (s.bit R.CHR_CTL_RESTORE_AUTO && decide (s.linkSt l = 3) && !k.bySw && decide (k.since + (if k.tries = 0 then 1 else 100) * msU ≤ s.t))
      (.seq (linkTrain l) (updLink l fun k => { k with tries := k.tries + 1 }))))

/-- The DOWN bit of a link is written: ignored and logged where a compute die would lose its last path (R342). -/
def chrDown (port : Port) (l v : Nat) : Act :=
  .get fun s =>
    if !(s.cutOff (fun k => decide (k ≠ l) && s.linkUse k)).isEmpty then ignored port (chrOff 0) v else linkDown l 4

/-- The RETRAIN bit of a link is written. -/
def chrRetrain (l : Nat) : Act := .get fun s => whenA (decide (s.linkSt l = 3)) (linkTrain l)

/-- The word of CHR_CTL with one command bit. -/
def State.chrWord (s : State) (k : Nat) : Nat := s.reg R.CHR_CTL_RESTORE_AUTO + 2 ^ k

def execChrDown (port : Port) (link : BitVec 3) :=
  does (.get fun s => portCmd port (chrOff 0) (s.chrWord (8 + link.toNat)) (chrDown port link.toNat (s.chrWord (8 + link.toNat))))
def execChrRetrain (port : Port) (link : BitVec 3) :=
  does (.get fun s => portCmd port (chrOff 0) (s.chrWord (16 + link.toNat)) (chrRetrain link.toNat))

end Sys2Proof.Machine
end

