-- ==== Sys2Proof/Machine/RegMap.lean ====
section
/-! DEFINITION. The register window: which block and which register an offset of BAR0 names (R35–R37), and the bytes that the
configuration digest is taken over (R361). -/

namespace Sys2Proof.Machine

/-- The register blocks of the Hub die: base, size and registers (R35). -/
def hubBlocks : List (Nat × Nat × List RegDef) :=
  [ (0, 0x100000, regsHub), (pwrOff 0, 0x100000, regsPwr), (timeOff 0, 0x100000, regsTime), (secOff 0, 0x100000, regsSec),
    (logOff 0, 0x100000, regsLog), (sbpOff 0, 0x100000, regsSbp), (ispOff 0, 0x100000, regsIsp), (audOff 0, 0x100000, regsAud),
    (inpOff 0, 0x100000, regsInp), (fabOff 0, 0x100000, regsFab), (chrOff 0, 0x100000, regsChr), (seqOff 0, 0x1000000, regsSeq) ]

/-- The blocks of a compute die: base in its window, size, instance and registers (R36). -/
def dieBlocks (d : Nat) : List (Nat × Nat × Nat × List RegDef) :=
  (List.range 16).map (fun c => (c * 0x100000, 0x100000, 16 * d + c, regsCore)) ++
    [(0x2000000, 0x800000, d, regsDmc), (0x2800000, 0x800000, d, regsQue), (0x3000000, 0x1000000, d, regsXlt)]

/-- The block an offset lies in: its base, the instance of its fields, and its registers. -/
def blockAt (off : Nat) : Option (Nat × Nat × List RegDef) :=
  match offDie off with
  | some d =>
    let o := off - dieBase d
    ((dieBlocks d).find? (fun b => decide (b.1 ≤ o) && decide (o < b.1 + b.2.1))).map (fun b => (dieBase d + b.1, b.2.2.1, b.2.2.2))
  | none => (hubBlocks.find? (fun b => decide (b.1 ≤ off) && decide (off < b.1 + b.2.1))).map (fun b => (b.1, 0, b.2.2))

/-- The index and the word of a register that an offset of its block names. -/
def RegDef.hit (r : RegDef) (o : Nat) : Option (Nat × Nat) :=
  if o < r.off then none
  else
    let x := if r.count ≤ 1 then 0 else (o - r.off) / r.stride
    let w := (o - r.off - x * r.stride) / 4
    if x < r.count && decide (w < r.words) then some (x, w) else none

/-- A register named by an offset: its first offset in BAR0, its definition, the instance, the index and the word. -/
structure RegAt where
  base : Nat
  r : RegDef
  i : Nat
  x : Nat
  w : Nat
  deriving DecidableEq, Repr

/-- The register an offset names; none where it is unoccupied (R11). -/
def regAt (off : Nat) : Option RegAt :=
  match blockAt off with
  | none => none
  | some (b, i, l) => l.findSome? (fun r => match r.hit (off - b) with
    | some (x, w) => some ⟨b + r.off + x * r.stride, r, i, x, w⟩
    | none => none)

/-- The index of a place's field in register index x. -/
def Place.idx (p : Place) (x : Nat) : Nat := x * p.mul + p.add

/-- The places that have a bit in word w. -/
def RegDef.inWord (r : RegDef) (w : Nat) : List Place := r.places.filter (fun p => decide (p.lo < 32 * w + 32) && decide (32 * w < p.lo + p.f.w))

/-- A register's value from the values of its fields. -/
def RegDef.value (r : RegDef) (x : Nat) (val : Fld → Nat → Nat) : Nat :=
  r.places.foldl (fun a p => a + val p.f (p.idx x) % 2 ^ p.f.w * 2 ^ p.lo) 0

/-! ### The configuration digest (R361) -/

/-- The words of a block's registers that hold a field of the class: offset and value, every other field 0. -/
def State.classWords (s : State) (base i : Nat) (l : List RegDef) : List (Nat × Nat) :=
  (l.filter (fun r => r.places.any (fun p => classIds.contains p.f.id))).flatMap (fun r =>
    (List.range r.count).flatMap (fun x =>
      let v := r.value x (fun f j => if classIds.contains f.id then s.reg f i j else 0)
      (List.range r.words).map (fun w => (base + r.off + x * r.stride + 4 * w, bits v (32 * w) 32))))

/-- Every word of the class in ascending offset. -/
def State.classImage (s : State) : List (Nat × Nat) :=
  let sorted := fun (l : List (Nat × Nat)) => l.mergeSort (fun a b => decide (a.1 ≤ b.1))
  hubBlocks.flatMap (fun b => sorted (s.classWords b.1 0 b.2.2)) ++
    (List.range 4).flatMap (fun d => (dieBlocks d).flatMap (fun b => sorted (s.classWords (dieBase d + b.1) b.2.2.1 b.2.2.2)))

/-- The tables that take part: index, physical address and length. -/
def State.digestTables (s : State) : List (Nat × Nat × Nat) :=
  ((List.range 16).filter (fun t => s.bit R.FAB_DIGEST_TABLE_ADDR_EN 0 t)).map (fun t =>
    (t, s.reg R.FAB_DIGEST_TABLE_ADDR_PA 0 t * 64, s.reg R.FAB_DIGEST_TABLE_LEN_BYTES 0 t))

/-- The bytes the digest is taken over. -/
def State.digestBytes (s : State) : List Nat :=
  s.classImage.flatMap (fun e => bytesOf 4 e.1 ++ bytesOf 4 e.2) ++
    s.digestTables.flatMap (fun t => bytesOf 4 t.2.2 ++ bytesOf t.2.2 (s.dramGet t.2.1 t.2.2))

end Sys2Proof.Machine
end

