-- ==== Sys2Proof/Machine/Digest.lean ====
section
/-! DEFINITION. The configuration digest: its computation and its exchange (R360–R363). -/

namespace Sys2Proof.Machine

/-- A computation starts. -/
def digestStart : Act := .seq (setR R.FAB_DIGEST_CTL_DIRTY 0) (setR R.FAB_DIGEST_CTL_BUSY 1)

/-- DIGEST_COMMIT: software writes COMMIT. -/
def execDigestCommit (port : Port) :=
  does (.get fun s => portCmd port (fabOff 0x40) (s.reg R.FAB_DIGEST_CTL_GROUP + s.reg R.FAB_DIGEST_CTL_AUTO * 2 ^ 16 + 2 ^ 17) digestStart)

/-- DIGEST_SETTLE: with AUTO set, DIRTY has held for SETTLE_MS without a further write of the class. -/
def execDigestSettle (dt : Nat) :=
  does (after dt (.get fun s =>
    whenA (!s.pkg.held && s.bit R.FAB_DIGEST_CTL_AUTO && s.bit R.FAB_DIGEST_CTL_DIRTY && !s.bit R.FAB_DIGEST_CTL_BUSY &&
      decide (s.fab.dirtyAt + s.reg R.FAB_PERIOD_SETTLE_MS * msU ≤ s.t)) digestStart))

/-- The payload of a DIGEST packet: the digest at bytes 0–31, GROUP at 32, DIRTY at 34, EPOCH at 36. -/
def State.digestLoad (s : State) : Nat :=
  (List.range 8).foldl (fun a i => a + s.reg R.FAB_DIGEST_VALUE_BYTES 0 i * 2 ^ (32 * i)) 0 +
    s.reg R.FAB_DIGEST_CTL_GROUP * 2 ^ 256 + s.reg R.FAB_DIGEST_CTL_DIRTY * 2 ^ 272 + s.reg R.FAB_DIGEST_EPOCH_EPOCH * 2 ^ 288

/-- A DIGEST packet goes to every UP peer. -/
def digestSend : Act :=
  .get fun s => forA (s.peers.filter (fun n => bitOf (s.reg R.FAB_PEER_UP_UP) n)) (fun n => sendMgmt 0x21 n 0 s.digestLoad)

/-- DIGEST_DONE: the computation ends. -/
def execDigestDone :=
  does (.get fun s => whenA (s.bit R.FAB_DIGEST_CTL_BUSY)
    (match s.digestTables.findSome? (fun t => (s.badUnit t.2.1 t.2.2).map (fun u => (t, u))) with
     | some (t, _) => many [
         readErrs t.2.1 t.2.2 false 0, setR R.FAB_DIGEST_CTL_BUSY 0, setR R.FAB_DIGEST_CTL_DIRTY 1, .put (.fab fun f => { f with dirtyAt := s.t }),
         logFab 7 0 0 0 0 (s.reg R.FAB_DIGEST_EPOCH_EPOCH) 0 ]
     | none =>
       let h := ofBytes (sha256 s.digestBytes)
       many [
         forA s.digestTables (fun t => readErrs t.2.1 t.2.2 false 0),
         forA (List.range 8) (fun i => setR R.FAB_DIGEST_VALUE_BYTES (bits h (32 * i) 32) 0 i),
         setR R.FAB_DIGEST_EPOCH_EPOCH (s.reg R.FAB_DIGEST_EPOCH_EPOCH + 1), setR R.FAB_DIGEST_CTL_BUSY 0, digestSend ]))

/-- DIGEST_TIMER: every DIGEST_MS. -/
def execDigestTimer (dt : Nat) :=
  does (after dt (.get fun s =>
    whenA (s.bit R.FAB_CFG_ENABLE && decide (s.fab.digAt + s.reg R.FAB_PERIOD_DIGEST_MS * msU ≤ s.t))
      (.seq (.put (.fab fun f => { f with digAt := s.t })) digestSend)))

/-- DIGEST: a peer's digest is compared where the groups agree and neither side is dirty. -/
def execDigest (p : Fin 6) (k : Pkt) (value : BitVec 256) (group : BitVec 16) (dirty : Bool) (epoch : BitVec 32) :=
  let q : PktS := ⟨0x21, k, value.toNat + group.toNat * 2 ^ 256 + b2n dirty * 2 ^ 272 + epoch.toNat * 2 ^ 288, p.val⟩
  does (arrive p.val q (.get fun s =>
    let src := k.src.toNat
    let bad := decide (s.digestLoad % 2 ^ 256 ≠ value.toNat)
    whenA (decide (s.reg R.FAB_DIGEST_CTL_GROUP = group.toNat) && !dirty && !s.bit R.FAB_DIGEST_CTL_DIRTY) (many [
      whenA (bad && !bitOf (s.reg R.FAB_DIGEST_MISMATCH_DIFF) src)
        (.seq (fabEvent 4) (logFab 6 src p.val 0 0 (s.reg R.FAB_DIGEST_EPOCH_EPOCH) epoch.toNat)),
      setBitR R.FAB_DIGEST_MISMATCH_DIFF bad src ])))

end Sys2Proof.Machine
end

