-- ==== Sys2Proof/Machine/Host.lean ====
section
/-! DEFINITION. The host side: functions and their MSI-X tables, the memory aperture of a virtual function, and the site Ethernet
ports (R383–R385, R513–R524). -/

namespace Sys2Proof.Machine

/-! ### Functions (R513, R517, R519) -/

/-- VF_FLR: the MSI-X table of the function is cleared; no message leaves it until it is accessed again. -/
def execVfFlr (v : BitVec 4) :=
  let mine := fun (k : Nat) => decide (k / 2048 ≠ v.toNat + 1)
  does (.put (.host fun h => { h with
    unmask := mkeep mine h.unmask, pend := mkeep mine h.pend, vfOff := mset true h.vfOff v.toNat true }))

/-- PF_RESET: FLR of the physical function (0), hot reset (1) or link down (2). -/
def execPfReset (kind : BitVec 2) := does (.get fun s => whenA (!s.pkg.held && decide (kind ≠ 3)) (packageReset trigPcie))

/-- An access by a virtual function shows that it is enabled. -/
def vfShown (v : Nat) : Act := .put (.host fun h => { h with vfOff := mset true h.vfOff v false })

/-- MSIX_UNMASK: a message that is pending is sent once. -/
def execMsixUnmask (fn : Fin 17) (entry : BitVec 11) :=
  let k := fn.val * 2048 + entry.toNat
  does (.get fun s => whenA (!s.pkg.held) (many [
    whenA (decide (0 < fn.val)) (vfShown (fn.val - 1)),
    whenA (mget false s.host.pend k) (.put (.out (.msix fn.val entry.toNat))),
    .put (.host fun h => { h with unmask := mset false h.unmask k true, pend := mset false h.pend k false }) ]))

/-- PCIE_COMPLETION_TIMEOUT: a migration read of host memory that has waited 50 ms. -/
def execPcieCompletionTimeout (die : BitVec 2) (i : Nat) (dt : Nat) :=
  does (after dt (.get fun s => withA (s.mig die.toNat i) fun m =>
    whenA (!s.isNvme die.toNat m && decide (m.since + 50 * msU ≤ s.t)) (migLost die.toNat i)))

/-! ### The memory aperture (R516) -/

/-- The addresses that the aperture reaches: translated ones, and hub shared memory. -/
def apertureReach (da : Nat) : Bool := decide (da < 2 ^ 47) || (decide (0x800010000000 ≤ da) && decide (da < 0x800012000000))

/-- A write that meets an uncorrectable error has read the units it covers in part (R224, R240). -/
def partErrs (ctx da n : Nat) : Act :=
  .get fun s => match s.translate hubXlt ctx da true none with
    | .dram pa _ _ => forA ((unitsOf pa n).filter (fun u => decide (64 * u < pa) || decide (pa + n < 64 * u + 64))) (fun u => readErrs (64 * u) 64 false ctx)
    | _ => .nop

/-- The fault class of an access through the aperture. A page of KIND 0b10 gives MIG_DISABLED. -/
def State.apertureFault (s : State) (ctx da n : Nat) (isRead : Bool) : Option Nat :=
  if !apertureReach da then some 1
  else
    let t := s.translate hubXlt ctx da false none
    match t with
    | .mig _ _ => some 6
    | .fault 6 _ => some 6
    | _ => if isRead then (match s.daRead hubXlt ctx da n with | .bad c => some c | .ok _ => none) else s.daWriteFault hubXlt ctx da n

def execVfMemoryAccess (v : BitVec 4) (off : BitVec 32) (isRead : Bool) (n : Nat) (x : Nat) :=
  does (.seq (vfShown v.toNat) (.get fun s =>
    let ctx := s.reg R.HUB_VF_MEM_CTX 0 v.toNat
    let da := (s.reg R.HUB_VF_MEM_BASE_ADDR 0 v.toNat * 2 ^ 16 + off.toNat) % 2 ^ 48
    let ret := fun (y : Nat) => whenA isRead (.put (.bus fun b => { b with data := y }))
    if !s.ready || !s.bit R.HUB_VF_MEM_EN 0 v.toNat then ret 0
    else match s.apertureFault ctx da n isRead with
    | some c => .seq (ret 0)
        (if c = 1 ∨ c = 6 then recordFault hubXlt ctx da c none 0 true false (!isRead)
         else if c = 9 then .seq (logEv 4 srcHub 3 9 (da + ctx * 2 ^ 64))
           (if isRead then readAct hubXlt ctx da n 0 true false else partErrs ctx da n)
         else if isRead then readAct hubXlt ctx da n 0 true false
         else daWrite hubXlt ctx da n x 0 true false)
    | none =>
      if isRead then .seq (ret (match s.daRead hubXlt ctx da n with | .ok y => y | .bad _ => 0)) (readAct hubXlt ctx da n 0 true false)
      else daWrite hubXlt ctx da n (x % 2 ^ (8 * n)) 0 true false))

/-! ### Frames (R383, R522) -/

/-- The big-endian field of a frame at a byte. -/
def frameF (l : List Nat) (o n : Nat) : Nat := beNat ((l.drop o).take n)
/-- The frame with that field replaced. -/
def setFrameF (l : List Nat) (o n v : Nat) : List Nat := l.take o ++ beBytes n v ++ l.drop (o + n)

/-- Where the EtherType stands: behind one or two VLAN tags, if there are any. -/
def etherAt (l : List Nat) : Nat :=
  let tag := fun (o : Nat) => decide (frameF l o 2 = 0x8100) || decide (frameF l o 2 = 0x88A8)
  if !tag 12 then 12 else if !tag 16 then 16 else 20

/-- The transport of a PTP message in a frame: Ethernet, UDP over IPv4 or UDP over IPv6. -/
inductive PtpOver where
  | ether | ip4 | ip6
  deriving DecidableEq, Repr

/-- The transport, the place of the UDP header and of the message, and the UDP port. -/
def ptpOf (l : List Nat) : Option (PtpOver × Nat × Nat × Nat) :=
  let e := etherAt l
  let t := frameF l e 2
  let udp := fun (o : PtpOver) (u : Nat) =>
    let port := frameF l (u + 2) 2
    if port = 319 ∨ port = 320 then some (o, u, u + 8, port) else none
  if t = 0x88F7 then some (.ether, 0, e + 2, 0)
  else if t = 0x0800 ∧ frameF l (e + 11) 1 = 17 then udp .ip4 (e + 2 + 4 * (frameF l (e + 2) 1 % 16))
  else if t = 0x86DD ∧ frameF l (e + 8) 1 = 17 then udp .ip6 (e + 42)
  else none

/-- The event message of a frame: transport, UDP header, message, type 0 Sync, 1 Delay_Req, 2 Pdelay_Req or 3 Pdelay_Resp. -/
def eventOf (l : List Nat) : Option (PtpOver × Nat × Nat × Nat) :=
  match ptpOf l with
  | some (o, u, m, port) =>
    let t := frameF l m 1 % 16
    if t < 4 ∧ port ≠ 320 then some (o, u, m, t) else none
  | none => none

/-- A message with a field replaced; over IPv4 the UDP checksum is 0. -/
def ptpSet (o : PtpOver) (u : Nat) (l : List Nat) (at_ n v : Nat) : List Nat :=
  let l := setFrameF l at_ n v
  if o = .ip4 then setFrameF l (u + 6) 2 0 else l

/-- The message's correctionField plus a number of units of 2⁻¹⁶ ns. -/
def ptpCorrect (o : PtpOver) (u m : Nat) (l : List Nat) (x : Nat) : List Nat := ptpSet o u l (m + 8) 8 ((frameF l (m + 8) 8 + x) % 2 ^ 64)

/-! ### Stamps -/

/-- The stamp of a frame at a port's reference point: the latency taken off or added, and what lies between two ticks (R383). A port that
stamps nothing leaves the value open. -/
def portStamp (n : Nat) (arrival : Bool) (k : Nat → Act) : Act :=
  .get fun s => freshV fun v =>
    k (if !s.bit R.TIME_PTP_CTL_EN 0 n then v % 2 ^ 96
       else if arrival then (s.now + v % 2 ^ 17 + 2 ^ 96 - s.reg R.TIME_PTP_LAT_INGRESS 0 n * 2 ^ 12) % 2 ^ 96
       else (s.now + v % 2 ^ 17 + s.reg R.TIME_PTP_LAT_EGRESS 0 n * 2 ^ 12) % 2 ^ 96)

/-- A frame leaves a port. -/
def sendFrame (n : Nat) (l : List Nat) (stamp : Nat) : Act := .put (.out (.eth n l stamp))

def dropFrame (n : Nat) : Act := bump R.HUB_ETH_DROP_COUNT 1 0 n

/-- The port's interrupt. -/
def ethIrq (n : Nat) : Act := .get fun s => whenA (s.bit R.HUB_ETH_IRQ_EN 0 n) (msix (s.reg R.HUB_ETH_IRQ_VECTOR 0 n))

/-! ### Reception (R385, R522–R524) -/

/-- A frame is forwarded to the other port: an event message takes its residence time along, a Sync the link's delay too. -/
def forwardFrame (n arr : Nat) (l : List Nat) : Act :=
  let q := 1 - n
  portStamp q false fun dep => .get fun s =>
    match eventOf l with
    | none => sendFrame q l dep
    | some (.ip6, _, _, _) => .seq (bump R.TIME_PTP_UNCORRECTED_COUNT 1 0 q) (sendFrame q l dep)
    | some (o, u, m, t) =>
      let link := if s.bit R.TIME_PTP_CTL_P2P 0 n && decide (t = 0) then s.reg R.TIME_PTP_LINK_DELAY_U 0 n else 0
      sendFrame q (ptpCorrect o u m l ((dep + 2 ^ 96 - arr) % 2 ^ 96 + link)) dep

/-- A frame goes to the receive ring. -/
def ringFrame (n arr : Nat) (l : List Nat) : Act :=
  .get fun s =>
    let head := s.reg R.HUB_ETH_RX_PTR_HEAD 0 n
    if head = s.reg R.HUB_ETH_RX_PTR_TAIL 0 n then dropFrame n
    else many [
      .put (.out (.hostWrite ((s.reg R.HUB_ETH_RX_BASE_ADDR 0 n + head) * 2 ^ 11) (32 + l.length)
        (l.length + b2n (eventOf l).isSome * 2 ^ 16 + timeLayout arr * 2 ^ 128 + ofBytes l * 2 ^ 256))),
      setR R.HUB_ETH_RX_PTR_HEAD ((head + 1) % 256) 0 n, ethIrq n ]

/-- A request enters its queue (R523). -/
def requestFrame (n : Nat) (l : List Nat) : Act :=
  .get fun s =>
    let q := s.reg R.HUB_ETH_REQ_QUEUE 0 n
    if s.entryOk q 2 then hubEnter q (ofBytes ((l.drop (etherAt l + 2)).take 128)) else dropFrame n

/-- ETH_FRAME_RECEIVE: a frame without its FCS. -/
def execEthFrameReceive (n : BitVec 1) (bytes : List (BitVec 8)) (fcsOk : Bool) :=
  let l := bytes.map BitVec.toNat
  let p := n.toNat
  does (.get fun s =>
    let ty := frameF l (etherAt l) 2
    if s.pkg.held || !s.bit R.HUB_ETH_CTL_EN 0 p then .nop
    else if !fcsOk || decide (2016 < l.length) || decide (l.length < 60) then dropFrame p
    else portStamp p true fun arr => .seq
      (match eventOf l with
       | some (_, _, _, 2) => .put (.host fun h => { h with pdReq := mset none h.pdReq p (some arr) })
       | _ => .nop)
      (if s.bit R.TIME_PTP_CTL_TC 0 p && s.bit R.TIME_PTP_CTL_TC 0 (1 - p) then forwardFrame p arr l
       else if s.bit R.HUB_ETH_CTL_PTP 0 p && (ptpOf l).isSome then ringFrame p arr l
       else if s.bit R.HUB_ETH_CTL_REQ_EN 0 p && decide (ty = s.reg R.HUB_ETH_REQ_ETYPE 0 p) then requestFrame p l
       else if ty ≠ 0 ∧ ty = s.reg R.HUB_ETH_CTL_MGMT_ETYPE 0 p then ringFrame p arr l
       else dropFrame p))

/-! ### Transmission (R384, R524) -/

/-- One-step insertion at a departure (R383, R384): the frame as sent, and whether an event message went unchanged against the rule. -/
def State.oneStep (s : State) (n dep : Nat) (l : List Nat) : List Nat × Bool :=
  if !(s.bit R.TIME_PTP_CTL_EN 0 n && s.bit R.TIME_PTP_CTL_ONESTEP 0 n) then (l, false)
  else match eventOf l with
  | some (o, u, m, 0) =>
    if o = .ip6 then (l, true)
    else
      let t := timeLayout dep
      let l1 := ptpSet o u (ptpSet o u l (m + 34) 6 (bits t 64 48)) (m + 40) 4 (bits t 32 32)
      (ptpCorrect o u m l1 (bits t 0 16), false)
  | some (o, u, m, 3) =>
    (match o, mget none s.host.pdReq n with
     | .ip6, _ => (l, true)
     | _, none => (l, true)
     | o, some arr => (ptpCorrect o u m l ((dep + 2 ^ 96 - arr) % 2 ^ 96), false))
  | _ => (l, false)

/-- The departure stamp of an event message is latched (R400). -/
def latchStamp (n dep : Nat) (l : List Nat) : Act :=
  withA (eventOf l) fun e => many [
    setR R.TIME_PTP_TXTS_TIME (timeLayout dep) 0 n, setR R.TIME_PTP_TXSEQ_SEQUENCE_ID (frameF l (e.2.2.1 + 30) 2) 0 n,
    setR R.TIME_PTP_TXSEQ_MSGTYPE e.2.2.2 0 n, setR R.TIME_PTP_TXSEQ_VALID 1 0 n ]

/-- ETH_TRANSMIT: transmit buffer HEAD, which holds these 2 KiB. -/
def execEthTransmit (n : BitVec 1) (buffer : Nat) :=
  let p := n.toNat
  does (.get fun s =>
    let head := s.reg R.HUB_ETH_TX_PTR_HEAD 0 p
    let len := bits buffer 0 16
    let next := setR R.HUB_ETH_TX_PTR_HEAD ((head + 1) % 256) 0 p
    if s.pkg.held || !s.bit R.HUB_ETH_CTL_EN 0 p || decide (head = s.reg R.HUB_ETH_TX_PTR_TAIL 0 p) then .nop
    else if len < 60 ∨ 2016 < len then .seq next (dropFrame p)
    else portStamp p false fun dep => .get fun s =>
      let l := bytesOf len (buffer / 2 ^ 256)
      let o := s.oneStep p dep l
      many [
        sendFrame p o.1 dep, whenA o.2 (bump R.TIME_PTP_UNCORRECTED_COUNT 1 0 p), whenA (bitOf buffer 17) (latchStamp p dep l),
        next, ethIrq p ])

end Sys2Proof.Machine
end

