-- ==== Sys2Proof/Machine/Mgmt.lean ====
section
/-! DEFINITION. The management UART and the I²C/I³C controllers (R529–R532). -/

namespace Sys2Proof.Machine

/-! ### The UART (R529, R530) -/

def updUart (f : UartS → UartS) : Act := .put (.host fun h => { h with uart := f h.uart })

/-- STATUS shows the FIFOs. -/
def uartShow : Act :=
  .get fun s => many [
    setR R.HUB_UART_STATUS_RX_LEVEL s.host.uart.rx.length, setR R.HUB_UART_STATUS_TX_LEVEL s.host.uart.tx.length,
    setR R.HUB_UART_STATUS_TX_BUSY (b2n s.host.uart.sending.isSome) ]

/-- The next waiting byte is sent, where the UART runs and sends none. -/
def uartNext : Act :=
  .seq (.get fun s => match s.host.uart.tx with
    | b :: r => whenA (s.bit R.HUB_UART_CFG_EN && s.host.uart.sending.isNone)
        (.seq (updUart fun u => { u with tx := r, sending := some b }) (.put (.out (.uart b))))
    | [] => .nop) uartShow

/-- UART_RX_FRAME: the line at sample 16, the byte sampled, and the line at the stop sample. -/
def execUartRxFrame (startHigh : Bool) (b : BitVec 8) (stopHigh : Bool) :=
  does (.get fun s =>
    if s.pkg.held || !s.bit R.HUB_UART_CFG_EN || s.host.uart.wait then .nop
    else if startHigh then bump R.HUB_UART_ERRS_NOISE
    else if !stopHigh then .seq (bump R.HUB_UART_ERRS_FRAMING) (updUart fun u => { u with wait := true })
    else if 64 ≤ s.host.uart.rx.length then bump R.HUB_UART_ERRS_OVERRUN
    else .seq (updUart fun u => { u with rx := u.rx ++ [b.toNat] }) uartShow)

/-- UART_RX_REARM: consecutive high samples. -/
def execUartRxRearm (samples : Nat) := does (whenA (decide (32 ≤ samples)) (updUart fun u => { u with wait := false }))

/-- A byte written to DATA. -/
def uartPut (b : Nat) : Act :=
  .seq (.get fun s => whenA (decide (s.host.uart.tx.length < 64)) (updUart fun u => { u with tx := u.tx ++ [b % 256] })) uartNext

def execUartDataWrite (port : Port) (b : BitVec 8) := does (portCmd port 0xA0008 b.toNat (uartPut b.toNat))

/-- What a read of DATA returns: the byte and VALID. -/
def fifoHead (l : List Nat) : Nat := match l with | b :: _ => b + 2 ^ 8 | [] => 0

/-- A read of DATA takes a byte. -/
def uartTake : Act := .seq (updUart fun u => { u with rx := u.rx.drop 1 }) uartShow

/-- A register read through a port: `y` is returned, or 0 where the gate turns it away. -/
def portRead (p : Port) (off : Nat) (y : State → Nat) (a : Act) : Act :=
  .get fun s => match s.gate p off true with
    | .open => .seq (.put (.bus fun b => { b with data := y s })) a
    | g => .seq (.put (.bus fun b => { b with data := 0 })) (turnAway p off 0 true g)

def execUartDataRead (port : Port) := does (portRead port 0xA0008 (fun s => fifoHead s.host.uart.rx) uartTake)

def execUartTxFrameEnd := does (.seq (updUart fun u => { u with sending := none }) uartNext)

/-! ### I²C and I³C (R531, R532) -/

def State.i2c (s : State) (m : Nat) : I2cS := mget I2cS.reset s.host.i2c m
def updI2c (m : Nat) (f : I2cS → I2cS) : Act := .put (.host fun h => { h with i2c := mupd I2cS.reset h.i2c m f })
def i2cOff (m o : Nat) : Nat := 0xB0000 + 0x100 * m + o

def i2cShow (m : Nat) : Act := .get fun s => setR R.HUB_I2C_STATUS_RX_LEVEL (min 64 (s.i2c m).rx.length) 0 m

/-- Bytes that a running write has still to send go to the bus as they come. -/
def i2cSend (m : Nat) : Act :=
  .get fun s =>
    let k := s.i2c m
    let b := k.tx.take k.left
    withA k.cmd fun w => whenA (!b.isEmpty) (.seq (.put (.out (.i2c m (bits w 17 2) (bits w 0 7) b)))
      (updI2c m fun k => { k with tx := k.tx.drop b.length, left := k.left - b.length }))

/-- CMD is written: LEN 0 and KIND 3 are reserved, and a controller that does not run starts nothing. ENTDAA takes its bytes as the targets
answer. -/
def i2cStart (port : Port) (m v : Nat) : Act :=
  .get fun s =>
    let k := s.i2c m
    if k.cmd.isSome then ignored port (i2cOff m 4) v
    else if bits v 8 8 = 0 ∨ bits v 17 2 = 3 then reserved port (i2cOff m 4) v
    else if !s.bit R.HUB_I2C_CFG_EN 0 m then .nop
    else
      let daa := decide (bits v 17 2 = 2) && decide (bits v 19 8 = 7)
      many [
        updI2c m (fun k => { k with cmd := some (v % 2 ^ 27), left := if bitOf v 7 || daa then 0 else bits v 8 8 }),
        setR R.HUB_I2C_STATUS_BUSY 1 0 m,
        .put (.out (.i2c m (bits v 17 2) (bits v 0 7) (if bits v 17 2 = 2 then [bits v 19 8] else []))), i2cSend m ]

def i2cCmd (port : Port) (m v kind : Nat) : Act :=
  let w := setBits v 17 2 kind
  portCmd port (i2cOff m 4) w (i2cStart port m w)

def execI2cCmd (port : Port) (m : BitVec 1) (v : BitVec 32) := does (i2cCmd port m.toNat v.toNat 0)
def execI3cPrivateCmd (port : Port) (m : BitVec 1) (v : BitVec 32) := does (i2cCmd port m.toNat v.toNat 1)
def execI3cCccCmd (port : Port) (m : BitVec 1) (v : BitVec 32) := does (i2cCmd port m.toNat v.toNat 2)

/-- A transfer ends. -/
def i2cEnd (m : Nat) : Act :=
  many [updI2c m fun k => { k with cmd := none, left := 0 }, setR R.HUB_I2C_STATUS_BUSY 0 0 m, setR R.HUB_I2C_STATUS_DONE 1 0 m, i2cShow m]

/-- I2C_TRANSFER_DONE: the bytes read, or the identity of each target that answers ENTDAA (PID, BCR and DCR, the first byte lowest). A write
ends when its bytes are sent. -/
def execI2cTransferDone (m : BitVec 1) (nack : Bool) (rx : List (BitVec 8)) (devs : List (BitVec 64)) :=
  let i := m.toNat
  does (.get fun s =>
    let k := s.i2c i
    withA k.cmd fun w =>
      let daa := decide (bits w 17 2 = 2) && decide (bits w 19 8 = 7)
      let got := (devs.take k.tx.length).flatMap (fun d => bytesOf 8 d.toNat)
      if nack then many [updI2c i fun k => { k with tx := [] }, setR R.HUB_I2C_STATUS_NACK 1 0 i, i2cEnd i]
      else if daa then many [
        .put (.out (.i2c i 2 0x7E (k.tx.take devs.length))),
        updI2c i (fun k => { k with rx := k.rx ++ got, tx := k.tx.drop devs.length }), i2cEnd i ]
      else if bitOf w 7 then many [updI2c i fun k => { k with rx := k.rx ++ (rx.take (bits w 8 8)).map BitVec.toNat }, i2cEnd i]
      else whenA (decide (k.left = 0)) (i2cEnd i))

/-- A byte written to DATA. -/
def i2cPut (m b : Nat) : Act :=
  .seq (.get fun s => whenA (decide ((s.i2c m).tx.length < 64)) (updI2c m fun k => { k with tx := k.tx ++ [b % 256] })) (i2cSend m)

/-- A read of DATA takes a byte. -/
def i2cTake (m : Nat) : Act := .seq (updI2c m fun k => { k with rx := k.rx.drop 1 }) (i2cShow m)

def execI2cDataRead (port : Port) (m : BitVec 1) := does (portRead port (i2cOff m.toNat 8) (fun s => fifoHead (s.i2c m.toNat).rx) (i2cTake m.toNat))

/-- IBI: an in-band interrupt of a target; its first byte, if it sends one, enters the FIFO. -/
def execIbi (m : BitVec 1) (addr : BitVec 7) (b : BitVec 8) (hasByte : Bool) :=
  let i := m.toNat
  does (.get fun s => whenA (s.bit R.HUB_I2C_CFG_EN 0 i && decide (s.reg R.HUB_I2C_CFG_SPEED 0 i = 3)) (many [
    whenA hasByte (updI2c i fun k => { k with rx := k.rx ++ [b.toNat] }), setR R.HUB_I2C_STATUS_IBI 1 0 i,
    setR R.HUB_I2C_STATUS_IBI_ADDR addr.toNat 0 i, i2cShow i ]))

/-- STUCK_BUS: SCL or SDA has been low for all of this time. -/
def execStuckBus (m : BitVec 1) (dt : Nat) :=
  let i := m.toNat
  does (after dt (.get fun s => whenA (s.bit R.HUB_I2C_CFG_EN 0 i && decide (s.reg R.HUB_I2C_CFG_STUCK_MS 0 i * msU ≤ dt)) (.seq
    (setR R.HUB_I2C_STATUS_STUCK 1 0 i) (logEv 4 srcHub 0xB 16 i))))

end Sys2Proof.Machine
end

