-- ==== Sys2Proof/Machine/RegView.lean ====
section
/-! DEFINITION. What a read of a register returns (R7, R12, R82, R391): fields that show the state as it stands, the snapshot view,
and what a reader outside a partition does not see. -/

namespace Sys2Proof.Machine

/-! ### Fields that show the state -/

/-- The row a core's owner `k` is blocked at. -/
def State.blkOf (s : State) (c k : Nat) : Option Blk := (mget OwnS.idle (s.core c).own k).blk

/-- An engine's state (R73): halted, blocked, running or idle. -/
def State.engState (s : State) (c : Nat) (owners : List Nat) (busy : Bool) : Nat :=
  if (s.core c).halted then 3 else if owners.any (fun k => (s.blkOf c k).isSome) then 2 else b2n busy

/-- An owner that writes rows waits for Empty, one that reads for Full (R56, R80). -/
def State.wantOf (s : State) (c k : Nat) : Nat := b2n ((s.blkOf c k).isSome && wantFull (s.ownWrites c k))

/-- The clause that runs on a core, or that is being saved or restored (R332). -/
def State.shownClause (s : State) (c : Nat) : Option ClauseS :=
  (s.clauseList.find? (fun k => decide (k.2.core = c) &&
    (decide (k.2.st = .running) || decide (k.2.st = .saving) || decide (k.2.st = .restoring)))).map Prod.snd

/-- A number from the clause a core shows; 0 where it shows none. -/
def State.ofClause (s : State) (c : Nat) (f : ClauseS → Nat) : Nat := match s.shownClause c with
  | some k => f k
  | none => 0

/-- The save or restore that runs on a core. -/
def State.kickOn (s : State) (c : Nat) (f : Kick → Nat) : Nat := match mget none s.sch.kicks c with
  | some k => f k
  | none => 0

/-- Credits of a receive pool of a port (R366): one for each four flits that are free. -/
def State.credits (s : State) (m pool : Nat) : Nat := (poolCap pool - mget 0 (s.fport m).used pool) / 4

/-- The fields whose value is not stored, with what they show. -/
def viewCore : List (Fld × (State → Nat → Nat → Nat)) :=
  [ (R.CORE_STATUS_MATRIX, fun s c _ => s.engState c [0, 1, 2] (!(s.core c).mq.isEmpty)),
    (R.CORE_STATUS_VECTOR, fun s c _ => s.engState c [3, 4] (!(s.core c).vq.isEmpty)),
    (R.CORE_STATUS_CONTROL, fun s c _ => s.engState c [7] ((s.core c).inClause || !(s.core c).cq.isEmpty)),
    (R.CORE_STATUS_DMA_IN, fun s c _ => s.engState c [5] (!(s.ownRows c 5).isEmpty)),
    (R.CORE_STATUS_DMA_OUT, fun s c _ => s.engState c [6] (!(s.ownRows c 6).isEmpty)),
    (R.CORE_STATUS_IN_CLAUSE, fun s c _ => b2n (s.core c).inClause),
    (R.CORE_CYCLE_COUNT, fun s c _ => s.cyc c),
    (R.CORE_WAIT_W0_VALID, fun s c k => b2n (s.blkOf c k).isSome),
    (R.CORE_WAIT_W0_MODE, fun s c k => match s.blkOf c k with | some b => b.ref.mode | none => 0),
    (R.CORE_WAIT_W0_WANT, fun s c k => s.wantOf c k),
    (R.CORE_WAIT_W0_SLOT, fun s c k => match s.blkOf c k with | some b => b.slot | none => 0),
    (R.CORE_WAIT_W1_START, fun s c k => match s.blkOf c k with | some b => b.start | none => 0),
    (R.CORE_TAG_STATE_TAG, fun s c j => mget 0 (s.core c).tags j) ]

def viewSched : List (Fld × (State → Nat → Nat → Nat)) :=
  [ (R.CORE_CLAUSE_CTX, fun s c _ => s.ofClause c ClauseS.ctx),
    (R.CORE_CLAUSE_ECLASS, fun s c _ => s.ofClause c ClauseS.eclass),
    (R.CORE_CLAUSE_DCLASS, fun s c _ => s.ofClause c ClauseS.dclass),
    (R.CORE_CLAUSE_RUNNING, fun s c _ => s.ofClause c (fun k => b2n (decide (k.st = .running)))),
    (R.CORE_CLAUSE_PENDING, fun s c _ => b2n (s.preempts c || s.sch.kickQ.any (fun e => decide (e.1 = c)))),
    (R.CORE_CLAUSE_BOOSTED, fun s c _ => s.ofClause c (fun k => b2n (decide (k.eclass ≠ k.bclass)))),
    (R.CORE_CLAUSE_BATCH, fun s c _ => s.ofClause c (fun k => b2n (decide (k.queue = 32768)))),
    (R.CORE_SLOTS_USED, fun s c _ => ((List.range 4).map (fun k => b2n (mget none s.sch.images (c * 4 + k)).isSome * 2 ^ k)).sum),
    (R.CORE_SLOTS_BUSY, fun s c _ => b2n (mget none s.sch.kicks c).isSome),
    (R.CORE_SLOTS_RESTORE, fun s c _ => s.kickOn c (fun k => b2n k.restore)),
    (R.CORE_SLOTS_SLOT, fun s c _ => s.kickOn c Kick.slot),
    (R.SEQ_KV_FREE_FREE, fun s _ p => s.reg R.SEQ_KV_POOL_CFG_BLOCKS 0 p - ((s.batch p).usedB.filter Prod.snd).length) ]

def viewDie : List (Fld × (State → Nat → Nat → Nat)) :=
  [ (R.DMC_STATUS_HOT, fun s d _ => b2n ((List.range 16).any (fun c => s.bit R.DMC_CH_STATUS_REFRESH_2X d c))),
    (R.DMC_CH_STATUS_IN_GROUP, fun s d c => b2n ((List.range 16).any (fun g =>
      s.bit R.DMC_GROUP_ENABLE d g && bitOf (s.reg R.DMC_GROUP_CHMASK d g) c))),
    (R.XLT_CTL_MIG_ACTIVE, fun s d _ => ((List.range 16).filter (fun i => (s.mig d i).isSome)).length),
    (R.QUE_OPS_INFLIGHT, fun s d _ => s.ops d none),
    (R.QUE_PART_OPS_INFLIGHT, fun s d p => s.ops d (some p)),
    (R.QUE_SEM_W1_WAITERS, fun s d n => (s.sem (d * 4096 + n)).waiters.length),
    (R.QUE_QSTATE_ACTIVE, fun s d q => b2n (s.bit R.QUE_QCFG_ENABLE d q || !(s.queue (d * 8192 + q)).fetched.isEmpty)),
    (R.QUE_QSTATE_DRAINING, fun s d q => b2n (!s.bit R.QUE_QCFG_ENABLE d q && !(s.queue (d * 8192 + q)).fetched.isEmpty)),
    (R.QUE_QSTATE_CQ_FULL, fun s d q => b2n (!(s.queue (d * 8192 + q)).ending.isEmpty && s.cqFull (d * 8192 + q))),
    (R.QUE_QSTATE_INFLIGHT, fun s d q => (s.queue (d * 8192 + q)).fetched.length) ]

def viewHub : List (Fld × (State → Nat → Nat → Nat)) :=
  [ (R.FAB_PORT_CREDIT_REQ0, fun s _ m => s.credits m 0), (R.FAB_PORT_CREDIT_REQ1, fun s _ m => s.credits m 1),
    (R.FAB_PORT_CREDIT_RSP0, fun s _ m => s.credits m 2), (R.FAB_PORT_CREDIT_RSP1, fun s _ m => s.credits m 3),
    (R.FAB_WIN_CTL_DRAINED, fun s _ w => b2n (!s.fab.held.any (fun e => decide (e.2.hdr.window.toNat = w)))),
    (R.FAB_PART_W1_INFLIGHT, fun s _ p => (s.fab.pend.filter (fun e => decide (e.part = p))).length),
    (R.TIME_COUNT_COUNT, fun s _ _ => s.count 4), (R.TIME_NOW_TIME, fun s _ _ => timeLayout s.now),
    (R.HUB_RCV_ACTIVE_CORES, fun s _ _ => ((List.range 64).map (fun c => b2n (s.inRecovery c) * 2 ^ c)).sum),
    (R.HUB_UART_DATA_BYTE, fun s _ _ => fifoHead s.host.uart.rx), (R.HUB_UART_DATA_VALID, fun s _ _ => b2n (!s.host.uart.rx.isEmpty)),
    (R.HUB_I2C_DATA_BYTE, fun s _ m => fifoHead (s.i2c m).rx), (R.HUB_I2C_DATA_VALID, fun s _ m => b2n (!(s.i2c m).rx.isEmpty)),
    (R.SEC_KEY_SLOT_STATE, fun s _ k => if s.bit R.SEC_KEY_SLOT_STATE 0 k && s.slotInUse k then 2 else s.reg R.SEC_KEY_SLOT_STATE 0 k),
    (R.SEC_DBG_STATUS_MINUTES_LEFT, fun s _ _ => s.minutesLeft),
    (R.SBP_IND_STATUS_BUSY, fun s _ _ => b2n (decide (s.host.ind ≠ 0))) ]

/-- What a field reads as: what it shows, or what is stored. -/
def State.view (s : State) (f : Fld) (i j : Nat) : Nat :=
  match (viewCore ++ viewSched ++ viewDie ++ viewHub).find? (fun e => decide (e.1.id = f.id)) with
  | some e => e.2 s i j % 2 ^ f.w
  | none => s.reg f i j

/-! ### The ports (R12, R82, R391) -/

/-- TIME_SNAP_VIEW.VIEW of a port. -/
def State.snapView (s : State) (p : Port) : Bool := if p = .pf then s.bit R.TIME_SNAP_VIEW_VIEW else mget false s.time.views (portNum p)

/-- The die a register's fields lie on (R388). -/
def RegAt.die (g : RegAt) : Nat := (offDie g.base).getD 4

/-- A read through the port returns the shadow of a field (R391). -/
def State.shaded (s : State) (p : Port) (g : RegAt) (f : Fld) (j : Nat) : Bool := s.snapView p && shadowOf g.die (f.key g.i j)

/-- Registers of a core that only the physical function and the owning partition read (R82). -/
def coreSecret : List Nat :=
  ([R.CORE_TAG_STATE_TAG, R.CORE_WAIT_W0_VALID, R.CORE_WAIT_W0_MODE, R.CORE_WAIT_W0_WANT, R.CORE_WAIT_W0_SLOT, R.CORE_WAIT_W1_START,
    R.CORE_CLAUSE_CTX, R.CORE_CLAUSE_ECLASS, R.CORE_CLAUSE_DCLASS, R.CORE_CLAUSE_RUNNING, R.CORE_CLAUSE_PENDING, R.CORE_CLAUSE_BOOSTED,
    R.CORE_CLAUSE_BATCH, R.CORE_SLOTS_USED, R.CORE_SLOTS_BUSY, R.CORE_SLOTS_RESTORE, R.CORE_SLOTS_SLOT, R.CORE_KICK_LAST_TICKS]).map Fld.id

/-- A port may read what concerns a core of a partition. -/
def State.seesCore (s : State) (p : Port) (c : Nat) : Bool :=
  match s.corePart c, p with
  | none, _ => true
  | some _, .pf => true
  | some q, .vf v => decide (s.vfPart v.toNat = some q)
  | some _, _ => false

/-- A field as a port reads it. -/
def State.fieldRead (s : State) (p : Port) (g : RegAt) (f : Fld) (j : Nat) : Nat :=
  if f.acc = .wo then 0
  else if coreSecret.contains f.id && !s.seesCore p g.i then 0
  else if f.id = R.TIME_SNAP_VIEW_VIEW.id then b2n (s.snapView p)
  else if s.shaded p g f j then mget (f.rst.value g.i j) s.time.shadow (f.key g.i j)
  else s.view f g.i j

/-- A register as a port reads it. -/
def State.regRead (s : State) (p : Port) (g : RegAt) : Nat := g.r.value g.x (fun f j => s.fieldRead p g f j)

end Sys2Proof.Machine
end

