-- ==== Sys2Proof/Machine/Supply.lean ====
section
/-! DEFINITION. The supply, the package's reset pins and REFCLK (R478, R542–R548). -/

namespace Sys2Proof.Machine

/-- AON_POWER_UP: 2 ms after VAON and VAON_IO are in range, the always-on island drives SYS_PWR_EN. -/
def execAonPowerUp :=
  does (.get fun s => whenA (!s.pkg.vaon) (after (2 * msU) (.seq
    (.put (.pkg fun p => { p with vaon := true, sysPwr := true, trig := trigPwrgd })) (.put (.out (.pin 0 1))))))

/-- PACKAGE_RESET_RELEASE: PERST_N is deasserted and PWRGD has been high for 1 ms. -/
def execPackageResetRelease :=
  does (.get fun s => whenA (s.pkg.vaon && s.pkg.sysPwr) (.seq
    (.put (.pkg fun p => { p with pwrgd := true, perst := true })) packageRelease))

/-- A sag save that runs is abandoned: the record has no MARKER (R463). -/
def dropSave : Act := .get fun s => withA s.pwr.sag fun r => .put (.pwr fun p => { p with sag := none, tripped := !r.thermal })

/-- PWRGD_FALL: the outputs but those on VAON_IO go to high impedance. From 40 µs after a trip on, the save does not need the rails. -/
def execPwrgdFall :=
  does (.get fun s => whenA s.pkg.pwrgd (many [
    .put (.pkg fun p => { p with pwrgd := false }), .put (.out (.pin 4 0)),
    (match s.pwr.sag with
     | some r => whenA (decide (s.t < r.since + 40 * usU)) dropSave
     | none => whenA (!s.pkg.held) (packageReset trigPwrgd)) ]))

/-- RAIL_UNDERVOLTAGE: a rail of a die has been below its range for 2 µs: 1 logic, 2 SRAM, 3 VDDQ. -/
def execRailUndervoltage (die : Fin 5) (rail : BitVec 8) :=
  let d := die.val
  does (.get fun s => whenA (s.pkg.pwrgd && s.pwr.sag.isNone) (.seq
    (logPwr 12 d rail.toNat 0)
    (whenA (!s.pkg.held) (if d = 4 then packageReset trigRail else dieReset d trigRail none))))

/-- REFCLK_LOSS: the always-on island goes on with its own oscillator and holds a log entry. -/
def execRefclkLoss :=
  does (.get fun s => whenA s.pkg.refclk (many [
    .put (.log fun l => { l with held := some ⟨s.count 4, 4, srcPwr, 0x90B, 0⟩ }),
    .put (.pkg fun p => { p with refclk := false }), dropSave, whenA (!s.pkg.held) (packageReset trigRefclk) ]))

/-- REFCLK_RETURN: the held entry is written, and 1 ms later the package boots. -/
def execRefclkReturn (dt : Nat) :=
  does (.get fun s => whenA (!s.pkg.refclk) (many [
    .put (.pkg fun p => { p with refclk := true }), withA s.log.held logPut, .put (.log fun l => { l with held := none }),
    after dt (whenA (decide (msU ≤ dt)) packageRelease) ]))

/-- PCIE_FUNDAMENTAL_RESET: PERST_N is asserted while PWRGD is high. -/
def execPcieFundamentalReset :=
  does (.get fun s => whenA s.pkg.pwrgd (.seq
    (.put (.pkg fun p => { p with perst := false })) (whenA (!s.pkg.held) (packageReset trigPcie))))

end Sys2Proof.Machine
end

