-- ==== Sys2Proof/Machine/RegRules.lean ====
section
/-! DEFINITION. What stands in the way of a register write, and what follows from it: values that are reserved while a condition holds
(R9 with the rules named), fields whose write has an effect of its own, and registers that are commands. -/

namespace Sys2Proof.Machine

/-! ### Values that are reserved while a condition holds -/

/-- A write to one of the fields, or only one that changes it, is treated as a reserved encoding while the condition holds. The condition
sees the instance, the index, and the value written to each field of the register. -/
structure Lock where
  flds : List Fld
  onChange : Bool
  cond : State → Nat → Nat → (Fld → Nat) → Bool

/-- A stream is resident on the core. -/
def State.framesOn (s : State) (c : Nat) : Bool := s.residentAll.any (fun n => decide (s.reg R.SEQ_STREAM_TABLE_CORE 0 n = c))

/-- A clause of the partition is fetched and not ended (R334). -/
def State.clauseOf (s : State) (p : Nat) : Bool :=
  s.clauseList.any (fun k => decide (k.2.part = p)) ||
  s.die.queues.any (fun e => !e.2.fetched.isEmpty && decide (s.qf R.QUE_QCFG_KIND e.1 = 1) && decide (s.qf R.QUE_QCFG_PART e.1 = p))

/-- A window may not be changed (R352). -/
def State.winHeld (s : State) (w : Nat) : Bool := s.bit R.FAB_WIN_CTL_OPEN 0 w || decide (s.view R.FAB_WIN_CTL_DRAINED 0 w = 0)

/-- A VF's vectors would pass 2,047 or overlap another's (R519). -/
def State.vecBad (s : State) (v base n : Nat) : Bool :=
  decide (n ≠ 0) && (decide (2048 < base + n) || (List.range 16).any (fun u =>
    let b := s.reg R.HUB_VF_CFG_VEC_BASE 0 u
    let k := s.reg R.HUB_VF_CFG_VEC_COUNT 0 u
    decide (u ≠ v) && decide (k ≠ 0) && decide (b < base + n) && decide (base < b + k)))

def locksDie : List Lock :=
  [ ⟨[R.CORE_STREAM_REGION_BASE_ROW, R.CORE_STREAM_REGION_FRAME_ROWS, R.CORE_STREAM_REGION_FRAMES_M1], false, fun s c _ w =>
      s.framesOn c || decide (8192 < w R.CORE_STREAM_REGION_BASE_ROW + w R.CORE_STREAM_REGION_FRAME_ROWS * (w R.CORE_STREAM_REGION_FRAMES_M1 + 1))⟩,
    ⟨[R.CORE_SAVE_BASE_PA], false, fun s c _ _ => decide (s.view R.CORE_SLOTS_USED c 0 ≠ 0)⟩,
    ⟨[R.DMC_GROUP_CHMASK, R.DMC_GROUP_GRAIN, R.DMC_GROUP_ECC, R.DMC_GROUP_ENC, R.DMC_GROUP_PART_VALID, R.DMC_GROUP_PART, R.DMC_GROUP_SCRUB_ON_EN,
      R.DMC_GROUP_BASE], true, fun s d g _ => s.bit R.DMC_GROUP_ENABLE d g⟩,
    ⟨[R.DMC_PART_KEY_SLOT], false, fun s d p _ => (List.range 16).any (fun g => s.bit R.DMC_GROUP_ENABLE d g && s.bit R.DMC_GROUP_ENC d g &&
      decide (s.reg R.DMC_GROUP_PART d g = p))⟩,
    ⟨[R.XLT_BULK_SRC_CFG_ENABLE, R.XLT_BULK_SRC_CFG_KIND, R.XLT_BULK_SRC_CFG_LBA4K, R.XLT_BULK_SRC_CFG_DEPTH_M1, R.XLT_BULK_SRC_NSID_NSID,
      R.XLT_BULK_SRC_BASE_BASE, R.XLT_BULK_SRC_DOORBELL_ADDR], false, fun s d n _ => s.bit R.XLT_CTL_MIG_ENABLE d && s.bit R.XLT_BULK_SRC_CFG_ENABLE d n⟩,
    ⟨[R.XLT_MIG_BASE_PA, R.XLT_MIG_CFG_ENTRIES], false, fun s d _ _ => s.bit R.XLT_CTL_MIG_ENABLE d⟩,
    ⟨[R.QUE_QCFG_KIND, R.QUE_QCFG_PRODUCER, R.QUE_QCFG_LOG2_DEPTH, R.QUE_QCFG_PART, R.QUE_QCFG_CTX, R.QUE_QCFG_INFLIGHT_LOG2, R.QUE_QCFG_CQ_EN,
      R.QUE_QCFG_CQ_HOST], true, fun s d q _ => decide (s.view R.QUE_QSTATE_ACTIVE d q = 1)⟩ ]

def locksSeq : List Lock :=
  [ ⟨[R.SEQ_STREAM_TABLE_STATE_ADDR, R.SEQ_STREAM_TABLE_FMT, R.SEQ_STREAM_TABLE_PART, R.SEQ_STREAM_TABLE_LEN], false, fun s _ n _ =>
      s.bit R.SEQ_STREAM_TABLE_RESIDENT 0 n || s.bit R.SEQ_STREAM_TABLE_PINNED 0 n⟩,
    ⟨[R.SEQ_KV_POOL_CFG_BLOCKS, R.SEQ_KV_POOL_CFG_FMT, R.SEQ_KV_POOL_CFG_SFMT, R.SEQ_KV_SHAPE_LAYERS, R.SEQ_KV_SHAPE_KV_HEADS, R.SEQ_KV_SHAPE_PANELS,
      R.SEQ_KV_POOL_BASE_ADDR, R.SEQ_KV_SCALE_BASE_ADDR, R.SEQ_KV_TABLE_BASE_ADDR], true, fun s _ p _ =>
      s.bit R.SEQ_KV_POOL_CFG_ENABLE 0 p && (s.batch p).usedB.any Prod.snd⟩,
    ⟨[R.SEQ_PROG_BASE_PA, R.SEQ_PROG_CFG_ENTRIES], true, fun s _ p _ => s.clauseOf p⟩,
    ⟨[R.SEQ_BATCH_CFG_CTX, R.SEQ_PLAN_BASE_ADDR, R.SEQ_WORK_BASE_ADDR, R.SEQ_BATCH_LIM_MAX_SEQ, R.SEQ_BATCH_LIM_CHUNK, R.SEQ_WORK_CFG_ROWS], true,
      fun s _ p _ => s.bit R.SEQ_BATCH_CFG_ENABLE 0 p⟩ ]

def locksHub : List Lock :=
  [ ⟨[R.FAB_ID_PACKAGE, R.FAB_ID_VALID], true, fun s _ _ _ => s.bit R.FAB_CFG_ENABLE⟩,
    ⟨[R.FAB_WIN_CTL_RD_EN, R.FAB_WIN_CTL_WR_EN, R.FAB_WIN_CTL_BELL, R.FAB_WIN_CTL_CTX, R.FAB_WIN_BASE_ADDR, R.FAB_WIN_SIZE_PAGES, R.FAB_WIN_JOB_SEM_JOB,
      R.FAB_WIN_JOB_SEM_SEM, R.FAB_WIN_PEERS_MASK], true, fun s _ w _ => s.winHeld w⟩,
    ⟨[R.FAB_DIGEST_TABLE_LEN_BYTES], false, fun s _ t w => s.bit R.FAB_DIGEST_TABLE_ADDR_EN 0 t && decide (w R.FAB_DIGEST_TABLE_LEN_BYTES = 0)⟩,
    ⟨[R.ISP_PORT_CFG_PART], true, fun s _ n _ => (List.range 8).any (fun k => s.bit R.ISP_STRM_CFG_EN 0 k && decide (s.reg R.ISP_STRM_CFG_PORT 0 k = n))⟩,
    ⟨[R.ISP_STRM_CFG_PORT, R.ISP_STRM_CFG_VC, R.ISP_STRM_CFG_DT, R.ISP_STRM_CFG_CFA, R.ISP_STRM_CFG_FRAME_POLICY, R.ISP_STRM_CFG_DELAY,
      R.ISP_STRM_CFG_FNUM_MODE, R.ISP_STRM_CFG_CTX, R.ISP_STRM_SIZE_W_EXP, R.ISP_STRM_SIZE_H_EXP, R.ISP_STRM_TIMING_FE_TIMEOUT_US, R.ISP_STRM_FILL_PAD,
      R.ISP_STRM_FILL_FNUM_MAX, R.ISP_STRM_STATS_BASE_ADDR], true, fun s _ k _ => s.bit R.ISP_STRM_CFG_EN 0 k⟩,
    ⟨[R.AUD_WAKE_CFG_CHAN, R.AUD_W2_BASE_PA], true, fun s _ _ _ => s.bit R.AUD_WAKE_STATE_STATE⟩,
    ⟨[R.SEC_PART_CFG_VF], false, fun s _ p w => decide (w R.SEC_PART_CFG_VF ≠ 0) && (List.range 16).any (fun q => decide (q ≠ p) &&
      decide (s.reg R.SEC_PART_CFG_VF 0 q = w R.SEC_PART_CFG_VF))⟩,
    ⟨[R.HUB_VF_CFG_VEC_BASE, R.HUB_VF_CFG_VEC_COUNT], false, fun s _ v w => s.vecBad v (w R.HUB_VF_CFG_VEC_BASE) (w R.HUB_VF_CFG_VEC_COUNT)⟩,
    ⟨[R.HUB_UART_CFG_BAUD], true, fun s _ _ _ => s.bit R.HUB_UART_CFG_EN⟩,
    ⟨[R.INP_PIPE_CFG_AUDIO, R.INP_PIPE_CFG_SRC, R.INP_PIPE_CFG_NCH_M1, R.INP_PIPE_CFG_CTX, R.INP_PIPE_CFG_POLICY, R.INP_PIPE_CFG_AUG_MODE,
      R.INP_PIPE_CFG_ROI, R.INP_PIPE_CFG_LUMA, R.INP_PIPE_OUT_FMT, R.INP_PIPE_OUT_OUT_W, R.INP_PIPE_OUT_OUT_H, R.INP_PIPE_DEST_ADDR,
      R.INP_PIPE_BATCH_BATCH, R.INP_PIPE_BATCH_DEPTH, R.INP_PIPE_STRIDE_BYTES, R.INP_PIPE_SEM_READY, R.INP_PIPE_SEM_FREE] ++
     [R.INP_PIPE_MASK_FRAME_BITS, R.INP_PIPE_MASK_AUDIO_BITS, R.INP_PIPE_MASK_FILL, R.INP_PIPE_ROI_ADDR_ADDR, R.INP_PIPE_AUG_ADDR_ADDR,
      R.INP_PIPE_JITTER_PIXELS, R.INP_PIPE_IRQ_VECTOR, R.INP_PIPE_IRQ_EN], true, fun s _ k _ => s.bit R.INP_PIPE_CFG_EN 0 k⟩ ]

/-- The value `new` for field `f` is reserved in this write. -/
def State.fieldBad (s : State) (f : Fld) (i j new : Nat) (w : Fld → Nat) : Bool :=
  !f.enc.ok new || (locksDie ++ locksSeq ++ locksHub).any (fun l =>
    l.flds.any (fun e => decide (e.id = f.id)) && (!l.onChange || decide (new ≠ s.reg f i j)) && l.cond s i j w)

/-! ### Fields whose write has an effect of its own -/

/-- A field that takes its value after the register's other fields: when the value is reserved, and what the write does. -/
structure Late where
  fld : Fld
  bad : State → Nat → Nat → Nat → Bool
  act : Port → Nat → Nat → Nat → Act

/-- A stream may be enabled (R404). -/
def State.camOk (s : State) (k : Nat) : Bool :=
  let n := s.reg R.ISP_STRM_CFG_PORT 0 k
  s.bit R.ISP_PORT_CFG_PART_VALID 0 n && decide (s.ctxPart hubXlt (s.reg R.ISP_STRM_CFG_CTX 0 k) = some (s.reg R.ISP_PORT_CFG_PART 0 n))

/-- A pipe is bound to a source of its context's partition (R434). -/
def State.bindOk (s : State) (k : Nat) : Bool :=
  match s.pipePart k with
  | none => false
  | some p =>
    if s.bit R.INP_PIPE_CFG_AUDIO 0 k then (s.pipeChans k).all (fun c => decide (c < 40) && decide (s.reg R.AUD_CH_PART_PART 0 c = p))
    else
      let st := s.reg R.INP_PIPE_CFG_SRC 0 k
      let n := s.reg R.ISP_STRM_CFG_PORT 0 st
      decide (st < 8) && s.bit R.ISP_PORT_CFG_PART_VALID 0 n && decide (s.reg R.ISP_PORT_CFG_PART 0 n = p)

/-- An enable takes a value: `on` where it rises, `off` where it falls. -/
def edge (f : Fld) (i j new : Nat) (on off : Act) : Act :=
  .get fun s => if s.reg f i j = new then .nop else .seq (setR f new i j) (if new = 1 then on else off)

/-- A window's table entry or its place in the digest changes. -/
def tableWrite (f : Fld) : Late := ⟨f, fun _ _ _ _ => false, fun _ i j new => .seq (setR f new i j) setDirty⟩

def latesDie : List Late :=
  [ ⟨R.DMC_GROUP_ENABLE, fun s d g new => decide (new = 1) && !s.bit R.DMC_GROUP_ENABLE d g && !s.groupOk d g,
      fun _ d g new => edge R.DMC_GROUP_ENABLE d g new (enableGroup d g) .nop⟩,
    ⟨R.QUE_QCFG_ENABLE, fun s d q new => decide (new = 1) && !s.bit R.QUE_QCFG_ENABLE d q && !s.queueCtxOk (d * 8192 + q),
      fun _ d q new => if new = 1 then enableQ (d * 8192 + q) else disableQ (d * 8192 + q)⟩,
    ⟨R.QUE_IRQ_EN, fun _ _ _ _ => false, fun _ d q new => edge R.QUE_IRQ_EN d q new (irqRestart (d * 8192 + q)) (irqRestart (d * 8192 + q))⟩,
    ⟨R.XLT_CTL_MIG_ENABLE, fun _ _ _ _ => false, fun _ _ _ new => setMigEnable (decide (new = 1))⟩,
    ⟨R.SEQ_BATCH_CFG_ENABLE, fun _ _ _ _ => false, fun _ i p new => edge R.SEQ_BATCH_CFG_ENABLE i p new
      (.get fun s => whenA (decide (s.reg R.SEQ_STEP_STATUS_STATE 0 p = 3))
        (.seq (setR R.SEQ_STEP_STATUS_STATE 1 0 p) (updBatch p fun b => { b with resume := true }))) .nop⟩ ]

def latesHub : List Late :=
  [ ⟨R.FAB_CFG_ENABLE, fun s _ _ new => decide (new = 1) && !s.bit R.FAB_CFG_ENABLE && !s.bit R.FAB_ID_VALID, fun _ i j new => setR R.FAB_CFG_ENABLE new i j⟩,
    ⟨R.FAB_CFG_PORT_EN, fun _ _ _ _ => false, fun _ i j new => .get fun s => .seq (setR R.FAB_CFG_PORT_EN new i j)
      (forA ((List.range 6).filter (fun m => bitOf (s.reg R.FAB_CFG_PORT_EN) m != bitOf new m)) (fun m => portEnable m (bitOf new m)))⟩,
    ⟨R.FAB_WIN_CTL_OPEN, fun s _ w new => decide (new = 1) && !s.bit R.FAB_WIN_CTL_OPEN 0 w && !s.openOk w,
      fun _ i w new => edge R.FAB_WIN_CTL_OPEN i w new .nop (closeWin w)⟩,
    ⟨R.FAB_DIGEST_CTL_COMMIT, fun _ _ _ _ => false, fun _ _ _ new => whenA (decide (new = 1)) digestStart⟩,
    tableWrite R.FAB_DIGEST_TABLE_ADDR_PA, tableWrite R.FAB_DIGEST_TABLE_ADDR_EN, tableWrite R.FAB_DIGEST_TABLE_LEN_BYTES,
    ⟨R.HUB_UART_CFG_EN, fun _ _ _ _ => false, fun _ i j new => .seq (setR R.HUB_UART_CFG_EN new i j) uartNext⟩,
    ⟨R.HUB_VF_MEM_EN, fun s _ v new => decide (new = 1) && ((s.vfPart v).isNone || decide (s.ctxPart hubXlt (s.reg R.HUB_VF_MEM_CTX 0 v) ≠ s.vfPart v)),
      fun _ i v new => setR R.HUB_VF_MEM_EN new i v⟩,
    ⟨R.PWR_DIE_REQ_STATE, fun _ _ _ _ => false, fun _ _ d new => dieTarget d new⟩ ]

def latesIo : List Late :=
  [ ⟨R.ISP_STRM_CFG_EN, fun s _ k new => decide (new = 1) && !s.bit R.ISP_STRM_CFG_EN 0 k && !s.camOk k,
      fun _ i k new => edge R.ISP_STRM_CFG_EN i k new (updCam k fun _ => CamS.reset) (camDisable k)⟩,
    ⟨R.INP_PIPE_CFG_EN, fun s _ k new => decide (new = 1) && !s.bit R.INP_PIPE_CFG_EN 0 k && !s.bindOk k,
      fun _ i k new => edge R.INP_PIPE_CFG_EN i k new (pipeStart k) (pipeStop k)⟩,
    ⟨R.AUD_CTL_MUTE_TDM, fun _ _ _ _ => false, fun _ i j new => .get fun s => whenA (decide (new = 1) || !s.aud.pin) (setR R.AUD_CTL_MUTE_TDM new i j)⟩,
    ⟨R.AUD_WAKE_CFG_EN, fun _ _ _ _ => false, fun _ i j new => .seq (setR R.AUD_WAKE_CFG_EN new i j) cascadeCheck⟩,
    ⟨R.AUD_RING_CFG_RING_EN, fun _ _ _ _ => false, fun _ i j new => .get fun s =>
      .seq (setR R.AUD_RING_CFG_RING_EN new i j) (ringCheck (decide (new = 1) && !s.bit R.AUD_RING_CFG_RING_EN))⟩,
    ⟨R.SEC_DBG_CTL_CHALLENGE, fun _ _ _ _ => false, fun _ _ _ new => whenA (decide (new = 1)) dbgChallenge⟩,
    ⟨R.SEC_DBG_CTL_SUBMIT, fun _ _ _ _ => false, fun _ _ _ new => whenA (decide (new = 1)) dbgSubmit⟩,
    ⟨R.SEC_DBG_CTL_PASSWORD, fun _ _ _ _ => false, fun _ _ _ new => whenA (decide (new = 1)) dbgPassword⟩,
    ⟨R.SEC_DBG_CTL_END, fun _ _ _ _ => false, fun _ _ _ new => whenA (decide (new = 1)) dbgClose⟩ ]

def lateOf (f : Fld) : Option Late := (latesDie ++ latesHub ++ latesIo).find? (fun l => decide (l.fld.id = f.id))

/-! ### Registers that are commands -/

/-- QUE_CMD is written (R263, R288). -/
def queWrite (p : Port) (d v : Nat) : Act :=
  let q := bits v 0 13
  match bits v 14 2 with
  | 0 => setR R.QUE_CMD_QUEUE q d
  | 1 => queGo p d q 1 (disableQ (d * 8192 + q))
  | 2 => queGo p d q 2 (cancelQueue (d * 8192 + q) stCancelled)
  | _ => .seq (setR R.QUE_CMD_QUEUE q d) (reserved p (queOff d 8) v)

/-- SEQ_STREAM_XCMD is written (R199). -/
def xcmdWrite (p : Port) (v : Nat) : Act :=
  let n := bits v 0 16
  let keep := bitOf v 16
  let store : Act := .seq (setR R.SEQ_STREAM_XCMD_STREAM n) (setR R.SEQ_STREAM_XCMD_KEEP (b2n keep))
  match bits v 28 2 with
  | 0 => store
  | 1 => xportGo p n keep 1 (exportTry n)
  | 2 => xportGo p n keep 2 .nop
  | _ => .seq store (reserved p (seqOff 0x420008) v)

/-- CHR_CTL is written (R342). -/
def chrWrite (p : Port) (v : Nat) : Act :=
  many [
    setR R.CHR_CTL_RESTORE_AUTO (bits v 0 1),
    forA ((List.range 8).filter (fun l => bitOf v (8 + l))) (fun l => chrDown p l v),
    forA ((List.range 8).filter (fun l => bitOf v (16 + l))) chrRetrain ]

/-- PWR_PKG_REQ is written. -/
def pkgWrite (p : Port) (v : Nat) : Act :=
  match bits v 0 3 with
  | 0 => .nop
  | 3 => pkgRetain
  | 4 => pkgOff
  | _ => reserved p (pwrOff 0) v

/-- HUB_RESET_CMD is written (R478, R487). -/
def resetWrite (p : Port) (v : Nat) : Act :=
  let x := bits v 8 6
  match bits v 0 3 with
  | 0 => setR R.HUB_RESET_CMD_INDEX x
  | 1 => resetGo p 1 x (coreReset x 0)
  | 2 => resetGo p 2 x (dieReset x 0 none)
  | 3 => resetGo p 3 x (hubReset x 0)
  | 4 => resetGo p 4 x (packageReset 0)
  | _ => .seq (setR R.HUB_RESET_CMD_INDEX x) (reserved p 0x80040 v)

/-- SEC_KEY_CMD is written (R494). -/
def keyCmdWrite (v : Nat) : Act :=
  if bits v 0 2 = 0 then .seq (setR R.SEC_KEY_CMD_SLOT (bits v 2 6)) (setR R.SEC_KEY_CMD_PART (bits v 8 4)) else keyWrite (bits v 0 2) v

/-- DMC_TRAIN_CTL is written; the densities a COMMIT reads are open. -/
def trainWrite (p : Port) (d v : Nat) : Act :=
  many [
    trainFields p d v, whenA (bitOf v 22) (trainGo p d v),
    whenA (bitOf v 23) (freshV fun x => trainCommit d v ((List.range 16).map (fun c => x / 4 ^ c % 4))) ]

/-- The action of a register that is a command as a whole, by its first field. `ind` is that of SBP_IND_CMD. -/
def cmdOf (ind : Port → Nat → Act) (p : Port) (g : RegAt) (v : Nat) : Option Act :=
  let first := (g.r.places.map (fun q => q.f.id)).headD 0
  let i := g.i
  let x := g.x
  if first = R.XLT_INV_CMD_SCOPE.id then some (invWrite p i v)
  else if first = R.QUE_CMD_QUEUE.id then some (queWrite p i v)
  else if first = R.QUE_SEM_W0_VALID.id then some (semWrite p (i * 4096 + x) v)
  else if first = R.QUE_SEM_W1_SIGNAL.id then some (semSignal p (i * 4096 + x) (v % 2 ^ 16))
  else if first = R.QUE_TAIL_TAIL.id then some (doorbell (i * 8192 + x) v)
  else if first = R.QUE_CQ_HEAD_CONSUMED.id then some (cqHead (i * 8192 + x) v)
  else if first = R.LOG_TAIL_CONSUMED.id then some (logTail v)
  else if first = R.SEQ_STREAM_XCMD_STREAM.id then some (xcmdWrite p v)
  else if first = R.CHR_CTL_RESTORE_AUTO.id then some (chrWrite p v)
  else if first = R.TIME_CTL_RATE.id then some (timeGo v)
  else if first = R.TIME_SNAP_CTL_ARM.id then some (snapGo v)
  else if first = R.TIME_SNAP_VIEW_VIEW.id then
    some (if p = .pf then setR R.TIME_SNAP_VIEW_VIEW (v % 2) else .put (.time fun t => { t with views := mset false t.views (portNum p) (bitOf v 0) }))
  else if first = R.TIME_CONV_IN_COUNT.id then some (timeConvert v)
  else if first = R.ISP_STRM_PSET_COMMIT_COMMIT.id then some (psetCommit x v)
  else if first = R.ISP_SW_CTL_EN.id then some (if bitOf v 1 then swClear x (bitOf v 0) else if bitOf v 0 then swOn x else swOff x)
  else if first = R.PWR_PKG_REQ_STATE.id then some (pkgWrite p v)
  else if first = R.HUB_RESET_CMD_DOMAIN.id then some (resetWrite p v)
  else if first = R.SEC_KEY_CMD_OP.id then some (keyCmdWrite v)
  else if first = R.SEC_PART_CORES_CORES.id then some (coresWrite p x v)
  else if first = R.SEC_KILL_CMD_CTX.id then some (killWrite p v)
  else if first = R.HUB_WAY_MODE.id then some (wayWrite p x v)
  else if first = R.HUB_UART_DATA_BYTE.id then some (uartPut v)
  else if first = R.HUB_I2C_CMD_ADDR.id then some (i2cStart p x v)
  else if first = R.HUB_I2C_DATA_BYTE.id then some (i2cPut x v)
  else if first = R.DMC_TRAIN_CTL_CHMASK.id then some (trainWrite p i v)
  else if first = R.DMC_TRAIN_SET_CHANNEL.id then some (trainSet p i v)
  else if first = R.SBP_CTL_WRITE_LOCK.id then some (whenA (bitOf v 0) (setR R.SBP_CTL_WRITE_LOCK 1))
  else if first = R.SBP_IND_CMD_OP.id then some (ind p (bits v 0 2))
  else none

end Sys2Proof.Machine
end

