-- ==== Sys2Proof/Machine/Bus.lean ====
section
/-! DEFINITION. Register accesses through the ports (R7–R13, R37, R39, R515, R525–R528): words, staging copies, latches, the two memory
apertures of BAR0, and indirect sideband access. -/

namespace Sys2Proof.Machine

/-! ### The apertures of BAR0 (R35, R37) -/

/-- A place in hub shared memory that a way backs, or in always-on SRAM outside the save area. -/
inductive ApAt where
  | hub (a : Nat)
  | aon (a : Nat)
  | gap
  deriving DecidableEq, Repr

/-- The aperture an offset lies in. -/
def State.apAt (s : State) (off : Nat) : Option ApAt :=
  if 0x08000000 ≤ off ∧ off < 0x0A000000 then
    let w := (off - 0x08000000) / 2 ^ 21
    some (if s.bit R.HUB_WAY_MODE 0 w && !s.bit R.HUB_WAY_PART_VALID 0 w then .hub (off - 0x08000000) else .gap)
  else if 0x0A000000 ≤ off ∧ off < 0x0A080000 then some (if off - 0x0A000000 < 0x2000 then .gap else .aon (off - 0x0A000000))
  else none

/-! ### Reads -/

def readData (v : Nat) : Act := .put (.bus fun b => { b with data := v })

/-- The RC fields in the words `ws` of a register are cleared, but for those whose shadow was read (R7, R391). -/
def clearRc (p : Port) (g : RegAt) (ws : List Nat) : Act :=
  .get fun s => forA (g.r.places.filter (fun q => decide (q.f.acc = .rc) && ws.any (fun w => decide (q.lo / 32 = w)) && !s.shaded p g q.f (q.idx g.x)))
    (fun q => setR q.f 0 g.i (q.idx g.x))

/-- A read of a FIFO's register takes a byte. -/
def readTakes (g : RegAt) : Act :=
  let first := (g.r.places.map (fun q => q.f.id)).headD 0
  if first = R.HUB_UART_DATA_BYTE.id then uartTake else if first = R.HUB_I2C_DATA_BYTE.id then i2cTake g.x else .nop

/-- A read of a word of a register that the port reaches. -/
def readReg (p : Port) (g : RegAt) : Act :=
  .get fun s =>
    let v := s.regRead p g
    let at_ := fun (w : Nat) => wordKey p (g.base + 4 * w)
    match (if g.w = 0 then none else mget none s.bus.latch (at_ g.w)) with
    | some y => readData y
    | none => many [
        readData (bits v (32 * g.w) 32),
        whenA (decide (g.w = 0)) (.put (.bus fun b => { b with
          latch := (List.range (g.r.words - 1)).foldl (fun m k => mset none m (at_ (k + 1)) (some (bits v (32 * (k + 1)) 32))) b.latch })),
        clearRc p g (if g.w = 0 then List.range g.r.words else [g.w]), readTakes g ]

/-- A read of one word through a port (R11, R12). -/
def readWord (p : Port) (off : Nat) : Act :=
  .get fun s => match s.gate p off true with
    | .open => (match s.apAt off with
      | some (.hub a) => readData (memRead s.hubMem a 4)
      | some (.aon a) => readData (memRead s.aon a 4)
      | some .gap => .seq (readData 0) (logReg p off 0 2 true)
      | none => match regAt off with
        | some g => readReg p g
        | none => .seq (readData 0) (logReg p off 0 2 true))
    | r => .seq (readData 0) (turnAway p off 0 true r)

/-- A read of `n` words, the lowest first. -/
def readWords (p : Port) (off : Nat) : Nat → Act
  | 0 => readData 0
  | n + 1 => .seq (readWords p off n) (.get fun s => .seq (readWord p (off + 4 * n)) (.get fun u => readData (s.bus.data + u.bus.data * 2 ^ (32 * n))))

/-! ### Writes -/

/-- WO fields that hold what is written to them for a later command. -/
def woKept : List Nat := ([R.SEC_KEY_DATA_DATA, R.SEC_DBG_RESP_DATA, R.SEC_DBG_PWD_DATA]).map Fld.id

/-- The instances that a write stores to: a write of these XLT_ registers applies to all four dies (R230). -/
def storeAt (f : Fld) (i : Nat) : List Nat :=
  if (([R.XLT_CTL_ENABLE, R.XLT_CTX_BASE_PA, R.XLT_MIG_TIMEOUT_US, R.XLT_BULK_SRC_CFG_ENABLE, R.XLT_BULK_SRC_CFG_KIND, R.XLT_BULK_SRC_CFG_LBA4K,
       R.XLT_BULK_SRC_CFG_DEPTH_M1, R.XLT_BULK_SRC_NSID_NSID, R.XLT_BULK_SRC_BASE_BASE, R.XLT_BULK_SRC_DOORBELL_ADDR]).map Fld.id).contains f.id then List.range 4
  else [i]

/-- A field takes what is written, by its access type (R7). -/
def storeFld (f : Fld) (i j new : Nat) : Act :=
  match f.acc with
  | .rw => forA (storeAt f i) (fun k => setR f new k j)
  | .w1c => .get fun s => setR f (s.reg f i j &&& (2 ^ f.w - 1 - new)) i j
  | .wo => whenA (woKept.contains f.id) (setR f new i j)
  | _ => .nop

/-- A place acts as written where one of its words does. -/
def Place.acts (q : Place) (ws : List Nat) : Bool := ws.any (fun w => decide (q.lo < 32 * w + 32) && decide (32 * w < q.lo + q.f.w))

/-- A register takes a value of which the words `ws` act as written: plain fields first, then those with an effect of their own; what is
reserved keeps its value and is logged once (R9, R10, R13, R396). -/
def storeReg (p : Port) (g : RegAt) (v : Nat) (ws : List Nat) : Act :=
  .get fun s =>
    let new := fun (q : Place) => bits v q.lo q.f.w
    let w := fun (f : Fld) => match g.r.places.find? (fun q => decide (q.f.id = f.id)) with | some q => new q | none => 0
    let acted := g.r.places.filter (fun q => q.acts ws && (decide (q.f.acc = .rw) || decide (q.f.acc = .w1c) || decide (q.f.acc = .wo)))
    let isBad := fun (q : Place) => decide (q.f.acc ≠ .w1c) && s.fieldBad q.f g.i (q.idx g.x) (new q) w
    let good := acted.filter (fun q => !isBad q)
    .seq (forA (good.filter (fun q => (lateOf q.f).isNone)) (fun q => storeFld q.f g.i (q.idx g.x) (new q)))
      (.get fun u =>
        let late := good.filterMap (fun q => (lateOf q.f).map (fun l => (q, l)))
        let isLate := fun (e : Place × Late) => e.2.bad u g.i (e.1.idx g.x) (new e.1)
        let bad := acted.filter isBad ++ (late.filter isLate).map Prod.fst
        .seq (forA (late.filter (fun e => !isLate e)) (fun e => e.2.act p g.i (e.1.idx g.x) (new e.1)))
          (match bad.map (fun q => q.lo / 32) with
           | [] => .nop
           | k :: r => reserved p (g.base + 4 * r.foldl min k) (bits v (32 * r.foldl min k) 32)))

/-- What a port writes to a register takes effect: the words it has staged and the highest one; the others keep their values (R13). -/
def takeEffect (ind : Port → Nat → Act) (p : Port) (g : RegAt) (v : Nat) : Act :=
  .get fun s =>
    let top := g.r.words - 1
    let key := fun (w : Nat) => wordKey p (g.base + 4 * w)
    let cur := g.r.value g.x (fun f j => if f.acc = .rw then s.reg f g.i j else 0)
    let ws := (List.range top).filter (fun w => (mget none s.bus.stage (key w)).isSome)
    let val := ((List.range top).map (fun w => (mget none s.bus.stage (key w)).getD (bits cur (32 * w) 32) * 2 ^ (32 * w))).sum + v * 2 ^ (32 * top)
    .seq (.put (.bus fun b => { b with stage := mkeep (fun k => !(decide (g.base ≤ keyOff k) && decide (keyOff k < g.base + 4 * g.r.words))) b.stage }))
      (match cmdOf ind p g val with
       | some a => a
       | none => storeReg p g val (ws ++ [top]))

/-- A write of one word through a port. -/
def writeWord (ind : Port → Nat → Act) (p : Port) (off v : Nat) : Act :=
  .get fun s => match s.gate p off false with
    | .open => (match s.apAt off with
      | some (.hub a) => .put (.hubMem a 4 v)
      | some (.aon a) => .put (.aon a 4 v)
      | some .gap => logReg p off v 2 false
      | none => match regAt off with
        | some g =>
          if g.w + 1 < g.r.words then .put (.bus fun b => { b with stage := mset none b.stage (wordKey p off) (some v) })
          else takeEffect ind p g v
        | none => logReg p off v 2 false)
    | r => turnAway p off v false r

/-! ### Indirect access (R528) -/

/-- SBP_IND_CMD while an access runs. -/
def indBusy (p : Port) (op : Nat) : Act := ignored p (sbpOff 0xC) op

/-- The access that SBP_IND_ADDR names, through the sideband port. -/
def indirect (op : Nat) : Act :=
  .get fun s =>
    let off := s.reg R.SBP_IND_ADDR_OFFSET * 4
    if op = 1 then .seq (readWord .sbp off) (.get fun u => .seq (setR R.SBP_IND_DATA_DATA u.bus.data) (readData s.bus.data))
    else writeWord indBusy .sbp off (s.reg R.SBP_IND_DATA_DATA)

/-- OP is written to SBP_IND_CMD. -/
def indCmd (p : Port) (op : Nat) : Act :=
  .get fun s =>
    if op = 0 then .nop
    else if s.host.ind ≠ 0 then indBusy p op
    else if op = 3 then reserved p (sbpOff 0xC) op
    else .seq (.put (.host fun h => { h with ind := op })) (indirect op)

/-- SBP_IND_READ and SBP_IND_WRITE. -/
def execSbpIndRead (port : Port) := does (portCmd port (sbpOff 0xC) 1 (indCmd port 1))
def execSbpIndWrite (port : Port) := does (portCmd port (sbpOff 0xC) 2 (indCmd port 2))

/-- SBP_IND_DONE. -/
def execSbpIndDone :=
  does (.get fun s => whenA (decide (s.host.ind ≠ 0)) (.seq (.put (.host fun h => { h with ind := 0 })) (setR R.SBP_IND_STATUS_DONE 1)))

/-! ### The rows -/

/-- A write of `n` words, the lowest first. -/
def writeWords (p : Port) (off n v : Nat) : Act := classWrite (forA (List.range n) (fun k => writeWord indCmd p (off + 4 * k) (bits v (32 * k) 32)))

/-- REGISTER_WRITE. -/
def execRegisterWrite (port : Port) (off : BitVec 29) (n : Nat) (v : Nat) := does (writeWords port off.toNat n v)

/-- STAGED_WORD_WRITE: a write of one word, which a register of more words stages unless it is its highest. -/
def execStagedWordWrite (port : Port) (off : BitVec 29) (v : BitVec 32) := does (writeWords port off.toNat 1 v.toNat)

/-- RC_REGISTER_READ. -/
def execRcRegisterRead (port : Port) (off : BitVec 29) (n : Nat) := does (readWords port off.toNat n)

/-- WIDE_REGISTER_LOW_READ. -/
def execWideRegisterLowRead (port : Port) (off : BitVec 29) := does (readWord port off.toNat)

/-- UNOCCUPIED_ADDRESS_ACCESS. -/
def execUnoccupiedAddressAccess (port : Port) (off : BitVec 29) (isRead : Bool) (v : BitVec 32) :=
  does (if isRead then readWord port off.toNat else writeWords port off.toNat 1 v.toNat)

/-- VF_REGISTER_ACCESS. -/
def execVfRegisterAccess (v : BitVec 4) (off : BitVec 29) (isRead : Bool) (n : Nat) (x : Nat) :=
  does (.seq (vfShown v.toNat) (if isRead then readWords (.vf v) off.toNat n else writeWords (.vf v) off.toNat n x))

end Sys2Proof.Machine
end

