-- ==== Sys2Proof/Machine/Dispatch.lean ====
section
/-! DEFINITION. The one dispatch of the commands to their meanings: an arm for each row of spec/opcode_table.json. -/

namespace Sys2Proof.Machine

/-- The effect of a command on everything but the queue of commands. -/
def exec (i : Instr) (s : State) : Host.Outcome State Fault Refusal :=
  match i with
  | .registerWrite port off n v => Sys2Proof.Machine.execRegisterWrite port off n v s
  | .stagedWordWrite port off v => Sys2Proof.Machine.execStagedWordWrite port off v s
  | .rcRegisterRead port off n => Sys2Proof.Machine.execRcRegisterRead port off n s
  | .wideRegisterLowRead port off => Sys2Proof.Machine.execWideRegisterLowRead port off s
  | .unoccupiedAddressAccess port off isRead v => Sys2Proof.Machine.execUnoccupiedAddressAccess port off isRead v s
  | .pllLockLoss die => Sys2Proof.Machine.execPllLockLoss die s
  | .rowService core dt => Sys2Proof.Machine.execRowService core dt s
  | .tagWaitTimeout core owner dt => Sys2Proof.Machine.execTagWaitTimeout core owner dt s
  | .dmaTagWaitTimeout core owner dt => Sys2Proof.Machine.execDmaTagWaitTimeout core owner dt s
  | .localDeadlock core dt => Sys2Proof.Machine.execLocalDeadlock core dt s
  | .engineComplete core eng => Sys2Proof.Machine.execEngineComplete core eng s
  | .nop h => Sys2Proof.Machine.execNop h s
  | .add h rd ra b => Sys2Proof.Machine.execAdd h rd ra b s
  | .sub h rd ra b => Sys2Proof.Machine.execSub h rd ra b s
  | .and h rd ra b => Sys2Proof.Machine.execAnd h rd ra b s
  | .or h rd ra b => Sys2Proof.Machine.execOr h rd ra b s
  | .xor h rd ra b => Sys2Proof.Machine.execXor h rd ra b s
  | .shl h rd ra b => Sys2Proof.Machine.execShl h rd ra b s
  | .shr h rd ra b => Sys2Proof.Machine.execShr h rd ra b s
  | .sra h rd ra b => Sys2Proof.Machine.execSra h rd ra b s
  | .mul h rd ra b => Sys2Proof.Machine.execMul h rd ra b s
  | .mulhu h rd ra b => Sys2Proof.Machine.execMulhu h rd ra b s
  | .mulhs h rd ra b => Sys2Proof.Machine.execMulhs h rd ra b s
  | .min h rd ra b => Sys2Proof.Machine.execMin h rd ra b s
  | .max h rd ra b => Sys2Proof.Machine.execMax h rd ra b s
  | .minu h rd ra b => Sys2Proof.Machine.execMinu h rd ra b s
  | .maxu h rd ra b => Sys2Proof.Machine.execMaxu h rd ra b s
  | .cmpEq h pd ra b => Sys2Proof.Machine.execCmpEq h pd ra b s
  | .cmpNe h pd ra b => Sys2Proof.Machine.execCmpNe h pd ra b s
  | .cmpLt h pd ra b => Sys2Proof.Machine.execCmpLt h pd ra b s
  | .cmpGe h pd ra b => Sys2Proof.Machine.execCmpGe h pd ra b s
  | .cmpLtu h pd ra b => Sys2Proof.Machine.execCmpLtu h pd ra b s
  | .cmpGeu h pd ra b => Sys2Proof.Machine.execCmpGeu h pd ra b s
  | .plogAnd h pd pa na pb nb => Sys2Proof.Machine.execPlogAnd h pd pa na pb nb s
  | .plogOr h pd pa na pb nb => Sys2Proof.Machine.execPlogOr h pd pa na pb nb s
  | .plogXor h pd pa na pb nb => Sys2Proof.Machine.execPlogXor h pd pa na pb nb s
  | .moviG h rd imm => Sys2Proof.Machine.execMoviG h rd imm s
  | .moviA h ad imm => Sys2Proof.Machine.execMoviA h ad imm s
  | .addrAddG h ad aa gb => Sys2Proof.Machine.execAddrAddG h ad aa gb s
  | .addrAddImm h ad aa imm => Sys2Proof.Machine.execAddrAddImm h ad aa imm s
  | .addrSet h ad gb => Sys2Proof.Machine.execAddrSet h ad gb s
  | .addrGet h ad aa gb => Sys2Proof.Machine.execAddrGet h ad aa gb s
  | .br h rl off => Sys2Proof.Machine.execBr h rl off s
  | .brr h rd ra => Sys2Proof.Machine.execBrr h rd ra s
  | .loop h rl off => Sys2Proof.Machine.execLoop h rl off s
  | .ldrs h aa mode => Sys2Proof.Machine.execLdrs h aa mode s
  | .strs h aa mode => Sys2Proof.Machine.execStrs h aa mode s
  | .rsget h rg word => Sys2Proof.Machine.execRsget h rg word s
  | .rsput h rg word => Sys2Proof.Machine.execRsput h rg word s
  | .rdcad h rd => Sys2Proof.Machine.execRdcad h rd s
  | .rdcyc h rd => Sys2Proof.Machine.execRdcyc h rd s
  | .fence h mask => Sys2Proof.Machine.execFence h mask s
  | .iflush h => Sys2Proof.Machine.execIflush h s
  | .cend h => Sys2Proof.Machine.execCend h s
  | .dltight h ra => Sys2Proof.Machine.execDltight h ra s
  | .rddl h rd => Sys2Proof.Machine.execRddl h rd s
  | .trap h ra => Sys2Proof.Machine.execTrap h ra s
  | .shdl h sn ra => Sys2Proof.Machine.execShdl h sn ra s
  | .sacq h sn rb => Sys2Proof.Machine.execSacq h sn rb s
  | .stry h sn rb pd => Sys2Proof.Machine.execStry h sn rb pd s
  | .srel h sn => Sys2Proof.Machine.execSrel h sn s
  | .swait h sn => Sys2Proof.Machine.execSwait h sn s
  | .spoll h sn pd => Sys2Proof.Machine.execSpoll h sn pd s
  | .ssig h sn => Sys2Proof.Machine.execSsig h sn s
  | .qsub h ra aa pd => Sys2Proof.Machine.execQsub h ra aa pd s
  | .qsubw h ra aa pd => Sys2Proof.Machine.execQsubw h ra aa pd s
  | .qdone h ra rb => Sys2Proof.Machine.execQdone h ra rb s
  | .dma h asp mode am rl sn sen dir ag => Sys2Proof.Machine.execDma h asp mode am rl sn sen dir ag s
  | .semRequest die => Sys2Proof.Machine.execSemRequest die s
  | .controlResponse core => Sys2Proof.Machine.execControlResponse core s
  | .controlWaitTimeout core dt => Sys2Proof.Machine.execControlWaitTimeout core dt s
  | .holdBoundExpiry handle dt => Sys2Proof.Machine.execHoldBoundExpiry handle dt s
  | .deadlineExpiry clause dt => Sys2Proof.Machine.execDeadlineExpiry clause dt s
  | .mma h e => Sys2Proof.Machine.execMma h e s
  | .mmas h e => Sys2Proof.Machine.execMmas h e s
  | .mmar h e => Sys2Proof.Machine.execMmar h e s
  | .spill h e => Sys2Proof.Machine.execSpill h e s
  | .fill h e => Sys2Proof.Machine.execFill h e s
  | .vbinAdd h e => Sys2Proof.Machine.execVbinAdd h e s
  | .vbinSub h e => Sys2Proof.Machine.execVbinSub h e s
  | .vbinMul h e => Sys2Proof.Machine.execVbinMul h e s
  | .vbinMax h e => Sys2Proof.Machine.execVbinMax h e s
  | .vbinMin h e => Sys2Proof.Machine.execVbinMin h e s
  | .vfma h e => Sys2Proof.Machine.execVfma h e s
  | .vunCvt h e => Sys2Proof.Machine.execVunCvt h e s
  | .vunAbs h e => Sys2Proof.Machine.execVunAbs h e s
  | .vunNeg h e => Sys2Proof.Machine.execVunNeg h e s
  | .vunExp h e => Sys2Proof.Machine.execVunExp h e s
  | .vunExp2 h e => Sys2Proof.Machine.execVunExp2 h e s
  | .vunRcp h e => Sys2Proof.Machine.execVunRcp h e s
  | .vunRsqrt h e => Sys2Proof.Machine.execVunRsqrt h e s
  | .vredSum h e => Sys2Proof.Machine.execVredSum h e s
  | .vredMax h e => Sys2Proof.Machine.execVredMax h e s
  | .vredAbsmax h e => Sys2Proof.Machine.execVredAbsmax h e s
  | .vshuf h e => Sys2Proof.Machine.execVshuf h e s
  | .vstat h e => Sys2Proof.Machine.execVstat h e s
  | .quant h e => Sys2Proof.Machine.execQuant h e s
  | .vseed h e => Sys2Proof.Machine.execVseed h e s
  | .vflags h e => Sys2Proof.Machine.execVflags h e s
  | .vstrd h e => Sys2Proof.Machine.execVstrd h e s
  | .vstld h e => Sys2Proof.Machine.execVstld h e s
  | .vsmx h e => Sys2Proof.Machine.execVsmx h e s
  | .vsmxb h e => Sys2Proof.Machine.execVsmxb h e s
  | .vscan h e => Sys2Proof.Machine.execVscan h e s
  | .vscanLoadCarry h e => Sys2Proof.Machine.execVscanLoadCarry h e s
  | .vscanStoreCarry h e => Sys2Proof.Machine.execVscanStoreCarry h e s
  | .vpoolMax h e => Sys2Proof.Machine.execVpoolMax h e s
  | .vpoolAvg h e => Sys2Proof.Machine.execVpoolAvg h e s
  | .vrsz h e => Sys2Proof.Machine.execVrsz h e s
  | .clauseChoice core => Sys2Proof.Machine.execClauseChoice core s
  | .clauseStart core => Sys2Proof.Machine.execClauseStart core s
  | .clauseEnd core => Sys2Proof.Machine.execClauseEnd core s
  | .agePromotion isReq id idx dt => Sys2Proof.Machine.execAgePromotion isReq id idx dt s
  | .kickstandSave core => Sys2Proof.Machine.execKickstandSave core s
  | .fabricDrainTimeout core dt => Sys2Proof.Machine.execFabricDrainTimeout core dt s
  | .kickstandSaveDone core dt => Sys2Proof.Machine.execKickstandSaveDone core dt s
  | .kickstandRestore core => Sys2Proof.Machine.execKickstandRestore core s
  | .kickstandRestoreDone core poison dt => Sys2Proof.Machine.execKickstandRestoreDone core poison dt s
  | .doorbell port die q v => Sys2Proof.Machine.execDoorbell port die q v s
  | .submitRequest die => Sys2Proof.Machine.execSubmitRequest die s
  | .descriptorFetch die => Sys2Proof.Machine.execDescriptorFetch die s
  | .dmaNop die q => Sys2Proof.Machine.execDmaNop die q s
  | .dmaCopy die q => Sys2Proof.Machine.execDmaCopy die q s
  | .dmaFill die q => Sys2Proof.Machine.execDmaFill die q s
  | .dmaBarrier die q => Sys2Proof.Machine.execDmaBarrier die q s
  | .descriptorStart die q => Sys2Proof.Machine.execDescriptorStart die q s
  | .transferStart x => Sys2Proof.Machine.execTransferStart x s
  | .segmentIssue x => Sys2Proof.Machine.execSegmentIssue x s
  | .segmentDone x k => Sys2Proof.Machine.execSegmentDone x k s
  | .completion die q => Sys2Proof.Machine.execCompletion die q s
  | .completionResume die q => Sys2Proof.Machine.execCompletionResume die q s
  | .cqHeadWrite port die q v => Sys2Proof.Machine.execCqHeadWrite port die q v s
  | .irqTimer die q dt => Sys2Proof.Machine.execIrqTimer die q dt s
  | .queueEnable port die q => Sys2Proof.Machine.execQueueEnable port die q s
  | .queueDisable port die q => Sys2Proof.Machine.execQueueDisable port die q s
  | .queueDrain port die q => Sys2Proof.Machine.execQueueDrain port die q s
  | .queueCancel port die q => Sys2Proof.Machine.execQueueCancel port die q s
  | .transferResume x => Sys2Proof.Machine.execTransferResume x s
  | .semAllocate port die n w => Sys2Proof.Machine.execSemAllocate port die n w s
  | .semSignalWrite port die n v => Sys2Proof.Machine.execSemSignalWrite port die n v s
  | .clauseDesc die q => Sys2Proof.Machine.execClauseDesc die q s
  | .clauseNop die q => Sys2Proof.Machine.execClauseNop die q s
  | .clauseBarrier die q => Sys2Proof.Machine.execClauseBarrier die q s
  | .generate die q => Sys2Proof.Machine.execGenerate die q s
  | .cancel die q => Sys2Proof.Machine.execCancel die q s
  | .requestNop die q => Sys2Proof.Machine.execRequestNop die q s
  | .stepBoundary part => Sys2Proof.Machine.execStepBoundary part s
  | .backgroundZeroFill part isGroup idx => Sys2Proof.Machine.execBackgroundZeroFill part isGroup idx s
  | .streamSwap stream => Sys2Proof.Machine.execStreamSwap stream s
  | .streamExport port stream keep => Sys2Proof.Machine.execStreamExport port stream keep s
  | .streamExportResume => Sys2Proof.Machine.execStreamExportResume s
  | .streamImport port stream => Sys2Proof.Machine.execStreamImport port stream s
  | .streamTransferEnd failed => Sys2Proof.Machine.execStreamTransferEnd failed s
  | .migrationDone die i' page ok => Sys2Proof.Machine.execMigrationDone die i' page ok s
  | .migrationTimeout die i' dt => Sys2Proof.Machine.execMigrationTimeout die i' dt s
  | .nvmeCompletion die i' ok => Sys2Proof.Machine.execNvmeCompletion die i' ok s
  | .landingWrite off n v => Sys2Proof.Machine.execLandingWrite off n v s
  | .migrationSweep port die => Sys2Proof.Machine.execMigrationSweep port die s
  | .sweepDone die => Sys2Proof.Machine.execSweepDone die s
  | .invPages port die ctx pages => Sys2Proof.Machine.execInvPages port die ctx pages s
  | .invContext port die ctx => Sys2Proof.Machine.execInvContext port die ctx s
  | .invAll port die => Sys2Proof.Machine.execInvAll port die s
  | .invalidationDone die => Sys2Proof.Machine.execInvalidationDone die s
  | .dramAccess x k err => Sys2Proof.Machine.execDramAccess x k err s
  | .patrolRead die pa err => Sys2Proof.Machine.execPatrolRead die pa err s
  | .mr4Poll die ch mr4 hot overT dt => Sys2Proof.Machine.execMr4Poll die ch mr4 hot overT dt s
  | .dramRefresh die ch dt => Sys2Proof.Machine.execDramRefresh die ch dt s
  | .codeCacheWriteback die ch => Sys2Proof.Machine.execCodeCacheWriteback die ch s
  | .groupScrub port die g => Sys2Proof.Machine.execGroupScrub port die g s
  | .groupScrubDone die g => Sys2Proof.Machine.execGroupScrubDone die g s
  | .chainringFrame link toHub crcOk idle acked => Sys2Proof.Machine.execChainringFrame link toHub crcOk idle acked s
  | .chainringIdleFrame link toHub dt => Sys2Proof.Machine.execChainringIdleFrame link toHub dt s
  | .chainringLinkTimeout link dt => Sys2Proof.Machine.execChainringLinkTimeout link dt s
  | .quiesceDrained => Sys2Proof.Machine.execQuiesceDrained s
  | .chainringTrainDone link => Sys2Proof.Machine.execChainringTrainDone link s
  | .chainringTrainTimeout link dt => Sys2Proof.Machine.execChainringTrainTimeout link dt s
  | .restoreComplete link => Sys2Proof.Machine.execRestoreComplete link s
  | .retrainTimer link dt => Sys2Proof.Machine.execRetrainTimer link dt s
  | .chrDown port link => Sys2Proof.Machine.execChrDown port link s
  | .chrRetrain port link => Sys2Proof.Machine.execChrRetrain port link s
  | .flit p crcOk acked => Sys2Proof.Machine.execFlit p crcOk acked s
  | .fliferIdleFlit p dt => Sys2Proof.Machine.execFliferIdleFlit p dt s
  | .fliferLinkTimeout p dt => Sys2Proof.Machine.execFliferLinkTimeout p dt s
  | .routeRestore p dt => Sys2Proof.Machine.execRouteRestore p dt s
  | .fliferTrainDone p lanes pkg pvalid pport uid => Sys2Proof.Machine.execFliferTrainDone p lanes pkg pvalid pport uid s
  | .creditReturn p cls ch n => Sys2Proof.Machine.execCreditReturn p cls ch n s
  | .write p k data => Sys2Proof.Machine.execWrite p k data s
  | .read p k => Sys2Proof.Machine.execRead p k s
  | .ack p k => Sys2Proof.Machine.execAck p k s
  | .readData p k data => Sys2Proof.Machine.execReadData p k data s
  | .nack p k => Sys2Proof.Machine.execNack p k s
  | .e2eTimeout x k dt => Sys2Proof.Machine.execE2eTimeout x k dt s
  | .presence p k => Sys2Proof.Machine.execPresence p k s
  | .presenceTimer dt => Sys2Proof.Machine.execPresenceTimer dt s
  | .peerTimeout peer dt => Sys2Proof.Machine.execPeerTimeout peer dt s
  | .peerRearm port peer => Sys2Proof.Machine.execPeerRearm port peer s
  | .windowOpen port w => Sys2Proof.Machine.execWindowOpen port w s
  | .windowClose port w => Sys2Proof.Machine.execWindowClose port w s
  | .digest p k value group dirty epoch => Sys2Proof.Machine.execDigest p k value group dirty epoch s
  | .digestTimer dt => Sys2Proof.Machine.execDigestTimer dt s
  | .digestCommit port => Sys2Proof.Machine.execDigestCommit port s
  | .digestSettle dt => Sys2Proof.Machine.execDigestSettle dt s
  | .digestDone => Sys2Proof.Machine.execDigestDone s
  | .tsync p k time corr seq => Sys2Proof.Machine.execTsync p k time corr seq s
  | .tsyncTimer dt => Sys2Proof.Machine.execTsyncTimer dt s
  | .pdelayReq p t1 => Sys2Proof.Machine.execPdelayReq p t1 s
  | .pdelayResp p t1 t2 t3 => Sys2Proof.Machine.execPdelayResp p t1 t2 t3 s
  | .pdelayTimer dt => Sys2Proof.Machine.execPdelayTimer dt s
  | .snapSched p k id time => Sys2Proof.Machine.execSnapSched p k id time s
  | .snapAck p k id code => Sys2Proof.Machine.execSnapAck p k id code s
  | .timeLoad port cmd => Sys2Proof.Machine.execTimeLoad port cmd s
  | .timeStep port cmd => Sys2Proof.Machine.execTimeStep port cmd s
  | .timeRate port cmd => Sys2Proof.Machine.execTimeRate port cmd s
  | .timeApply die => Sys2Proof.Machine.execTimeApply die s
  | .skewCheck die jitter => Sys2Proof.Machine.execSkewCheck die jitter s
  | .timeConvert port count => Sys2Proof.Machine.execTimeConvert port count s
  | .snapshotArm port cmd => Sys2Proof.Machine.execSnapshotArm port cmd s
  | .snapshotLatch die => Sys2Proof.Machine.execSnapshotLatch die s
  | .logEntryWrite => Sys2Proof.Machine.execLogEntryWrite s
  | .logTailWrite port v => Sys2Proof.Machine.execLogTailWrite port v s
  | .frameStart port vc num ecc => Sys2Proof.Machine.execFrameStart port vc num ecc s
  | .frameEnd port vc num ecc => Sys2Proof.Machine.execFrameEnd port vc num ecc s
  | .longPacket port vc dt wc payload crc ecc => Sys2Proof.Machine.execLongPacket port vc dt wc payload crc ecc s
  | .lineStart port vc ecc => Sys2Proof.Machine.execLineStart port vc ecc s
  | .lineEnd port vc ecc => Sys2Proof.Machine.execLineEnd port vc ecc s
  | .lineProcess => Sys2Proof.Machine.execLineProcess s
  | .feTimeout s' dt => Sys2Proof.Machine.execFeTimeout s' dt s
  | .psetCommit port s' v => Sys2Proof.Machine.execPsetCommit port s' v s
  | .psetPrefetchDone s' bank => Sys2Proof.Machine.execPsetPrefetchDone s' bank s
  | .cameraStreamDisable port s' => Sys2Proof.Machine.execCameraStreamDisable port s' s
  | .swEnable port k => Sys2Proof.Machine.execSwEnable port k s
  | .swDisable port k => Sys2Proof.Machine.execSwDisable port k s
  | .swClear port k => Sys2Proof.Machine.execSwClear port k s
  | .swRampEnd k outMv inMv dt => Sys2Proof.Machine.execSwRampEnd k outMv inMv dt s
  | .swLimitTimeout k us => Sys2Proof.Machine.execSwLimitTimeout k us s
  | .audioBlock ch ago samples => Sys2Proof.Machine.execAudioBlock ch ago samples s
  | .tdmSyncLoss k => Sys2Proof.Machine.execTdmSyncLoss k s
  | .muteAssert => Sys2Proof.Machine.execMuteAssert s
  | .muteDeassert => Sys2Proof.Machine.execMuteDeassert s
  | .muteRelease dt => Sys2Proof.Machine.execMuteRelease dt s
  | .w0Frame samples => Sys2Proof.Machine.execW0Frame samples s
  | .w1Hop samples => Sys2Proof.Machine.execW1Hop samples s
  | .w2Hop => Sys2Proof.Machine.execW2Hop s
  | .hold1Timeout dt => Sys2Proof.Machine.execHold1Timeout dt s
  | .hold2Timeout dt => Sys2Proof.Machine.execHold2Timeout dt s
  | .wakeHandoff => Sys2Proof.Machine.execWakeHandoff s
  | .coolDownEnd dt => Sys2Proof.Machine.execCoolDownEnd dt s
  | .ringSegment ago samples => Sys2Proof.Machine.execRingSegment ago samples s
  | .pipeSample n => Sys2Proof.Machine.execPipeSample n s
  | .pipeFreeAcquire n => Sys2Proof.Machine.execPipeFreeAcquire n s
  | .readyPoll n => Sys2Proof.Machine.execReadyPoll n s
  | .pipeDisable port n => Sys2Proof.Machine.execPipeDisable port n s
  | .dieCoastRequest port die => Sys2Proof.Machine.execDieCoastRequest port die s
  | .dieRetainRequest port die => Sys2Proof.Machine.execDieRetainRequest port die s
  | .dieRunRequest port die => Sys2Proof.Machine.execDieRunRequest port die s
  | .entryQuiesced die => Sys2Proof.Machine.execEntryQuiesced die s
  | .entryWaitTimeout die dt => Sys2Proof.Machine.execEntryWaitTimeout die dt s
  | .pkgRetainRequest port => Sys2Proof.Machine.execPkgRetainRequest port s
  | .pkgOffRequest port => Sys2Proof.Machine.execPkgOffRequest port s
  | .wakePin => Sys2Proof.Machine.execWakePin s
  | .wakeAtTimer dt => Sys2Proof.Machine.execWakeAtTimer dt s
  | .offTimerExpiry dt => Sys2Proof.Machine.execOffTimerExpiry dt s
  | .pcieWake => Sys2Proof.Machine.execPcieWake s
  | .dieWake die => Sys2Proof.Machine.execDieWake die s
  | .wakeComplete target dt => Sys2Proof.Machine.execWakeComplete target dt s
  | .powerEstimate w dt => Sys2Proof.Machine.execPowerEstimate w dt s
  | .throttleAdjust dt => Sys2Proof.Machine.execThrottleAdjust dt s
  | .thermalRead temps dt => Sys2Proof.Machine.execThermalRead temps dt s
  | .sagTrip cycles => Sys2Proof.Machine.execSagTrip cycles s
  | .sagSaveComplete => Sys2Proof.Machine.execSagSaveComplete s
  | .sagRecover ms => Sys2Proof.Machine.execSagRecover ms s
  | .holdVinDrop => Sys2Proof.Machine.execHoldVinDrop s
  | .stallDetect core dt => Sys2Proof.Machine.execStallDetect core dt s
  | .waitForScan dt => Sys2Proof.Machine.execWaitForScan dt s
  | .coreClear core => Sys2Proof.Machine.execCoreClear core s
  | .clearDone core => Sys2Proof.Machine.execClearDone core s
  | .probeTimeout core dt => Sys2Proof.Machine.execProbeTimeout core dt s
  | .clearTimeout core dt => Sys2Proof.Machine.execClearTimeout core dt s
  | .coreResetTimeout core dt => Sys2Proof.Machine.execCoreResetTimeout core dt s
  | .resetCore port core => Sys2Proof.Machine.execResetCore port core s
  | .resetDie port die drainOk => Sys2Proof.Machine.execResetDie port die drainOk s
  | .resetHubBlock port block => Sys2Proof.Machine.execResetHubBlock port block s
  | .resetPackage port => Sys2Proof.Machine.execResetPackage port s
  | .resetRelease dom idx => Sys2Proof.Machine.execResetRelease dom idx s
  | .blockWatchdog block dt => Sys2Proof.Machine.execBlockWatchdog block dt s
  | .partitionCoreChange port part cores => Sys2Proof.Machine.execPartitionCoreChange port part cores s
  | .wayChange port w v => Sys2Proof.Machine.execWayChange port w v s
  | .wayClearDone w => Sys2Proof.Machine.execWayClearDone w s
  | .keyLoad port v => Sys2Proof.Machine.execKeyLoad port v s
  | .keyGenerate port v => Sys2Proof.Machine.execKeyGenerate port v s
  | .keyErase port v => Sys2Proof.Machine.execKeyErase port v s
  | .kill port v => Sys2Proof.Machine.execKill port v s
  | .killWaitTimeout dt => Sys2Proof.Machine.execKillWaitTimeout dt s
  | .scrubStart core => Sys2Proof.Machine.execScrubStart core s
  | .scrubDone core => Sys2Proof.Machine.execScrubDone core s
  | .scrubTimeout core dt => Sys2Proof.Machine.execScrubTimeout core dt s
  | .debugChallenge port => Sys2Proof.Machine.execDebugChallenge port s
  | .debugSubmit port => Sys2Proof.Machine.execDebugSubmit port s
  | .debugPassword port => Sys2Proof.Machine.execDebugPassword port s
  | .debugEnd port => Sys2Proof.Machine.execDebugEnd port s
  | .sessionExpiry dt => Sys2Proof.Machine.execSessionExpiry dt s
  | .passwordDelayEnd dt => Sys2Proof.Machine.execPasswordDelayEnd dt s
  | .vfRegisterAccess v off isRead n x => Sys2Proof.Machine.execVfRegisterAccess v off isRead n x s
  | .vfMemoryAccess v off isRead n x => Sys2Proof.Machine.execVfMemoryAccess v off isRead n x s
  | .vfFlr v => Sys2Proof.Machine.execVfFlr v s
  | .pfReset kind => Sys2Proof.Machine.execPfReset kind s
  | .msixUnmask fn entry => Sys2Proof.Machine.execMsixUnmask fn entry s
  | .ethFrameReceive n bytes fcsOk => Sys2Proof.Machine.execEthFrameReceive n bytes fcsOk s
  | .ethTransmit n buffer => Sys2Proof.Machine.execEthTransmit n buffer s
  | .sbpIndRead port => Sys2Proof.Machine.execSbpIndRead port s
  | .sbpIndWrite port => Sys2Proof.Machine.execSbpIndWrite port s
  | .sbpIndDone => Sys2Proof.Machine.execSbpIndDone s
  | .uartRxFrame startHigh b stopHigh => Sys2Proof.Machine.execUartRxFrame startHigh b stopHigh s
  | .uartDataWrite port b => Sys2Proof.Machine.execUartDataWrite port b s
  | .uartDataRead port => Sys2Proof.Machine.execUartDataRead port s
  | .i2cCmd port m v => Sys2Proof.Machine.execI2cCmd port m v s
  | .i3cPrivateCmd port m v => Sys2Proof.Machine.execI3cPrivateCmd port m v s
  | .i3cCccCmd port m v => Sys2Proof.Machine.execI3cCccCmd port m v s
  | .i2cTransferDone m nack rx devs => Sys2Proof.Machine.execI2cTransferDone m nack rx devs s
  | .i2cDataRead port m => Sys2Proof.Machine.execI2cDataRead port m s
  | .ibi m addr b hasByte => Sys2Proof.Machine.execIbi m addr b hasByte s
  | .stuckBus m dt => Sys2Proof.Machine.execStuckBus m dt s
  | .bootStageEnd o => Sys2Proof.Machine.execBootStageEnd o s
  | .trainZq port die v => Sys2Proof.Machine.execTrainZq port die v s
  | .trainCa port die v => Sys2Proof.Machine.execTrainCa port die v s
  | .trainWck2ck port die v => Sys2Proof.Machine.execTrainWck2ck port die v s
  | .trainReadDq port die v => Sys2Proof.Machine.execTrainReadDq port die v s
  | .trainWriteRead port die v => Sys2Proof.Machine.execTrainWriteRead port die v s
  | .trainSetRate port die v => Sys2Proof.Machine.execTrainSetRate port die v s
  | .trainApply port die v => Sys2Proof.Machine.execTrainApply port die v s
  | .trainOpDone die errs => Sys2Proof.Machine.execTrainOpDone die errs s
  | .trainCommit port die v density => Sys2Proof.Machine.execTrainCommit port die v density s
  | .aonPowerUp => Sys2Proof.Machine.execAonPowerUp s
  | .packageResetRelease => Sys2Proof.Machine.execPackageResetRelease s
  | .pwrgdFall => Sys2Proof.Machine.execPwrgdFall s
  | .offHoldEnd dt => Sys2Proof.Machine.execOffHoldEnd dt s
  | .railUndervoltage die rail => Sys2Proof.Machine.execRailUndervoltage die rail s
  | .refclkLoss => Sys2Proof.Machine.execRefclkLoss s
  | .refclkReturn dt => Sys2Proof.Machine.execRefclkReturn dt s
  | .pcieFundamentalReset => Sys2Proof.Machine.execPcieFundamentalReset s
  | .throttleAllowedPart die => Sys2Proof.Machine.execThrottleAllowedPart die s
  | .holdVinRecover => Sys2Proof.Machine.execHoldVinRecover s
  | .tdmFrameSyncGain k => Sys2Proof.Machine.execTdmFrameSyncGain k s
  | .lanesHsSyncChange port lock ulps => Sys2Proof.Machine.execLanesHsSyncChange port lock ulps s
  | .uartRxRearm samples => Sys2Proof.Machine.execUartRxRearm samples s
  | .uartTxFrameEnd => Sys2Proof.Machine.execUartTxFrameEnd s
  | .pcieCompletionTimeout die i' dt => Sys2Proof.Machine.execPcieCompletionTimeout die i' dt s
  | .creditStall p cls ch dt => Sys2Proof.Machine.execCreditStall p cls ch dt s

end Sys2Proof.Machine
end

