-- ==== Sys2Proof/Safety.lean ====
section
/-! DEFINITION. What every state of a run keeps: the canonical form of the memories, and the bounds the spec gives the
trouble log's input. -/

namespace Sys2Proof.Machine

/-- The byte memories and the row memories list each address once, rising, and nothing that equals what an unlisted
address reads as. -/
def State.memWf (s : State) : Bool :=
  mwf (0 : Byte) s.dram && mwf (0 : Byte) s.hubMem && mwf (0 : Byte) s.aon && mwf (0 : Row) s.spad &&
  mwf (0 : BitVec 2048) s.acc

/-- The register file, the cores and the clocks list each instance once, rising. -/
def State.listsWf (s : State) : Bool :=
  mrising s.regs && mrising s.cores && mrising s.clk && mrising s.chr

/-- R393: the writer's input FIFO holds at most 64 entries. -/
def State.logWf (s : State) : Bool := decide (s.log.fifo.length ≤ 64)

/-- The invariant of the model. -/
def State.wf (s : State) : Bool := s.memWf && s.listsWf && s.logWf

end Sys2Proof.Machine
end

