-- ==== Sys2Proof/Claims.lean ====
section
/-! DEFINITION. The terms the statements are written in: when a core issues an instruction, what a command leaves changed, and what it
leaves as it was. -/

namespace Sys2Proof.Machine

/-- The command is carried out and leaves a state with a property. -/
def Gives (i : Instr) (s : State) (p : State → Prop) : Prop := ∃ t, exec i s = .next t ∧ p t

/-- The core of `h` issues an instruction there and then, and its guard holds (R87, R93): a clause runs on it, nothing halts it and it
waits for nothing, and its PC is the address of a word in the scratchpad. -/
def Issues (h : Hd) (s : State) : Prop :=
  s.canIssue h.core.toNat = true ∧ 0 ≤ (s.core h.core.toNat).pc ∧ (s.core h.core.toNat).pc ≤ 0x3FFFF8 ∧
  (s.core h.core.toNat).pc % 8 = 0 ∧ (s.core h.core.toNat).pv h.pred.toNat ≠ h.pneg

/-- The same, with a guard that does not hold. -/
def Skips (h : Hd) (s : State) : Prop :=
  s.canIssue h.core.toNat = true ∧ 0 ≤ (s.core h.core.toNat).pc ∧ (s.core h.core.toNat).pc ≤ 0x3FFFF8 ∧
  (s.core h.core.toNat).pc % 8 = 0 ∧ (s.core h.core.toNat).pv h.pred.toNat = h.pneg

/-- In `t` core `c` holds `k`, but for its fetch buffer and its record of progress, which an issue updates; every other core holds what it
held in `s`. -/
def CoreHolds (c : Nat) (k : CoreS) (s t : State) : Prop :=
  t.core c = { k with fbuf := (t.core c).fbuf, lastRow := (t.core c).lastRow, prog := (t.core c).prog } ∧
  ∀ x, x ≠ c → t.core x = s.core x

/-- Nothing but core `c` has changed, and it holds `k` (but for its fetch buffer and its record of progress). -/
def OnlyCore (c : Nat) (k : CoreS) (s t : State) : Prop := CoreHolds c k s t ∧ { t with cores := s.cores } = s

/-- The instruction of `h` goes on to the next one, its core becoming `k` and nothing else changing. -/
def Becomes (i : Instr) (h : Hd) (k : CoreS) (s : State) : Prop := Gives i s (OnlyCore h.core.toNat k s)

/-- Every register field but those listed reads as before. -/
def RegsBut (l : List Fld) (s t : State) : Prop :=
  ∀ (f : Fld) (i j : Nat), (∀ g ∈ l, f.id ≠ g.id) → t.reg f i j = s.reg f i j

/-- Every byte of DRAM, of the Hub's memory and of the always-on memory, every scratchpad row and every accumulator row is as before. -/
def MemSame (s t : State) : Prop :=
  t.dram = s.dram ∧ t.hubMem = s.hubMem ∧ t.aon = s.aon ∧ t.spad = s.spad ∧ t.acc = s.acc

/-- Core `c` holds `k` (but for its fetch buffer and its record of progress), the listed register fields may have changed, and nothing
else has. -/
def CoreAndRegs (c : Nat) (k : CoreS) (l : List Fld) (s t : State) : Prop :=
  CoreHolds c k s t ∧ RegsBut l s t ∧ { t with cores := s.cores, regs := s.regs } = s

/-- A matrix or vector word has no reserved encoding (R94, R129, R144). -/
def matLegal (opc : Nat) (e : EF) : Bool :=
  matrixLegal opc e.aa.toNat e.ma.toNat e.ab.toNat e.mb.toNat e.ad.toNat e.md.toNat e.rc.toNat e.opx.toNat
def vecLegal (opc : Nat) (e : EF) : Bool :=
  vectorLegal opc e.aa.toNat e.ma.toNat e.ab.toNat e.mb.toNat e.ad.toNat e.md.toNat e.tile.toNat e.rc.toNat e.opx.toNat

/-- The head of a core's instruction, and whether its word is one that R92 to R96 assign; none for a command that is no instruction. -/
def issueOf (i : Instr) (s : State) : Option (Hd × Bool) :=
  match i with
  | .add h _ _ b => some (h, aluLegal h b)
  | .sub h _ _ b => some (h, aluLegal h b)
  | .and h _ _ b => some (h, aluLegal h b)
  | .or h _ _ b => some (h, aluLegal h b)
  | .xor h _ _ b => some (h, aluLegal h b)
  | .shl h _ _ b => some (h, aluLegal h b)
  | .shr h _ _ b => some (h, aluLegal h b)
  | .sra h _ _ b => some (h, aluLegal h b)
  | .mul h _ _ b => some (h, aluLegal h b)
  | .mulhu h _ _ b => some (h, aluLegal h b)
  | .mulhs h _ _ b => some (h, aluLegal h b)
  | .min h _ _ b => some (h, aluLegal h b)
  | .max h _ _ b => some (h, aluLegal h b)
  | .minu h _ _ b => some (h, aluLegal h b)
  | .maxu h _ _ b => some (h, aluLegal h b)
  | .cmpEq h pd _ b => some (h, aluLegal h b && decide (pd.toNat < 8))
  | .cmpNe h pd _ b => some (h, aluLegal h b && decide (pd.toNat < 8))
  | .cmpLt h pd _ b => some (h, aluLegal h b && decide (pd.toNat < 8))
  | .cmpGe h pd _ b => some (h, aluLegal h b && decide (pd.toNat < 8))
  | .cmpLtu h pd _ b => some (h, aluLegal h b && decide (pd.toNat < 8))
  | .cmpGeu h pd _ b => some (h, aluLegal h b && decide (pd.toNat < 8))
  | .plogAnd h _ _ _ _ _ => some (h, zeroOk h [(13, 3), (28, 36)])
  | .plogOr h _ _ _ _ _ => some (h, zeroOk h [(13, 3), (28, 36)])
  | .plogXor h _ _ _ _ _ => some (h, zeroOk h [(13, 3), (28, 36)])
  | .nop h => some (h, zeroOk h [(10, 54)])
  | .moviG h _ _ => some (h, true)
  | .moviA h _ _ => some (h, zeroOk h [(14, 2)])
  | .addrAddG h _ _ _ => some (h, zeroOk h [(14, 2), (20, 2)])
  | .addrAddImm h _ _ _ => some (h, zeroOk h [(14, 2), (20, 2)])
  | .addrSet h _ _ => some (h, zeroOk h [(14, 2), (20, 2)])
  | .addrGet h ad _ _ => some (h, zeroOk h [(14, 2), (20, 2)] && decide (ad = 0))
  | .br h _ _ => some (h, zeroOk h [(16, 16)])
  | .brr h _ _ => some (h, zeroOk h [(22, 42)])
  | .loop h rl _ => some (h, zeroOk h [(16, 16)] && decide (rl ≠ 0))
  | .ldrs h _ mode => some (h, zeroOk h [(16, 12), (32, 32)] && decide (mode ≠ 3))
  | .strs h _ mode => some (h, zeroOk h [(16, 12), (32, 32)] && decide (mode ≠ 3))
  | .rsget h _ _ => some (h, zeroOk h [(10, 6), (32, 32)])
  | .rsput h _ _ => some (h, zeroOk h [(10, 6), (32, 32)])
  | .rdcad h _ => some (h, sysLegal h)
  | .rdcyc h _ => some (h, sysLegal h)
  | .dltight h _ => some (h, sysLegal h)
  | .rddl h _ => some (h, sysLegal h)
  | .trap h _ => some (h, sysLegal h)
  | .fence h mask => some (h, sysLegal h && decide (mask.toNat < 64))
  | .iflush h => some (h, sysLegal h)
  | .cend h => some (h, sysLegal h)
  | .shdl h _ _ => some (h, legalQ h)
  | .sacq h _ _ => some (h, legalQ h)
  | .stry h _ _ _ => some (h, legalQ h)
  | .srel h _ => some (h, legalQ h)
  | .swait h _ => some (h, legalQ h)
  | .spoll h _ _ => some (h, legalQ h)
  | .ssig h _ => some (h, legalQ h)
  | .qdone h _ _ => some (h, legalQ h)
  | .qsub h _ _ _ => some (h, legalQ h)
  | .qsubw h _ _ pd => some (h, legalQ h && decide (pd = 0))
  | .dma h _ mode _ _ _ _ dir _ => some (h, zeroOk h [(35, 29)] && (if dir = 0 then decide (mode = 0) || decide (mode = 2) else decide (dir = 1) && decide (mode ≠ 3)))
  | .mma h e => some (h, matLegal 0x20 e)
  | .mmas h e => some (h, matLegal 0x21 e)
  | .mmar h e => some (h, matLegal 0x24 e)
  | .spill h e => some (h, matLegal 0x22 e)
  | .fill h e => some (h, matLegal 0x23 e)
  | .vbinAdd h e => some (h, vecLegal 0x30 (withFn e 0))
  | .vbinSub h e => some (h, vecLegal 0x30 (withFn e 1))
  | .vbinMul h e => some (h, vecLegal 0x30 (withFn e 2))
  | .vbinMax h e => some (h, vecLegal 0x30 (withFn e 3))
  | .vbinMin h e => some (h, vecLegal 0x30 (withFn e 4))
  | .vfma h e => some (h, vecLegal 0x31 (withFn e 0))
  | .vunCvt h e => some (h, vecLegal 0x32 (withFn e 0))
  | .vunAbs h e => some (h, vecLegal 0x32 (withFn e 1))
  | .vunNeg h e => some (h, vecLegal 0x32 (withFn e 2))
  | .vunExp h e => some (h, vecLegal 0x32 (withFn e 3))
  | .vunExp2 h e => some (h, vecLegal 0x32 (withFn e 4))
  | .vunRcp h e => some (h, vecLegal 0x32 (withFn e 5))
  | .vunRsqrt h e => some (h, vecLegal 0x32 (withFn e 6))
  | .vredSum h e => some (h, vecLegal 0x33 (withFn e 0))
  | .vredMax h e => some (h, vecLegal 0x33 (withFn e 1))
  | .vredAbsmax h e => some (h, vecLegal 0x33 (withFn e 2))
  | .vshuf h e => some (h, vecLegal 0x34 e)
  | .vstat h e => some (h, vecLegal 0x35 e)
  | .quant h e => some (h, vecLegal 0x36 e)
  | .vstrd h e => some (h, vecLegal 0x39 (withFn e 0))
  | .vstld h e => some (h, vecLegal 0x39 (withFn e 1))
  | .vsmx h e => some (h, vecLegal 0x3a e)
  | .vsmxb h e => some (h, vecLegal 0x3B e && (s.core h.core.toNat).tune)
  | .vscan h e => some (h, vecLegal 0x3c (withFn e 0))
  | .vscanLoadCarry h e => some (h, vecLegal 0x3c (withFn e 1))
  | .vscanStoreCarry h e => some (h, vecLegal 0x3c (withFn e 2))
  | .vpoolMax h e => some (h, vecLegal 0x3d (withFn e 0))
  | .vpoolAvg h e => some (h, vecLegal 0x3d (withFn e 1))
  | .vrsz h e => some (h, vecLegal 0x3e e)
  | .vseed h e => some (h, vecLegal 0x37 e)
  | .vflags h e => some (h, vecLegal 0x38 e)
  | _ => none

/-- The core records an exception (R121, R122), where it held no record, and issues nothing more. -/
def TookExc (c code detail : Nat) (s t : State) : Prop :=
  t.reg R.CORE_FAULT_CODE_CODE c = code ∧ t.reg R.CORE_FAULT_CODE_DETAIL c = detail ∧ t.reg R.CORE_FAULT_CODE_VALID c = 1 ∧
  t.reg R.CORE_FAULT_PC_PC c = ((s.core c).pc % (2 ^ 22 : Nat)).toNat ∧ (t.core c).halted = true

/-- An instruction sends a request or an answer: core `c` holds `k`, the requests and answers under way are `rq` and `rs`, the listed
register fields may have changed, and nothing else has. -/
def Sends (c : Nat) (k : CoreS) (rq : List Req) (rs : List Resp) (l : List Fld) (s t : State) : Prop :=
  CoreHolds c k s t ∧ t.die = { s.die with reqs := rq, resps := rs } ∧ RegsBut l s t ∧ { t with cores := s.cores, regs := s.regs, die := s.die } = s

/-- The record of a control wait (R123). -/
def WaitNoted (c kind obj : Nat) (s t : State) : Prop :=
  t.reg R.CORE_SEMWAIT_W0_VALID c = 1 ∧ t.reg R.CORE_SEMWAIT_W0_KIND c = kind ∧ t.reg R.CORE_SEMWAIT_W0_OBJECT c = obj % 2 ^ 15 ∧
  t.reg R.CORE_SEMWAIT_W1_START c = s.coreTick c % 2 ^ 32

def waitFlds : List Fld := [R.CORE_SEMWAIT_W0_VALID, R.CORE_SEMWAIT_W0_KIND, R.CORE_SEMWAIT_W0_OBJECT, R.CORE_SEMWAIT_W1_START]

def flagFlds : List Fld :=
  [R.CORE_ARITH_FLAGS_NAN_IN, R.CORE_ARITH_FLAGS_INVALID, R.CORE_ARITH_FLAGS_OVERFLOW, R.CORE_ARITH_FLAGS_UNDERFLOW, R.CORE_ARITH_FLAGS_ACC_SAT,
   R.CORE_ARITH_FLAGS_SCALE_NAN]

/-- The state after a time has passed. -/
def later (dt : Nat) (s : State) : State := { s with t := s.t + dt }

/-- Core `c` is about to spend a cycle in which the only row anyone has named is the control engine's `r`, at its turn of the wheel. -/
def ServesCtl (c : Nat) (r : CtlRow) (rest : List CtlRow) (u : State) : Prop :=
  let m := u.core c
  m.cycRun = true ∧ m.lastCyc ≠ some (u.cyc c) ∧ u.bit R.CORE_STATUS_SCRUB c = false ∧ u.bit R.CORE_STATUS_SAVE c = false ∧
  m.mq = [] ∧ m.vq = [] ∧ m.port = [] ∧ m.cq = r :: rest ∧ mget OwnS.idle m.own 7 = OwnS.idle ∧ r.ref.row % 8 = (7 + u.cyc c) % 8 ∧
  (∀ slot, m.anyUse slot = false)

/-- A register command reaches its register (R534, R39, R525, R515). -/
def Reaches (port : Port) (off : Nat) (s : State) : Prop := s.gate port off false = .open

/-- A packet with a property has left a port, or waits at one. -/
def Sent (ok : PktS → Prop) (s t : State) : Prop :=
  ∃ m q, (Out.packet m q ∈ t.out.drop s.out.length ∨ q ∈ (t.fport m).wait) ∧ ok q

/-- An answer of a TYPE with a CODE and data to the packet of header `k`. -/
def Answers (typ code data : Nat) (k : Pkt) (q : PktS) : Prop :=
  q.typ = typ ∧ q.hdr.code.toNat = code ∧ q.data = data ∧ q.hdr.dst = k.src ∧ q.hdr.psn = k.psn ∧ q.hdr.tag = k.tag

/-- A packet that arrives at port `m` is for this package, from another that is not lost (R348, R358). -/
def Arrives (m : Nat) (k : Pkt) (s : State) : Prop :=
  s.bit R.FAB_CFG_ENABLE = true ∧ s.portUp m = true ∧ k.src.toNat ≠ s.ownPkg ∧ k.dst.toNat = s.ownPkg ∧ bitOf (s.reg R.FAB_PEER_LOST_LOST) k.src.toNat = false

/-- A package reset has taken place (R478): the package is held in reset, every register but those that are always on reads its reset value
(and the mute, which its pin may assert), and the memories of the dies are empty. -/
def Wiped (trig : Nat) (t : State) : Prop :=
  t.pkg.held = true ∧ t.pkg.trig = trig ∧ (∀ (f : Fld) (i j : Nat), f.id ∉ aonIds → f.id ≠ R.AUD_STATUS_MUTE.id → t.reg f i j = f.rst.value i j) ∧
  (∀ c, t.core c = CoreS.reset) ∧ t.spad = [] ∧ t.acc = [] ∧ t.hubMem = []

/-- What the release of a package reset asks for (R542). -/
def MayRelease (s : State) : Prop :=
  s.pkg.held = true ∧ s.pkg.vaon = true ∧ s.pkg.sysPwr = true ∧ s.pwr.sag = none ∧ s.pwr.off = none

/-- The package has left reset (R376, R533, R542): boot begins, the compute dies are still in reset, the links train. -/
def Released (s t : State) : Prop :=
  t.pkg.held = false ∧ t.reg R.HUB_BOOT_STAGE = 1 ∧ t.reg R.LOG_BOOT_BOOT = (s.reg R.LOG_BOOT_BOOT + 1) % 2 ^ 16 ∧ t.count 4 = 0 ∧
  (∀ d, d < 4 → t.inReset 2 d = true) ∧ (∀ l, l < 8 → t.linkSt l = 0)

end Sys2Proof.Machine
end

