-- ==== Sys2Proof/Certificates/Slice0/Obligations.lean ====
section
/-! DEFINITION. The statements for the provers. -/

open Sys2Proof Sys2Proof.Machine

/-- R97: an ALU instruction writes RD with its function of g[RA] and its second operand, in 64-bit two's complement; a comparison writes PD with its relation
of the two. -/
def Obligations.AluAndCompareResults : Prop :=
  (∀ (h : Hd) (rd ra : BitVec 6) (b : Opd) (s : State), Issues h s → aluLegal h b = true →
    let m := s.core h.core.toNat
    let x := m.gv ra.toNat
    let y := opdVal m b
    let put := fun (v : Word) => CoreS.setG { m with pc := m.pc + 8 } rd.toNat v
    Becomes (.add h rd ra b) h (put (x + y)) s ∧
    Becomes (.sub h rd ra b) h (put (x - y)) s ∧
    Becomes (.and h rd ra b) h (put (x &&& y)) s ∧
    Becomes (.or h rd ra b) h (put (x ||| y)) s ∧
    Becomes (.xor h rd ra b) h (put (x ^^^ y)) s ∧
    Becomes (.shl h rd ra b) h (put (x <<< (y.toNat % 64))) s ∧
    Becomes (.shr h rd ra b) h (put (x >>> (y.toNat % 64))) s ∧
    Becomes (.sra h rd ra b) h (put (x.sshiftRight (y.toNat % 64))) s ∧
    Becomes (.mul h rd ra b) h (put (BitVec.ofNat 64 (x.toNat * y.toNat))) s ∧
    Becomes (.mulhu h rd ra b) h (put (BitVec.ofNat 64 (x.toNat * y.toNat / 2 ^ 64))) s ∧
    Becomes (.mulhs h rd ra b) h (put (BitVec.ofInt 64 (x.toInt * y.toInt / 2 ^ 64))) s ∧
    Becomes (.min h rd ra b) h (put (if x.toInt ≤ y.toInt then x else y)) s ∧
    Becomes (.max h rd ra b) h (put (if x.toInt ≤ y.toInt then y else x)) s ∧
    Becomes (.minu h rd ra b) h (put (if x.toNat ≤ y.toNat then x else y)) s ∧
    Becomes (.maxu h rd ra b) h (put (if x.toNat ≤ y.toNat then y else x)) s) ∧
  (∀ (h : Hd) (pd ra : BitVec 6) (b : Opd) (s : State), Issues h s → aluLegal h b = true → pd.toNat < 8 →
    let m := s.core h.core.toNat
    let x := m.gv ra.toNat
    let y := opdVal m b
    let put := fun (v : Bool) => CoreS.setP { m with pc := m.pc + 8 } pd.toNat v
    Becomes (.cmpEq h pd ra b) h (put (decide (x.toNat = y.toNat))) s ∧
    Becomes (.cmpNe h pd ra b) h (put (decide (x.toNat ≠ y.toNat))) s ∧
    Becomes (.cmpLt h pd ra b) h (put (decide (x.toInt < y.toInt))) s ∧
    Becomes (.cmpGe h pd ra b) h (put (decide (y.toInt ≤ x.toInt))) s ∧
    Becomes (.cmpLtu h pd ra b) h (put (decide (x.toNat < y.toNat))) s ∧
    Becomes (.cmpGeu h pd ra b) h (put (decide (y.toNat ≤ x.toNat))) s)

/-- R98: PLOG writes PD with its connective of two predicates, each inverted where its bit says so; MOVI writes its immediate, sign-extended into a g register;
ADDR adds to an address register, sets one or reads one, modulo 2^48, and its last function with an AD other than 0 is not assigned. -/
def Obligations.PlogMoveAndAddressResults : Prop :=
  (∀ (h : Hd) (pd pa pb : BitVec 3) (na nb : Bool) (s : State), Issues h s → zeroOk h [(13, 3), (28, 36)] = true →
    let m := s.core h.core.toNat
    let x := (m.pv pa.toNat).xor na
    let y := (m.pv pb.toNat).xor nb
    let put := fun (v : Bool) => CoreS.setP { m with pc := m.pc + 8 } pd.toNat v
    Becomes (.plogAnd h pd pa na pb nb) h (put (x && y)) s ∧
    Becomes (.plogOr h pd pa na pb nb) h (put (x || y)) s ∧
    Becomes (.plogXor h pd pa na pb nb) h (put (x.xor y)) s) ∧
  (∀ (h : Hd) (rd gb : BitVec 6) (ad aa : BitVec 4) (imm : BitVec 48) (off : BitVec 34) (s : State), Issues h s →
    let m := s.core h.core.toNat
    let n : CoreS := { m with pc := m.pc + 8 }
    Becomes (.moviG h rd imm) h (n.setG rd.toNat (imm.signExtend 64)) s ∧
    (zeroOk h [(14, 2)] = true → Becomes (.moviA h ad imm) h (n.setA ad.toNat imm) s) ∧
    (zeroOk h [(14, 2), (20, 2)] = true →
      Becomes (.addrAddG h ad aa gb) h (n.setA ad.toNat (m.av aa.toNat + (m.gv gb.toNat).setWidth 48)) s ∧
      Becomes (.addrAddImm h ad aa off) h (n.setA ad.toNat (m.av aa.toNat + off.signExtend 48)) s ∧
      Becomes (.addrSet h ad gb) h (n.setA ad.toNat ((m.gv gb.toNat).setWidth 48)) s ∧
      Becomes (.addrGet h 0 aa gb) h (n.setG gb.toNat ((m.av aa.toNat).setWidth 64)) s) ∧
    (ad ≠ 0 → s.bit R.CORE_FAULT_CODE_VALID h.core.toNat = false → Gives (.addrGet h ad aa gb) s fun t => TookExc h.core.toNat 2 0 s t ∧ MemSame s t))

/-- R99, R101, R43: LDRS and STRS name their row for the control engine's owner, RSGET and RSPUT move a 64-bit word of RS, and a word of RS is neither read nor written
while an LDRS is outstanding.
Model choices: log entry 11. -/
def Obligations.RowStagingInstructions : Prop :=
  ∀ (h : Hd) (aa : BitVec 4) (mode : BitVec 2) (rg word : BitVec 6) (s : State), Issues h s →
    let m := s.core h.core.toNat
    let n : CoreS := { m with pc := m.pc + 8 }
    let a := (m.av aa.toNat).toNat
    (zeroOk h [(16, 12), (32, 32)] = true → mode ≠ 3 → a % 512 = 0 → a < 0x400000 →
      Becomes (.ldrs h aa mode) h { n with cq := m.cq ++ [⟨.ldrs, ⟨0, mode.toNat, a / 512, 0⟩, 0⟩] } s ∧
      (m.rsBusy = false → Becomes (.strs h aa mode) h { n with cq := m.cq ++ [⟨.strs, ⟨0, mode.toNat, a / 512, 0⟩, m.rs⟩] } s)) ∧
    (zeroOk h [(10, 6), (32, 32)] = true → m.rsBusy = false →
      Becomes (.rsget h rg word) h (n.setG rg.toNat (m.rs.extractLsb' (64 * word.toNat) 64)) s ∧
      Becomes (.rsput h rg word) h { n with rs := rowPut m.rs (64 * word.toNat) 64 (m.gv rg.toNat).toNat } s) ∧
    (zeroOk h [(10, 6), (32, 32)] = true → m.rsBusy = true →
      exec (.rsget h rg word) s = .next s ∧ exec (.rsput h rg word) s = .next s)

/-- R100: NOP goes on; BR and BRR jump and link; LOOP counts down and jumps back until its counter is 0. A false guard takes no branch and counts nothing; BRR with
RB or FN other than 0 and LOOP with RL = 0 are not assigned. -/
def Obligations.ControlFlowResults : Prop :=
  ∀ (h : Hd) (rd ra : BitVec 6) (off : BitVec 32) (s : State),
    let c := h.core.toNat
    let m := s.core c
    let n : CoreS := { m with pc := m.pc + 8 }
    (Issues h s →
      (zeroOk h [(10, 54)] = true → Becomes (.nop h) h n s) ∧
      (zeroOk h [(16, 16)] = true →
        Becomes (.br h rd off) h { m.setG rd.toNat (BitVec.ofInt 64 (m.pc + 8)) with pc := m.pc + 8 * off.toInt } s) ∧
      (zeroOk h [(22, 42)] = true →
        let k := m.setG rd.toNat (BitVec.ofInt 64 (m.pc + 8))
        Becomes (.brr h rd ra) h { k with pc := ((k.gv ra.toNat).toNat % 2 ^ 22 : Nat) } s) ∧
      (zeroOk h [(16, 16)] = true → rd ≠ 0 →
        (m.gv rd.toNat = 1 → Becomes (.loop h rd off) h { m.setG rd.toNat 0 with pc := m.pc + 8 } s) ∧
        (m.gv rd.toNat ≠ 1 → Becomes (.loop h rd off) h { m.setG rd.toNat (m.gv rd.toNat - 1) with pc := m.pc + 8 * off.toInt } s)) ∧
      (s.bit R.CORE_FAULT_CODE_VALID c = false →
        (zeroOk h [(22, 42)] = false → Gives (.brr h rd ra) s fun t => TookExc c 2 0 s t ∧ MemSame s t) ∧
        Gives (.loop h 0 off) s fun t => TookExc c 2 0 s t ∧ MemSame s t)) ∧
    (Skips h s →
      (zeroOk h [(16, 16)] = true → Becomes (.br h rd off) h n s ∧ (rd ≠ 0 → Becomes (.loop h rd off) h n s)) ∧
      (zeroOk h [(22, 42)] = true → Becomes (.brr h rd ra) h n s))

/-- R102, R103, R84, R89, R315: the counters, the fence, the flush of the fetch buffer, the end of a clause and its deadline.
Model choices: log entries 11, 5. -/
def Obligations.SystemInstructionResults : Prop :=
  ∀ (h : Hd) (rd ra : BitVec 6) (mask : BitVec 8) (s : State), Issues h s → zeroOk h [(36, 28)] = true →
    let c := h.core.toNat
    let m := s.core c
    let n : CoreS := { m with pc := m.pc + 8 }
    Becomes (.rdcad h rd) h (n.setG rd.toNat (BitVec.ofNat 64 (s.coreTick c))) s ∧
    Becomes (.rdcyc h rd) h (n.setG rd.toNat (BitVec.ofNat 64 (s.cyc c))) s ∧
    (mask.toNat < 64 → s.fenceDone c mask.toNat = true → Becomes (.fence h mask) h n s) ∧
    (mask.toNat < 64 → s.fenceDone c mask.toNat = false → Becomes (.fence h mask) h { n with wait := .fence mask.toNat } s) ∧
    Gives (.iflush h) s (fun t => OnlyCore c n s t ∧ (t.core c).fbuf = []) ∧
    Gives (.cend h) s (fun t => OnlyCore c { m with wait := (t.core c).wait } s t ∧ ∃ w, (t.core c).wait = .cend w) ∧
    (m.dl = none → Becomes (.dltight h ra) h { n with dl := some (s.coreTick c + (m.gv ra.toNat).toNat) } s) ∧
    (∀ d, m.dl = some d →
      Becomes (.dltight h ra) h { n with dl := some (min d (s.coreTick c + (m.gv ra.toNat).toNat)) } s ∧
      Becomes (.rddl h rd) h (n.setG rd.toNat (BitVec.ofNat 64 (d - s.coreTick c))) s) ∧
    (m.dl = none → Becomes (.rddl h rd) h (n.setG rd.toNat (BitVec.allOnes 64)) s)

/-- R83: g0 reads 0 and p0 reads 1 in every core, whatever is written to them.
Model choices: log entry 7. -/
def Obligations.HardwiredCoreRegisters : Prop :=
  ∀ (m : CoreS) (r : Nat) (v : Word) (b : Bool),
    (m.setG r v).gv 0 = 0 ∧ (m.setP r b).pv 0 = true ∧ m.setG 0 v = m ∧ m.setP 0 b = m ∧
    (r ≠ 0 → (m.setG r v).gv r = v ∧ (m.setP r b).pv r = b) ∧
    (∀ q, q ≠ r → (m.setG r v).gv q = m.gv q ∧ (m.setP r b).pv q = m.pv q)

/-- R117, R121, R94, R41, R99, R102: what comes of the attempt to issue any core instruction. A core that cannot issue does nothing; a PC
outside the scratchpad, a word that is not assigned and TRAP raise codes 1, 2 and 8; a false guard costs only the instruction.
Model choices: log entries 11, 15. -/
def Obligations.IssueOutcomes : Prop :=
  ∀ (i : Instr) (h : Hd) (ok : Bool) (s : State), issueOf i s = some (h, ok) →
    let c := h.core.toNat
    let m := s.core c
    (s.canIssue c = false → exec i s = .next s) ∧
    (s.canIssue c = true → s.bit R.CORE_FAULT_CODE_VALID c = false →
      (m.pc < 0 ∨ 0x3FFFF8 < m.pc ∨ m.pc % 8 ≠ 0 → Gives i s fun t => TookExc c 1 0 s t ∧ MemSame s t) ∧
      (0 ≤ m.pc → m.pc ≤ 0x3FFFF8 → m.pc % 8 = 0 → ok = false → Gives i s fun t => TookExc c 2 0 s t ∧ MemSame s t)) ∧
    (Skips h s → ok = true → Becomes i h { m with pc := m.pc + 8 } s)

/-- R102, R97, R107, R99, R43: the exceptions that instructions raise by their operands: the software trap with the low 16 bits of g[RA], the
misuse of a semaphore register with its detail, a row operand that is misaligned or outside the scratchpad.
Model choices: log entries 15, 17. -/
def Obligations.SynchronousExceptions : Prop :=
  ∀ (h : Hd) (ra : BitVec 6) (sn : BitVec 5) (rb : BitVec 6) (aa : BitVec 4) (mode : BitVec 2) (s : State), Issues h s →
    s.bit R.CORE_FAULT_CODE_VALID h.core.toNat = false →
    let c := h.core.toNat
    let m := s.core c
    let a := (m.av aa.toNat).toNat
    (sysLegal h = true → Gives (.trap h ra) s fun t => TookExc c 8 ((m.gv ra.toNat).toNat % 2 ^ 16) s t ∧ MemSame s t) ∧
    (legalQ h = true → ∀ d, s.semMisuse c 1 (m.sv sn.toNat) (m.gv rb.toNat).toNat = some d →
      Gives (.sacq h sn rb) s fun t => TookExc c 5 d s t ∧ MemSame s t) ∧
    (legalQ h = true → ∀ d, s.semMisuse c 3 (m.sv sn.toNat) (m.gv 0).toNat = some d →
      Gives (.srel h sn) s fun t => TookExc c 5 d s t ∧ MemSame s t) ∧
    (zeroOk h [(16, 12), (32, 32)] = true → mode ≠ 3 →
      (a % 512 ≠ 0 → Gives (.ldrs h aa mode) s fun t => TookExc c 3 0 s t ∧ t.reg R.CORE_EXC_STATUS_ROW_ALIGN c = 1 ∧ MemSame s t) ∧
      (a % 512 = 0 → 0x400000 ≤ a → Gives (.ldrs h aa mode) s fun t => TookExc c 4 0 s t ∧ MemSame s t))

/-- R105, R107, R109, R123: the semaphore instructions: SHDL loads a handle; SACQ, STRY, SWAIT and SPOLL send their request and wait with the
PC kept, SACQ and SWAIT with the wait on record; SREL and SSIG post theirs and go on.
Model choices: log entries 11, 17, 22. -/
def Obligations.SemaphoreInstructions : Prop :=
  ∀ (h : Hd) (sn : BitVec 5) (rb : BitVec 6) (pd : BitVec 3) (v : Nat) (s : State), Issues h s → legalQ h = true →
    let c := h.core.toNat
    let m := s.core c
    let n : CoreS := { m with pc := m.pc + 8 }
    let b := (m.gv rb.toNat).toNat
    let b0 := (m.gv 0).toNat
    let now := s.coreTick c
    let send := fun (k : CoreS) (fn bound : Nat) (l : List Fld) => Sends c k (s.die.reqs ++ [⟨c, false, fn, v, bound, now, 0, 0⟩]) s.die.resps l s
    (s.handleOk c b = true → Becomes (.shdl h sn rb) h { n with sh := mset none m.sh sn.toNat (some b), shEvent := mset false m.shEvent sn.toNat (decide (s.smf R.QUE_SEM_W0_KIND b = 1)) } s) ∧
    (m.sv sn.toNat = some v →
      (s.semMisuse c 1 (some v) b = none → Gives (.sacq h sn rb) s fun t =>
        send { m with wait := .sem 1 v b 0 now } 1 b waitFlds t ∧ WaitNoted c 0 v s t) ∧
      (s.semMisuse c 2 (some v) b = none → Gives (.stry h sn rb pd) s (send { m with wait := .sem 2 v b pd.toNat now } 2 b [])) ∧
      (s.semMisuse c 3 (some v) b0 = none → Gives (.srel h sn) s (send { n with held := m.held.erase v } 3 m.clause [])) ∧
      (s.semMisuse c 4 (some v) b0 = none → Gives (.swait h sn) s fun t =>
        send { m with wait := .sem 4 v b0 0 now } 4 b0 waitFlds t ∧ WaitNoted c 1 v s t) ∧
      (s.semMisuse c 5 (some v) b0 = none → Gives (.spoll h sn pd) s (send { m with wait := .sem 5 v b0 pd.toNat now } 5 b0 [])) ∧
      (mget false m.shEvent sn.toNat = true → Gives (.ssig h sn) s (send n 6 (s.clausePart c) [])))

/-- R110, R109, R123: QSUB and QSUBW name the descriptor's row for the control engine's owner and send their request; QDONE asks for the
count; each waits with the PC kept.
Model choices: log entries 11, 22. -/
def Obligations.QueueInstructions : Prop :=
  ∀ (h : Hd) (ra rb : BitVec 6) (aa : BitVec 4) (pd : BitVec 3) (s : State), Issues h s → legalQ h = true →
    let c := h.core.toNat
    let m := s.core c
    let q := (m.gv ra.toNat).toNat
    let a := (m.av aa.toNat).toNat
    let now := s.coreTick c
    let row : List CtlRow := m.cq ++ [⟨.desc, ⟨0, 0, a / 512, 0⟩, 0⟩]
    s.queueOk c q = true →
      (a % 512 = 0 → a < 0x400000 → Gives (.qsub h ra aa pd) s fun t => ∃ w,
        Sends c { m with cq := row, wait := .que 0 q w pd.toNat 0 now } (s.die.reqs ++ [⟨c, true, 0, q, 0, now, 0, 0⟩]) s.die.resps [] s t) ∧
      (a % 512 = 0 → a < 0x400000 → Gives (.qsubw h ra aa 0) s fun t => (∃ w,
        Sends c { m with cq := row, wait := .que 1 q w 0 0 now } (s.die.reqs ++ [⟨c, true, 1, q, 0, now, 0, 0⟩]) s.die.resps waitFlds s t) ∧
        WaitNoted c 2 q s t) ∧
      (Gives (.qdone h ra rb) s fun t => ∃ w,
        Sends c { m with wait := .que 2 q w 0 rb.toNat now } s.die.reqs (s.die.resps ++ [⟨c, true, 2, q, true, 0, 0⟩]) [] s t)

/-- R111, R112, R272, R276: a DMA instruction whose operands pass their checks makes a transfer of g[RL] bytes between its scratchpad rows and
device memory, in the direction of DIR, and its core's port takes it last.
Model choices: log entries 11, 35. -/
def Obligations.DmaInstruction : Prop :=
  ∀ (h : Hd) (asp am : BitVec 4) (mode : BitVec 2) (rl : BitVec 6) (sn : BitVec 5) (dir : BitVec 2) (s : State), Issues h s →
    let c := h.core.toNat
    let m := s.core c
    let a := (m.av asp.toNat).toNat
    let d := (m.av am.toNat).toNat
    let len := (m.gv rl.toNat).toNat
    let x := s.die.nextX
    zeroOk h [(35, 29)] = true → (dir = 0 ∧ (mode = 0 ∨ mode = 2) ∨ dir = 1 ∧ mode ≠ 3) →
    a % 512 = 0 → 1 ≤ len → a + len ≤ 0x400000 → d % 64 = 0 → m.port.length < 16 →
    Gives (.dma h asp mode am rl sn false dir false) s fun t =>
      CoreHolds c { m with pc := m.pc + 8, port := m.port ++ [x], opSeq := m.opSeq + 1 } s t ∧
      (∃ v, t.xfer x = some v ∧ v.len = len ∧ v.org = .insn c m.clause none m.opSeq ∧ v.part = s.clausePart c ∧ v.segs = [] ∧ v.done = 0 ∧ v.fin = none ∧
        (dir = 0 → v.src = .dev d ∧ v.dst = .spad c (a / 512) ∧ v.dmode = mode.toNat) ∧
        (dir = 1 → v.src = .spad c (a / 512) ∧ v.dst = .dev d ∧ v.smode = mode.toNat)) ∧
      (∀ y, y ≠ x → t.xfer y = s.xfer y) ∧ t.die.nextX = x + 1 ∧ t.regs = s.regs ∧ { t with cores := s.cores, die := s.die } = s

/-- R40, R41, R113, R129, R142, R144, R145, R175: a matrix or vector instruction that passes its checks enters its queue last, with its operands read at
issue; stochastic rounding advances SRCTR by the output elements; a step count of 0 makes an MMA do nothing; VSMXB needs a clause that began with TUNE at 1.
Model choices: log entries 11, 15. -/
def Obligations.EngineInstructionsEnterQueues : Prop :=
  (∀ (h : Hd) (e : EF) (s : State), Issues h s →
    let c := h.core.toNat
    let m := s.core c
    let enters := fun (i : Instr) (opc : Nat) =>
      let o := engOp s c opc e
      matLegal opc e = true → (isMMA opc = true → 1 ≤ o.cnt) →
      engExc m e (!isMMA opc || decide (o.cnt ≤ 1024)) (matrixSpans o) = none → m.mq.length < 8 →
      Gives i s fun t =>
        CoreAndRegs c { m with pc := m.pc + 8, mq := m.mq ++ [planMatrix o], opSeq := m.opSeq + 1 } [R.CORE_SR_CTR_COUNT] s t ∧
        t.reg R.CORE_SR_CTR_COUNT c = (if opc = 0x22 ∧ oxRND e.opx.toNat = true then (s.reg R.CORE_SR_CTR_COUNT c + 4096) % 2 ^ 64
          else s.reg R.CORE_SR_CTR_COUNT c)
    let nothing := fun (i : Instr) (opc : Nat) => matLegal opc e = true → m.mq.length < 8 → (engOp s c opc e).cnt = 0 → Becomes i h { m with pc := m.pc + 8 } s
    nothing (.mma h e) 0x20 ∧ nothing (.mmas h e) 0x21 ∧ nothing (.mmar h e) 0x24 ∧
    enters (.mma h e) 0x20 ∧
    enters (.mmas h e) 0x21 ∧
    enters (.mmar h e) 0x24 ∧
    enters (.spill h e) 0x22 ∧
    enters (.fill h e) 0x23) ∧
  (∀ (h : Hd) (e : EF) (s : State), Issues h s →
    let c := h.core.toNat
    let m := s.core c
    let enters := fun (i : Instr) (opc : Nat) (f : EF) =>
      let o := engOp s c opc f
      vecLegal opc f = true → engExc m f (vectorCount o) (vectorSpans o) = none → m.vq.length < 8 →
      Gives i s fun t =>
        CoreAndRegs c { m with pc := m.pc + 8, vq := m.vq ++ [planVector o], opSeq := m.opSeq + 1, vsmxb := m.vsmxb || decide (opc = 0x3b) }
          [R.CORE_SR_CTR_COUNT] s t ∧
        t.reg R.CORE_SR_CTR_COUNT c = (if oxRND f.opx.toNat = true then (s.reg R.CORE_SR_CTR_COUNT c + outElems o) % 2 ^ 64
          else s.reg R.CORE_SR_CTR_COUNT c)
    (m.tune = true → enters (.vsmxb h e) 0x3b e) ∧
    enters (.vbinAdd h e) 0x30 (withFn e 0) ∧
    enters (.vbinSub h e) 0x30 (withFn e 1) ∧
    enters (.vbinMul h e) 0x30 (withFn e 2) ∧
    enters (.vbinMax h e) 0x30 (withFn e 3) ∧
    enters (.vbinMin h e) 0x30 (withFn e 4) ∧
    enters (.vfma h e) 0x31 (withFn e 0) ∧
    enters (.vunCvt h e) 0x32 (withFn e 0) ∧
    enters (.vunAbs h e) 0x32 (withFn e 1) ∧
    enters (.vunNeg h e) 0x32 (withFn e 2) ∧
    enters (.vunExp h e) 0x32 (withFn e 3) ∧
    enters (.vunExp2 h e) 0x32 (withFn e 4) ∧
    enters (.vunRcp h e) 0x32 (withFn e 5) ∧
    enters (.vunRsqrt h e) 0x32 (withFn e 6) ∧
    enters (.vredSum h e) 0x33 (withFn e 0) ∧
    enters (.vredMax h e) 0x33 (withFn e 1) ∧
    enters (.vredAbsmax h e) 0x33 (withFn e 2) ∧
    enters (.vshuf h e) 0x34 e ∧
    enters (.vstat h e) 0x35 e ∧
    enters (.quant h e) 0x36 e ∧
    enters (.vstrd h e) 0x39 (withFn e 0) ∧
    enters (.vstld h e) 0x39 (withFn e 1) ∧
    enters (.vsmx h e) 0x3a e ∧
    enters (.vscan h e) 0x3c (withFn e 0) ∧
    enters (.vscanLoadCarry h e) 0x3c (withFn e 1) ∧
    enters (.vscanStoreCarry h e) 0x3c (withFn e 2) ∧
    enters (.vpoolMax h e) 0x3d (withFn e 0) ∧
    enters (.vpoolAvg h e) 0x3d (withFn e 1) ∧
    enters (.vrsz h e) 0x3e e)

/-- R142, R143, R155, R158: VSEED sets the seed and zeroes the count; VFLAGS waits for both engines, reads the flags, and clears them where X is 1.
Model choices: log entries 11, 18. -/
def Obligations.SeedAndFlagInstructions : Prop :=
  ∀ (h : Hd) (e : EF) (s : State), Issues h s →
    let c := h.core.toNat
    let m := s.core c
    let n : CoreS := { m with pc := m.pc + 8 }
    (vecLegal 0x37 e = true → Gives (.vseed h e) s fun t =>
      CoreAndRegs c n [R.CORE_SR_SEED_SEED, R.CORE_SR_CTR_COUNT] s t ∧
      t.reg R.CORE_SR_SEED_SEED c = (m.gv e.rc.toNat).toNat ∧ t.reg R.CORE_SR_CTR_COUNT c = 0) ∧
    (vecLegal 0x38 e = true → s.fenceDone c 3 = true → Gives (.vflags h e) s fun t =>
      CoreAndRegs c (n.setG e.rc.toNat (BitVec.ofNat 64 (s.arithFlags c))) flagFlds s t ∧
      (if oxX e.opx.toNat then t.arithFlags c = 0 else t.arithFlags c = s.arithFlags c)) ∧
    (vecLegal 0x38 e = true → s.fenceDone c 3 = false →
      Becomes (.vflags h e) h { n with wait := .vflags e.rc.toNat (oxX e.opx.toNat) } s)

/-- R46, R49–R56, R101: in its turn of the wheel the control engine's row moves. In mode RAW a load takes the row and a store gives it; a store in
PUT makes an empty slot full; a load in TAKE makes a full slot empty; a load in TAKE of a slot that is not full moves nothing and blocks.
Model choices: log entries 2, 20. -/
def Obligations.RowServiceMovesRow : Prop :=
  ∀ (core : BitVec 6) (dt row : Nat) (data : Row) (rest : List CtlRow) (s : State),
    let c := core.toNat
    let u := later dt s
    let slot := row / 8
    let served := fun (kind : CtlKind) (mode : Nat) => ServesCtl c ⟨kind, ⟨0, mode, row, 0⟩, data⟩ rest u
    (served .ldrs 0 → Gives (.rowService core dt) s fun t => (t.core c).rs = u.spadRow c row ∧ (t.core c).cq = rest ∧ t.spad = s.spad) ∧
    (served .strs 0 → Gives (.rowService core dt) s fun t => t.spadRow c row = data ∧ (t.core c).cq = rest ∧
      ∀ k, k ≠ spadKey c row → mget 0 t.spad k = mget 0 s.spad k) ∧
    (served .strs 2 → mget 0 (s.core c).tags slot = 0 → Gives (.rowService core dt) s fun t =>
      t.spadRow c row = data ∧ mget 0 (t.core c).tags slot = 2 ∧ (t.core c).cq = rest) ∧
    (served .ldrs 2 → mget 0 (s.core c).tags slot = 2 → Gives (.rowService core dt) s fun t =>
      (t.core c).rs = u.spadRow c row ∧ mget 0 (t.core c).tags slot = 0 ∧ (t.core c).cq = rest) ∧
    (served .ldrs 2 → mget 0 (s.core c).tags slot = 0 → Gives (.rowService core dt) s fun t =>
      (t.core c).rs = (s.core c).rs ∧ (t.core c).cq = (s.core c).cq ∧ (mget OwnS.idle (t.core c).own 7).blk.isSome = true)

/-- R61, R62, R64, R77, R103, R108, R109, R120, R315–R317: an access that stays blocked for its limit, a core whose owners all stay blocked, a control wait, a
hold bound and a deadline that run out raise their codes on the core or end the transfer; finished instructions of an engine leave it.
Model choices: log entries 2, 3, 24. -/
def Obligations.TimeoutsAndBounds : Prop :=
  (∀ (core : BitVec 6) (owner : BitVec 3) (dt : Nat) (b : Blk) (s : State),
    let c := core.toNat
    let u := later dt s
    let m := s.core c
    (owner.toNat ≠ 5 → owner.toNat ≠ 6 → (mget OwnS.idle m.own owner.toNat).blk = some b → m.dl = none →
      s.reg R.CORE_TAGWAIT_LIMIT_TICKS c ≤ u.coreTick c - b.start → Gives (.tagWaitTimeout core owner dt) s fun t =>
        t.reg R.CORE_EXC_STATUS_TAGWAIT_TO c = 1 ∧ MemSame s t ∧
        ((u.running c).isSome = true → s.bit R.CORE_FAULT_CODE_VALID c = false → TookExc c 0x13 0 s t)) ∧
    (owner.toNat = 5 ∨ owner.toNat = 6 → u.oldBlk c owner.toNat = some b →
      s.reg R.CORE_TAGWAIT_DMA_LIMIT_TICKS c ≤ u.coreTick c - b.start → Gives (.dmaTagWaitTimeout core owner dt) s fun t =>
        t.reg R.CORE_EXC_STATUS_DMA_TAGWAIT_TO c = 1 ∧ MemSame s t ∧ ∀ v, t.xfer b.ref.opnd = some v → v.fin ≠ none) ∧
    (u.lockedUp c = true → s.bit R.CORE_TAGWAIT_CTRL_LOCAL_DETECT c = true → m.lockT = none → 
      (∀ k x, (mget OwnS.idle m.own k).blk = some x → x.start + s.reg R.CORE_TAGWAIT_CTRL_LOCAL_GRACE c ≤ u.coreTick c) →
      s.reg R.CORE_TAGWAIT_CTRL_LOCAL_GRACE c ≤ u.coreTick c →
      Gives (.localDeadlock core dt) s fun t => t.reg R.CORE_EXC_STATUS_LOCAL_DEADLOCK c = 1 ∧ MemSame s t ∧
        ((u.running c).isSome = true → s.bit R.CORE_FAULT_CODE_VALID c = false → TookExc c 0x12 0 s t)) ∧
    (Gives (.engineComplete core 0) s fun t => (t.core c).mq = m.mq.filter (fun o => !o.finished) ∧ (t.core c).vq = m.vq ∧ MemSame s t) ∧
    (Gives (.engineComplete core 1) s fun t => (t.core c).vq = m.vq.filter (fun o => !o.finished) ∧ (t.core c).mq = m.mq ∧ MemSame s t)) ∧
  (∀ (core : BitVec 6) (handle : BitVec 14) (id dt : Nat) (k : ClauseS) (s : State),
    let c := core.toNat
    let u := later dt s
    (∀ (v b pd start fn : Nat), (s.core c).wait = .sem fn v b pd start → (fn = 1 ∨ fn = 4) →
      s.reg R.CORE_SEMWAIT_LIMIT_TICKS c ≤ u.coreTick c - start → s.bit R.CORE_FAULT_CODE_VALID c = false →
      Gives (.controlWaitTimeout core dt) s fun t => TookExc c 0x14 0 s t ∧ (t.core c).wait = .none ∧ MemSame s t) ∧
    (s.smf R.QUE_SEM_W0_HELD handle.toNat = 1 → (s.sem handle.toNat).expiry ≤ u.count (handle.toNat / 4096) →
      s.candidate (s.sem handle.toNat).clause = false → s.clause (s.sem handle.toNat).clause = some k → k.st = .running →
      s.bit R.CORE_FAULT_CODE_VALID k.core = false →
      Gives (.holdBoundExpiry handle dt) s fun t => TookExc k.core 0x11 0 s t ∧ MemSame s t) ∧
    (s.clause id = some k → k.st = .running → s.candidate id = false → (∃ d, (s.core k.core).dl = some d ∧ d ≤ u.coreTick k.core) →
      s.bit R.CORE_FAULT_CODE_VALID k.core = false →
      Gives (.deadlineExpiry id dt) s fun t => TookExc k.core 0x10 0 s t ∧ MemSame s t))

/-- R283, R282, R108, R114: at the home block an acquire that finds the lock free gets it with its holder on record, one that finds it held is
answered no, a poll takes one from the count, a signal adds one; an answer ends the wait of the core it comes to.
Model choices: log entries 2, 23. -/
def Obligations.SemaphoreRequestsAndAnswers : Prop :=
  ∀ (die : BitVec 2) (core : BitVec 6) (r : Req) (s : State),
    (s.firstSem die.toNat = some r → s.probeLock r = false →
      let count := s.smf R.QUE_SEM_W0_COUNT r.obj
      let answered := fun (ok : Bool) (t : State) =>
        t.die.reqs = s.die.reqs.erase r ∧ t.die.resps = s.die.resps ++ [⟨r.core, false, r.fn, r.obj, ok, 0, 0⟩]
      (r.fn = 2 → s.semLive r = true → s.smf R.QUE_SEM_W0_HELD r.obj = 0 → Gives (.semRequest die) s fun t =>
        answered true t ∧ t.smf R.QUE_SEM_W0_HELD r.obj = 1 ∧ t.smf R.QUE_SEM_W0_HOLDER r.obj = r.core % 2 ^ 6 ∧ MemSame s t) ∧
      (r.fn = 2 → s.smf R.QUE_SEM_W0_HELD r.obj = 1 → Gives (.semRequest die) s fun t =>
        answered false t ∧ t.smf R.QUE_SEM_W0_HELD r.obj = 1 ∧ t.smf R.QUE_SEM_W0_HOLDER r.obj = s.smf R.QUE_SEM_W0_HOLDER r.obj) ∧
      (r.fn = 5 → s.semLive r = true → 0 < count → count < 2 ^ 16 → Gives (.semRequest die) s fun t =>
        answered true t ∧ t.smf R.QUE_SEM_W0_COUNT r.obj = count - 1) ∧
      (r.fn = 5 → count = 0 → Gives (.semRequest die) s fun t => answered false t ∧ t.smf R.QUE_SEM_W0_COUNT r.obj = 0)) ∧
    (∀ (a : Resp) (h b pd start : Nat), s.die.resps.find? (fun x => decide (x.core = core.toNat)) = some a → a.isQue = false → a.obj = h →
      (s.core core.toNat).wait = .sem a.fn h b pd start →
      Gives (.controlResponse core) s fun t =>
        (t.core core.toNat).wait = .none ∧ (t.core core.toNat).pc = (s.core core.toNat).pc + 8 ∧ t.die.resps = s.die.resps.erase a ∧
        t.reg R.CORE_SEMWAIT_W0_VALID core.toNat = 0 ∧ MemSame s t ∧
        (a.fn = 2 ∨ a.fn = 5 → (t.core core.toNat).p = ((s.core core.toNat).setP pd a.ok).p) ∧
        (a.fn = 1 ∨ a.fn = 2 → (t.core core.toNat).held = if a.ok then (s.core core.toNat).held ++ [h] else (s.core core.toNat).held))

/-- R258, R259, R262, R263, R269, R288, R291, R361: a doorbell in range moves TAIL and one out of range is counted and recorded; a write of CQ_HEAD likewise.
ENABLE taking 1 clears ERROR, disabling and draining take it to 0, a cancel takes HEAD to TAIL, and a command given while one runs changes nothing of the queue.
Model choices: log entries 2, 26, 29. -/
def Obligations.DoorbellsAndQueueCommands : Prop :=
  (∀ (port : Port) (die : BitVec 2) (lq : BitVec 13) (v : BitVec 32) (s : State),
    let q := qNum die lq
    (Reaches port (queueOff die.toNat lq.toNat 0x18) s → s.doorbellOk q v.toNat = true → Gives (.doorbell port die lq v) s fun t =>
      t.qf R.QUE_TAIL_TAIL q = v.toNat ∧ RegsBut [R.QUE_TAIL_TAIL] s t ∧ MemSame s t ∧ t.cores = s.cores) ∧
    (Reaches port (queueOff die.toNat lq.toNat 0x18) s → s.doorbellOk q v.toNat = false → Gives (.doorbell port die lq v) s fun t =>
      t.qf R.QUE_TAIL_TAIL q = s.qf R.QUE_TAIL_TAIL q ∧ t.qf R.QUE_ERR_CODE q = 2 ∧ t.qf R.QUE_ERR_VALID q = 1 ∧
      t.reg R.QUE_DOORBELL_BAD_COUNT die.toNat = min (s.reg R.QUE_DOORBELL_BAD_COUNT die.toNat + 1) (2 ^ 32 - 1) ∧ MemSame s t) ∧
    (Reaches port (queueOff die.toNat lq.toNat 0x28) s →
      ((s.qf R.QUE_DONE_COUNT q + 2 ^ 32 - v.toNat) % 2 ^ 32 ≤ s.depth q → Gives (.cqHeadWrite port die lq v) s fun t =>
        t.qf R.QUE_CQ_HEAD_CONSUMED q = v.toNat ∧ RegsBut [R.QUE_CQ_HEAD_CONSUMED] s t ∧ MemSame s t) ∧
      (s.depth q < (s.qf R.QUE_DONE_COUNT q + 2 ^ 32 - v.toNat) % 2 ^ 32 → Gives (.cqHeadWrite port die lq v) s fun t =>
        t.qf R.QUE_CQ_HEAD_CONSUMED q = s.qf R.QUE_CQ_HEAD_CONSUMED q ∧
        t.reg R.QUE_DOORBELL_BAD_COUNT die.toNat = min (s.reg R.QUE_DOORBELL_BAD_COUNT die.toNat + 1) (2 ^ 32 - 1)))) ∧
  (∀ (port : Port) (die : BitVec 2) (lq : BitVec 13) (s : State),
    let d := die.toNat
    let q := qNum die lq
    let idle := s.bit R.QUE_STATUS_BUSY d = false
    (Reaches port (queueOff d lq.toNat 0) s →
      (s.qf R.QUE_QCFG_ENABLE q = 0 → s.queueCtxOk q = true → Gives (.queueEnable port die lq) s fun t =>
        t.qf R.QUE_QCFG_ENABLE q = 1 ∧ t.qf R.QUE_QSTATE_ERROR q = 0 ∧ t.reg R.FAB_DIGEST_CTL_DIRTY = 1 ∧
        RegsBut [R.QUE_QCFG_ENABLE, R.QUE_QSTATE_ERROR, R.FAB_DIGEST_CTL_DIRTY] s t ∧ MemSame s t) ∧
      (s.qf R.QUE_QCFG_ENABLE q = 0 → s.queueCtxOk q = false → Gives (.queueEnable port die lq) s fun t => t.qf R.QUE_QCFG_ENABLE q = 0 ∧ MemSame s t) ∧
      (Gives (.queueDisable port die lq) s fun t => t.qf R.QUE_QCFG_ENABLE q = 0 ∧ MemSame s t)) ∧
    (Reaches port (queOff d 8) s →
      (idle → (s.queue q).fetched = [] → Gives (.queueDrain port die lq) s fun t =>
        t.qf R.QUE_QCFG_ENABLE q = 0 ∧ t.reg R.QUE_STATUS_BUSY d = 0 ∧ t.reg R.QUE_STATUS_DONE d = 1 ∧ MemSame s t) ∧
      (idle → (s.queue q).fetched ≠ [] → Gives (.queueDrain port die lq) s fun t =>
        t.qf R.QUE_QCFG_ENABLE q = 0 ∧ t.reg R.QUE_STATUS_BUSY d = 1 ∧ t.reg R.QUE_CMD_QUEUE d = lq.toNat ∧ MemSame s t) ∧
      (idle → s.qf R.QUE_HEAD_HEAD q < 2 ^ 32 → s.qf R.QUE_TAIL_TAIL q < 2 ^ 32 → Gives (.queueCancel port die lq) s fun t =>
        t.qf R.QUE_QCFG_ENABLE q = 0 ∧ t.qf R.QUE_HEAD_HEAD q = s.qf R.QUE_TAIL_TAIL q) ∧
      (s.bit R.QUE_STATUS_BUSY d = true →
        (Gives (.queueDrain port die lq) s fun t => t.qf R.QUE_QCFG_ENABLE q = s.qf R.QUE_QCFG_ENABLE q ∧ t.die = s.die ∧ MemSame s t) ∧
        (Gives (.queueCancel port die lq) s fun t => t.qf R.QUE_QCFG_ENABLE q = s.qf R.QUE_QCFG_ENABLE q ∧ t.die = s.die ∧ MemSame s t))))

/-- R282, R293, R278: a free semaphore takes its kind, partition and count; an unused one is freed; SIGNAL adds its value, and the count stays at
65,535 with a lost signal counted.
Model choices: log entries 27, 28. -/
def Obligations.SemaphoreRegisters : Prop :=
  ∀ (port : Port) (die : BitVec 2) (n : BitVec 12) (w : BitVec 32) (v : BitVec 16) (s : State),
    let h := semNum die n
    let count := s.smf R.QUE_SEM_W0_COUNT h
    (Reaches port (semOff die.toNat n.toNat 0) s → (port = .pf ∨ port = .sbp) →
      (s.smf R.QUE_SEM_W0_VALID h = 0 → Gives (.semAllocate port die n w) s fun t =>
        t.smf R.QUE_SEM_W0_VALID h = w.toNat % 2 ∧ t.smf R.QUE_SEM_W0_KIND h = w.toNat / 2 % 2 ∧ t.smf R.QUE_SEM_W0_PART h = w.toNat / 4 % 16 ∧
        t.smf R.QUE_SEM_W0_COUNT h = (if w.toNat / 2 % 2 = 1 then w.toNat / 2 ^ 16 else 0) ∧ MemSame s t) ∧
      (s.smf R.QUE_SEM_W0_VALID h = 1 → s.smf R.QUE_SEM_W0_KIND h = w.toNat / 2 % 2 → s.smf R.QUE_SEM_W0_PART h = w.toNat / 4 % 16 →
        count = w.toNat / 2 ^ 16 → w.toNat % 2 = 0 → s.smf R.QUE_SEM_W0_HELD h = 0 → (s.sem h).waiters = [] →
        Gives (.semAllocate port die n w) s fun t => t.smf R.QUE_SEM_W0_VALID h = 0 ∧ MemSame s t)) ∧
    (Reaches port (semOff die.toNat n.toNat 1) s → s.smf R.QUE_SEM_W0_VALID h = 1 → s.smf R.QUE_SEM_W0_KIND h = 1 → (s.sem h).waiters = [] →
      count ≤ 65535 → Gives (.semSignalWrite port die n v) s fun t =>
        t.smf R.QUE_SEM_W0_COUNT h = min (count + v.toNat) 65535 ∧ MemSame s t ∧
        (65535 < count + v.toNat → t.reg R.QUE_SIG_LOST_COUNT die.toNat =
          min (s.reg R.QUE_SIG_LOST_COUNT die.toNat + 1) (2 ^ 32 - 1)))

/-- R258, R260, R264–R268, R271, R304: the queue whose turn it is fetches its descriptor; a request that finds room enters its own; NOP and BARRIER end with
status OK in their turn; COPY and FILL make a transfer with their source, destination and length, or end with DESC_FORMAT.
Model choices: log entries 2, 25, 33. -/
def Obligations.DescriptorsEnterAndStart : Prop :=
  (∀ (die : BitVec 2) (lq raw : Nat) (r : Req) (s : State),
    let d := die.toNat
    let q := d * 8192 + lq
    (s.bit R.QUE_CTL_ENABLE d = true → s.fetchStopped d = false → s.fetchTurn d = some lq → lq < 8192 →
      s.daRead d (s.qf R.QUE_QCFG_CTX q) (s.ringAt q (s.qf R.QUE_HEAD_HEAD q)) 128 = .ok raw → opKnown (s.qf R.QUE_QCFG_KIND q) (raw % 256) = true →
      Gives (.descriptorFetch die) s fun t =>
        t.qf R.QUE_HEAD_HEAD q = (s.qf R.QUE_HEAD_HEAD q + 1) % 2 ^ 32 ∧
        (∃ e, (t.queue q).fetched = (s.queue q).fetched ++ [e] ∧ e.n = s.qf R.QUE_HEAD_HEAD q ∧ e.raw = raw ∧ e.endSt = none) ∧
        t.cores = s.cores ∧ t.spad = s.spad) ∧
    (s.firstQue d = some r → s.queRefusal r.obj = none → s.queFull r.obj = false → r.obj < 32768 →
      s.daWriteFault (r.obj / 8192) (s.qf R.QUE_QCFG_CTX r.obj) (s.qf R.QUE_RING_BASE_ADDR r.obj * 4096 + 128 * (s.qf R.QUE_TAIL_TAIL r.obj % s.depth r.obj)) 128 = none →
      Gives (.submitRequest die) s fun t =>
        t.qf R.QUE_TAIL_TAIL r.obj = (s.qf R.QUE_TAIL_TAIL r.obj + 1) % 2 ^ 32 ∧ t.die.resps = s.die.resps ++ [⟨r.core, true, r.fn, r.obj, true, 0, 0⟩] ∧
        t.die.reqs = s.die.reqs.erase r)) ∧
  (∀ (die : BitVec 2) (lq : BitVec 13) (d : DescS) (s : State),
    let q := qNum die lq
    let k := s.queue q
    let ends := fun (st : Nat) (t : State) => ∃ e ∈ (t.queue q).ending, e.n = d.n ∧ e.endSt = some st
    let starts := fun (src : Side) (t : State) => ∃ v, t.xfer s.die.nextX = some v ∧ v.org = .desc q d.n ∧ v.len = bits d.raw 192 32 ∧
      v.src = src ∧ v.dst = sideOf (bits d.raw 128 64) ∧ v.place = 0 ∧ t.die.nextX = s.die.nextX + 1 ∧ MemSame s t
    s.qf R.QUE_QCFG_KIND q = 0 → k.fetched.find? (fun x => decide (x.n = d.n)) = some d → d.started = false → d.endSt = none →
    (k.fetched.find? (fun x => !x.started && x.endSt.isNone && decide (x.raw % 256 = 0)) = some d → plainOk d.raw = true → bitOf d.raw 9 = false →
      Gives (.dmaNop die lq) s fun t => ends stOK t ∧ MemSame s t) ∧
    (k.nextUp = some d →
      (d.raw % 256 = 1 → s.copyOk q d.raw = true → bitOf d.raw 9 = false → Gives (.dmaCopy die lq) s (starts (sideOf (bits d.raw 64 64)))) ∧
      (d.raw % 256 = 2 → s.copyOk q d.raw = true → bitOf d.raw 9 = false → Gives (.dmaFill die lq) s (starts (.fill (bits d.raw 64 64)))) ∧
      (d.raw % 256 = 1 → s.copyOk q d.raw = false → Gives (.dmaCopy die lq) s fun t => ends stDescFormat t ∧ MemSame s t) ∧
      (d.raw % 256 = 3 → plainOk d.raw = true → k.first d.n = true → Gives (.dmaBarrier die lq) s fun t => ends stOK t ∧ MemSame s t) ∧
      (d.raw % 256 = 3 → plainOk d.raw = true → k.first d.n = false → exec (.dmaBarrier die lq) s = .next s) ∧
      (d.raw % 256 = 1 → s.copyOk q d.raw = true → k.first d.n = true → bitOf d.raw 9 = true →
        Gives (.descriptorStart die lq) s (starts (sideOf (bits d.raw 64 64))))))

/-- R267–R270: the oldest ended descriptor of a queue completes: its record goes to host memory where CQ_HOST says so, DONE_COUNT counts it, and it
leaves the queue; the interrupt that its timer holds back is sent when the time is over.
Model choices: log entries 2, 26, 30. -/
def Obligations.CompletionsAndInterrupts : Prop :=
  ∀ (die : BitVec 2) (lq : BitVec 13) (d : DescS) (rest : List DescS) (dt t0 : Nat) (s : State),
    let q := qNum die lq
    let done := s.qf R.QUE_DONE_COUNT q
    let completes := fun (i : Instr) =>
      (s.queue q).ending = d :: rest → (s.queue q).recWait = false → bitOf d.raw 8 = false → bitOf d.raw 10 = false →
      (s.qf R.QUE_QCFG_CQ_EN q = 0 → Gives i s fun t =>
        t.qf R.QUE_DONE_COUNT q = (done + 1) % 2 ^ 64 ∧ (t.queue q).ending = rest ∧ t.out = s.out ∧ MemSame s t) ∧
      (s.qf R.QUE_QCFG_CQ_EN q = 1 → s.qf R.QUE_QCFG_CQ_HOST q = 1 → (done + 2 ^ 32 - s.qf R.QUE_CQ_HEAD_CONSUMED q) % 2 ^ 32 ≠ s.depth q → Gives i s fun t =>
        t.qf R.QUE_DONE_COUNT q = (done + 1) % 2 ^ 64 ∧ (t.queue q).ending = rest ∧ MemSame s t ∧
        t.out = s.out ++ [.hostWrite (s.qf R.QUE_CQ_BASE_ADDR q * 512 + 32 * (done % s.depth q)) 32 (recordOf d done (s.depth q))]) ∧
      (s.qf R.QUE_QCFG_CQ_EN q = 1 → (done + 2 ^ 32 - s.qf R.QUE_CQ_HEAD_CONSUMED q) % 2 ^ 32 = s.depth q → exec i s = .next s)
    completes (.completion die lq) ∧ completes (.completionResume die lq) ∧
    ((s.queue q).irqSince = some t0 → s.qf R.QUE_IRQ_EN q = 1 → s.qf R.QUE_IRQ_TIME q ≠ 0 → t0 + s.qf R.QUE_IRQ_TIME q * 1500 ≤ s.t + dt →
      s.vecOwner (s.qf R.QUE_IRQ_VECTOR q) = (0, s.qf R.QUE_IRQ_VECTOR q) → mget false s.host.unmask (s.qf R.QUE_IRQ_VECTOR q) = true →
      Gives (.irqTimer die lq dt) s fun t =>
        t.out = s.out ++ [.msix 0 (s.qf R.QUE_IRQ_VECTOR q)] ∧ (t.queue q).irqCnt = 0 ∧ (t.queue q).irqSince = none ∧ MemSame s t)

/-- R272, R273, R275, R276: a transfer without a scratchpad side takes a free copy engine; a segment whose accesses all translate issues; data that
is read is held; data that is written ends its segment; an ended prefix counts; a transfer whose page has come back goes on at the head of its port.
Model choices: log entries 2, 34, 35. -/
def Obligations.TransferProgress : Prop :=
  ∀ (x k : Nat) (v : Xfer) (g : Seg) (s : State), s.xfer x = some v →
    let quietHome := fun (d : Nat) => s.inReset 2 d = false ∧ s.pwrState d = 0 ∧ s.entering d = none
    let rd := (v.reads k).map Prod.fst
    let wr := (v.writes k g.data).map Prod.fst
    (∀ e, v.place = 0 → v.fin = none → v.ag = none → s.earlierWaits v = false → s.imaged x = false → s.portHeld v = false → xferCores v = [] →
      s.freeEngine v.die = some e → Gives (.transferStart x) s fun t => t.xfer x = some { v with place := 1 + e } ∧ t.regs = s.regs ∧ MemSame s t) ∧
    (v.fin = none → v.susp = none → k = v.k → v.k < v.segCount → s.onTurn x v = true → v.scatterBusy = false → s.ops v.die none < 4096 →
      s.ops v.die (some v.part) < s.reg R.QUE_PART_OPS_LIMIT v.die v.part → s.sidePeer v v.src (v.segAt k).1 false = none →
      s.sidePeer v v.dst (v.segAt k).1 true = none → s.segFault v k false false = none → s.bit R.CHR_STATUS_QUIESCE = false →
      (∀ d ∈ s.homes v false rd ++ s.homes v true ((v.writes k 0).map Prod.fst), quietHome d) →
      Gives (.segmentIssue x) s fun t => ∃ w n, t.xfer x = some w ∧ w.k = v.k + 1 ∧ w.segs = v.segs ++ [n] ∧ n.k = v.k ∧ n.len = (v.segAt v.k).2) ∧
    (s.seg x k = some g → g.st = .needRead → g.srcKind = 2 → (∀ a ∈ rd, s.scrubbing v a false = false) → (∀ d ∈ s.homes v false rd, quietHome d) →
      s.firstBad v false rd = none → (∀ r ∈ v.reads k, s.badKind v r.1 r.2 = 0) →
      Gives (.dramAccess x k 0) s fun t => ∃ n, t.seg x k = some n ∧ n.st = .haveData ∧ n.data = s.segData v k) ∧
    (s.seg x k = some g → g.st = .haveData → g.dstKind = 2 → (∀ a ∈ wr, s.scrubbing v a true = false) →
      (∀ d ∈ s.homes v true ((v.writes k 0).map Prod.fst), quietHome d) → (v.writes k 0).map Prod.fst = wr →
      s.firstBad v true wr = none → (∀ w ∈ v.writes k g.data, s.writePoison v w.1 w.2.1 = false) →
      Gives (.dramAccess x k 0) s fun t => ∃ n, t.seg x k = some n ∧ n.st = .ended) ∧
    (s.seg x k = some g → g.st = .ended → k = v.done → v.segs = [g] → v.fin = none → v.done + 1 < v.segCount → (∀ c, (s.core c).wait = .none) →
      Gives (.segmentDone x k) s fun t => t.xfer x = some { v with done := v.done + 1, segs := [] } ∧ MemSame s t) ∧
    (∀ pte, v.susp = some pte → s.migWaits pte = false → bitOf (s.dramGet pte 8) 3 = false → s.imaged x = false →
      Gives (.transferResume x) s fun t => (∃ w, t.xfer x = some w ∧ w.susp = none) ∧ MemSame s t ∧ ∀ c ∈ xferCores v, (t.core c).port.contains x = true)

/-- R224, R237, R242, R5: bytes stored in DRAM through its home controller read back, whatever the group's encryption, and no other byte reads
differently; a unit with an uncorrectable error takes a whole write and none in part,
whose read of the unit counts the error (R240).
Model choices: log entries 8, 44, 49. -/
def Obligations.DramReadAfterWrite : Prop :=
  ∀ (pa n v : Nat) (s : State), (∀ u ∈ unitsOf pa n, mget 0 s.die.errs u ≠ 2) →
    (run (dramStore pa n v) s).dramGet pa n = v % 256 ^ n ∧
    (∀ a, a < pa ∨ pa + n ≤ a → (run (dramStore pa n v) s).dramByte a = s.dramByte a) ∧
    (∀ u x, mget 0 s.die.errs u = 2 → (run (dramStore (64 * u) 64 x) s).dramGet (64 * u) 64 = x % 256 ^ 64 ∧
      (run (dramStore (64 * u) 64 x) s).badUnit (64 * u) 64 = none ∧
      ((∀ p, p < 16 → s.reg R.XLT_MIG_CFG_ENTRIES (paDie (64 * u)) p = 0) →
        let t := run (dramStore (64 * u) 32 x) s
        t.dram = s.dram ∧ mget 0 t.die.errs u = 2 ∧ t.reg R.DMC_ECC_COUNT_UE (paDie (64 * u)) (s.chanOf (64 * u)) =
          satAdd R.DMC_ECC_COUNT_UE.w (s.reg R.DMC_ECC_COUNT_UE (paDie (64 * u)) (s.chanOf (64 * u))) 1 % 2 ^ R.DMC_ECC_COUNT_UE.w))

/-- R296–R299, R266: a clause descriptor that passes its checks becomes a clause that waits for its core, one that fails ends with the status of its
first failed check; NOP and BARRIER of a clause queue end with status OK in their turn.
Model choices: log entries 2, 32. -/
def Obligations.ClauseDescriptors : Prop :=
  ∀ (die : BitVec 2) (lq : BitVec 13) (d : DescS) (s : State),
    let q := qNum die lq
    let next := fun (op : Nat) => (s.queue q).fetched.find? (fun x => !x.started && x.endSt.isNone && decide (x.raw % 256 = op)) = some d
    let ends := fun (st : Nat) (t : State) => ∃ e ∈ (t.queue q).ending, e.n = d.n ∧ e.endSt = some st
    s.qf R.QUE_QCFG_KIND q = 1 → (s.queue q).fetched.find? (fun x => decide (x.n = d.n)) = some d →
    (∀ e, next 1 → s.clauseCheck q d.raw = .inr e →
      s.inReset 2 (dieOf (s.mkClause q d e).core) = false → s.entering (dieOf (s.mkClause q d e).core) = none → s.killing (s.mkClause q d e).ctx = false →
      Gives (.clauseDesc die lq) s fun t =>
        t.clause s.sch.nextC = some (s.mkClause q d e) ∧ t.sch.nextC = s.sch.nextC + 1 ∧ t.cores = s.cores ∧ t.spad = s.spad) ∧
    (∀ st, next 1 → s.clauseCheck q d.raw = .inl st → Gives (.clauseDesc die lq) s fun t =>
      ends st t ∧ t.sch = s.sch ∧ t.cores = s.cores ∧ t.spad = s.spad) ∧
    (next 0 → clausePlainOk d.raw = true → bitOf d.raw 9 = false → Gives (.clauseNop die lq) s fun t => ends stOK t ∧ t.sch = s.sch ∧ MemSame s t) ∧
    (next 0 → clausePlainOk d.raw = false → Gives (.clauseNop die lq) s fun t => ends stDescFormat t ∧ MemSame s t) ∧
    (next 3 → clausePlainOk d.raw = true → (s.queue q).first d.n = true → Gives (.clauseBarrier die lq) s fun t =>
      ends stOK t ∧ t.sch = s.sch ∧ MemSame s t) ∧
    (next 3 → clausePlainOk d.raw = true → (s.queue q).first d.n = false → exec (.clauseBarrier die lq) s = .next s)

/-- R301, R299, R302, R303: the scheduler's choice goes to its code load, or to its restore; a clause that has waited for the age limit rises one
class, at most to 3, and is counted.
Model choices: log entries 2, 58. -/
def Obligations.ClauseChoiceAndAging : Prop :=
  ∀ (core : BitVec 6) (id dt : Nat) (k : ClauseS) (x : Option Nat) (s : State),
    let c := core.toNat
    let now := (later dt s).coreTick k.core
    let limit := s.reg R.SEQ_AGE_AGE_LIMIT 0 k.part
    let open_ := s.coreOpen c = true ∧ s.inRecovery c = false ∧ s.throttled (dieOf c) = false ∧ s.choose c = some (id, k, x)
    s.clause id = some k →
    (open_ → k.sus = false → k.code = 0 → Gives (.clauseChoice core) s fun t =>
      t.clause id = some { k with st := .chosen, first := false } ∧ t.die = s.die ∧ t.regs = s.regs ∧ MemSame s t) ∧
    (open_ → k.sus = false → k.code ≠ 0 → Gives (.clauseChoice core) s fun t =>
      t.clause id = some { k with st := .loading, first := false } ∧ t.regs = s.regs ∧ MemSame s t ∧
      ∃ v, t.xfer s.die.nextX = some v ∧ v.org = .code id ∧ v.src = .dev k.code ∧ v.dst = .spad k.core k.row ∧ v.len = 512 * k.rows) ∧
    (open_ → k.sus = true → Gives (.clauseChoice core) s fun t => t.clause id = some { k with st := .restoring } ∧ t.die = s.die ∧ MemSame s t) ∧
    (s.coreOpen c = false → exec (.clauseChoice core) s = .next s) ∧
    (k.st = .waiting → k.eclass < 3 → limit ≠ 0 → k.waitBase + limit ≤ now → Gives (.agePromotion false id 0 dt) s fun t =>
      t.clause id = some { k with eclass := k.eclass + 1, bclass := k.eclass + 1, waitBase := now } ∧
      t.reg R.SEQ_PROMOTE_COUNT 0 k.part = min (s.reg R.SEQ_PROMOTE_COUNT 0 k.part + 1) (2 ^ 32 - 1) ∧
      RegsBut [R.SEQ_PROMOTE_COUNT] s t ∧ t.cores = s.cores ∧ MemSame s t)

/-- R88, R156, R83: a clause starts with its arguments in g1 to g15, every other register 0, its PC at its entry, no wait, no lock, empty engines
and the arithmetic state clear.
Model choices: log entry 2. -/
def Obligations.ClauseStartState : Prop :=
  ∀ (core : BitVec 6) (id : Nat) (k : ClauseS) (s : State),
    let c := core.toNat
    s.chosenOn c = some (id, k) → s.clause id = some k → k.streams = [] → s.strReady k = true → (s.core c).cycRun = true →
    Gives (.clauseStart core) s fun t =>
      t.clause id = some { k with st := .running, ran := true } ∧
      (t.core c).inClause = true ∧ (t.core c).clause = id ∧ (t.core c).pc = k.entry ∧ (t.core c).wait = .none ∧ (t.core c).halted = false ∧
      (∀ i, i < 15 → (t.core c).gv (i + 1) = BitVec.ofNat 64 (k.args.getD i 0)) ∧ (∀ r, 15 < r → (t.core c).gv r = 0) ∧
      (∀ r, (t.core c).av r = 0) ∧ (∀ r, r ≠ 0 → (t.core c).pv r = false) ∧ (t.core c).rs = 0 ∧ (t.core c).held = [] ∧ (t.core c).mq = [] ∧ (t.core c).vq = [] ∧
      (k.policy = 0 → (t.core c).dl = none) ∧
      t.arithFlags c = 0 ∧ t.reg R.CORE_SR_SEED_SEED c = 0 ∧ t.reg R.CORE_SR_CTR_COUNT c = 0 ∧ (∀ i, i < 64 → t.reg R.CORE_STAT_W1_SUM c i = 0) ∧
      (∀ g, g ≠ c → t.core g = s.core g) ∧ MemSame s t

/-- R89, R107, R300: a clause that waits in CEND with nothing outstanding ends: its core is free, its descriptor ends with status OK; one that still
holds a lock takes the semaphore exception with detail 6.
Model choices: log entry 2. -/
def Obligations.ClauseEndOutcomes : Prop :=
  ∀ (core : BitVec 6) (w : Nat) (k : ClauseS) (d : DescS) (s : State),
    let c := core.toNat
    let m := s.core c
    s.running c = some k → m.wait = .cend w → s.fenceDone c 0x1F = true → k.core = c →
    (m.held = [] → s.probeCore m.clause = none → s.imageOf m.clause k = none → k.queue < 32768 → (s.queue k.queue).fetched.find? (fun x => decide (x.n = k.n)) = some d → d.endSt = none →
      Gives (.clauseEnd core) s fun t =>
        t.clause m.clause = none ∧ (t.core c).inClause = false ∧ (t.core c).wait = .none ∧ MemSame s t ∧
        ∃ e ∈ (t.queue k.queue).ending, e.n = k.n ∧ e.endSt = some stOK) ∧
    (m.held ≠ [] → s.bit R.CORE_FAULT_CODE_VALID c = false → Gives (.clauseEnd core) s fun t => TookExc c 5 6 s t ∧ MemSame s t)

/-- R305–R310: a pre-emption that finds its slot free stops the clause and sets SAVE, one that does not leaves the core as it is; the save ends with
the image in its slot and the clause suspended; the restore ends with the core, its scratchpad and its wheel phase as the image holds them; a save
that the fabric holds up for the drain limit ends its clause.
Model choices: log entries 2, 55, 56, 57. -/
def Obligations.KickstandSaveAndRestore : Prop :=
  ∀ (core : BitVec 6) (dt : Nat) (k : ClauseS) (kk : Kick) (im : Image) (s : State),
    let c := core.toNat
    let u := later dt s
    let id := (s.core c).clause
    let room := s.sch.kickQ = [] ∧ s.kicksOn (dieOf c) < s.reg R.SEQ_KICK_CFG_MAX
    let free := fun (n : Nat) => ∀ e ∈ s.die.sems, e.2.clause ≠ n
    (s.running c = some k → s.preempts c = true → s.takeable c = true → k.core = c →
      (s.slotFree c k.eclass k.part = true → room → Gives (.kickstandSave core) s fun t =>
        t.reg R.CORE_STATUS_SAVE c = 1 ∧ (t.clause id).map (fun x => (x.st, x.slot)) = some (.saving, k.eclass) ∧
        mget none t.sch.kicks c = some ⟨false, k.eclass, id, s.coreTick c⟩ ∧ MemSame s t) ∧
      (s.slotFree c k.eclass k.part = false → Gives (.kickstandSave core) s fun t =>
        t.cores = s.cores ∧ t.sch.clauses = s.sch.clauses ∧ t.sch.kicks = s.sch.kicks ∧ MemSame s t)) ∧
    (mget none s.sch.kicks c = some kk → kk.restore = false → s.clause kk.clause = some k → k.core = c → k.deadline = none → (s.core c).dl = none → free kk.clause →
      k.slot = kk.slot → s.portQuiet (s.ctxXfers c k.ctx) = true → Gives (.kickstandSaveDone core dt) s fun t =>
        t.reg R.CORE_STATUS_SAVE c = 0 ∧ (t.clause kk.clause).map (fun x => x.st) = some .suspended ∧ (t.core c).inClause = false ∧
        mget none t.sch.images (c * 4 + kk.slot) = some (u.mkImage c kk.clause (s.ctxXfers c k.ctx)) ∧ mget none t.sch.kicks c = none ∧ MemSame s t) ∧
    (∀ j, s.clauseList.find? (fun e => decide (e.2.core = c) && decide (e.2.st = .restoring)) = some (j, k) → mget none s.sch.kicks c = none → room →
      s.imageOf j k = some im → (∀ n ∈ s.strsOn c, im.frames.contains n = true) → Gives (.kickstandRestore core) s fun t =>
        t.reg R.CORE_STATUS_SAVE c = 1 ∧ mget none t.sch.kicks c = some ⟨true, k.slot, j, s.coreTick c⟩ ∧ MemSame s t) ∧
    (mget none s.sch.kicks c = some kk → kk.restore = true → s.clause kk.clause = some k → k.core = c → u.imageOf kk.clause k = some im →
      k.deadline = none → im.core.dl = none → free kk.clause → s.slotBad c kk.slot = none →
      mwf (0 : Row) im.spad = true → (∀ e ∈ im.spad, e.1 / 8192 = c) → (∀ e ∈ im.regs, savedKey c e.1 = true) → Gives (.kickstandRestoreDone core false dt) s fun t =>
        t.reg R.CORE_STATUS_SAVE c = 0 ∧ (t.clause kk.clause).map (fun x => x.st) = some .running ∧
        (t.core c).pc = im.core.pc ∧ (t.core c).g = im.core.g ∧ (t.core c).a = im.core.a ∧ (t.core c).p = im.core.p ∧ (t.core c).tags = im.core.tags ∧
        (∀ r, t.spadRow c r = mget 0 im.spad (spadKey c r)) ∧ mget none t.sch.images (c * 4 + kk.slot) = none) ∧
    (mget none s.sch.kicks c = some kk → kk.restore = false → s.clause kk.clause = some k → k.core = c → k.queue ≠ 32768 →
      s.fabOut (s.ctxXfers c k.ctx) = true → s.reg R.SEQ_KICK_CFG_DRAIN ≤ u.coreTick c - kk.since →
      Gives (.fabricDrainTimeout core dt) s fun t => t.clause kk.clause = none ∧ t.reg R.CORE_STATUS_SAVE c = 0 ∧ MemSame s t)

/-- R229, R253: an invalidation command that finds none running is taken up, one that does not is ignored; when its work is done no cached
translation in its scope is left, and DONE is set.
Model choices: log entries 2, 39. -/
def Obligations.InvalidationCommands : Prop :=
  ∀ (port : Port) (die : BitVec 2) (ctx : BitVec 12) (pages : BitVec 16) (v : Inv) (s : State),
    let d := die.toNat
    let begins := fun (scope c : Nat) (t : State) => t.reg R.XLT_INV_STATUS_BUSY d = 1 ∧ MemSame s t ∧ t.cores = s.cores ∧
      ∃ e, t.die = { s.die with invs := s.die.invs ++ [e] } ∧ e.die = d ∧ e.scope = scope ∧ e.ctx = c % 2 ^ 12
    let ignored := fun (i : Instr) => Gives i s fun t => t.die = s.die ∧ t.reg R.XLT_INV_STATUS_BUSY d = 1 ∧ MemSame s t
    (Reaches port (xltOff d 0x10) s → s.bit R.XLT_INV_STATUS_BUSY d = false →
      (pages ≠ 0 → Gives (.invPages port die ctx pages) s fun t => begins 1 ctx.toNat t ∧ t.reg R.XLT_INV_CMD_PAGES d = pages.toNat) ∧
      (Gives (.invContext port die ctx) s (begins 2 ctx.toNat)) ∧
      (Gives (.invAll port die) s (begins 3 (s.reg R.XLT_INV_CMD_CTX d)))) ∧
    (Reaches port (xltOff d 0x10) s → s.reg R.XLT_INV_STATUS_BUSY d = 1 →
      ignored (.invPages port die ctx pages) ∧ ignored (.invContext port die ctx) ∧ ignored (.invAll port die)) ∧
    (s.die.invs.find? (fun x => decide (x.die = d)) = some v → s.invBusy v = false → Gives (.invalidationDone die) s fun t =>
      (∀ e ∈ t.die.tlb, v.covers (e.1 / 2 ^ 32 % 4096) (e.1 % 2 ^ 32) = false) ∧ t.die.invs = s.die.invs.erase v ∧
      t.reg R.XLT_INV_STATUS_BUSY d = 0 ∧ t.reg R.XLT_INV_STATUS_DONE d = 1 ∧ MemSame s t)

/-- R230–R233, R236, R521: a migration's end and its failure free its slot and are counted; a drive's completion and its data are taken while the
migration waits for them; setting MIG_ENABLE starts the sweep on every die, and its end sets SWEEP_DONE.
Model choices: log entries 2, 41, 42, 52. -/
def Obligations.MigrationOutcomes : Prop :=
  ∀ (port : Port) (die : BitVec 2) (i page dt off n v : Nat) (m : Mig) (s : State),
    let d := die.toNat
    let lost := fun (t : State) => t.mig d i = none ∧ t.reg R.XLT_MIG_FAIL_COUNT d = min (s.reg R.XLT_MIG_FAIL_COUNT d + 1) (2 ^ 32 - 1)
    (s.mig d i = some m → s.die.migQ = [] → s.fab.held = [] →
      (s.isNvme d m = false → Gives (.migrationDone die i page true) s fun t =>
        t.mig d i = none ∧ t.spad = s.spad ∧
        (m.pte / 65536 ≠ m.frame → s.frameAt d m.part m.idx / 65536 ≠ m.frame → m.pte % 8 = 0 →
          t.reg R.XLT_MIG_DONE_COUNT d = if s.migWins d m then min (s.reg R.XLT_MIG_DONE_COUNT d + 1) (2 ^ 32 - 1) else s.reg R.XLT_MIG_DONE_COUNT d)) ∧
      (s.die.xfers = [] → Gives (.migrationDone die i page false) s lost) ∧
      (s.die.xfers = [] → m.since + s.reg R.XLT_MIG_TIMEOUT_US d * 1500 ≤ s.t + dt → Gives (.migrationTimeout die i dt) s lost) ∧
      (s.isNvme d m = true → s.die.xfers = [] → Gives (.nvmeCompletion die i false) s lost)) ∧
    (s.mig d i = some m → s.isNvme d m = true → Gives (.nvmeCompletion die i true) s fun t =>
      t.mig d i = some { m with landed := true } ∧ t.regs = s.regs ∧ MemSame s t) ∧
    (0x1000000 ≤ off → off < 0x1400000 →
      let slot := (off - 0x1000000) / 0x10000
      s.mig (slot / 16) (slot % 16) = some m → s.isNvme (slot / 16) m = true → m.landed = false → Gives (.landingWrite off n v) s fun t =>
        t.mig (slot / 16) (slot % 16) = some { m with data := setBits m.data (8 * (off % 0x10000)) (8 * min n (0x10000 - off % 0x10000)) v } ∧
        t.regs = s.regs ∧ MemSame s t) ∧
    (Reaches port (xltOff d 0) s → Gives (.migrationSweep port die) s fun t => (∀ k, k < 4 → t.reg R.XLT_CTL_MIG_ENABLE k = 1) ∧ MemSame s t) ∧
    (s.bit R.XLT_CTL_MIG_ENABLE d = true → s.bit R.XLT_CTL_SWEEP_DONE d = false → Gives (.sweepDone die) s fun t =>
      t.reg R.XLT_CTL_SWEEP_DONE d = 1 ∧ t.spad = s.spad)

/-- R239–R245, R222, R243, R495: the patrol corrects and counts an error, MR4 readings set the refresh rate and the over-temperature bit, a
refresh is counted and empties the channel's neighbour list; enabling a group that may be enabled begins its clearing, and after the clearing every
byte of the group reads 0 and every byte elsewhere reads as before.
Model choices: log entries 2, 48, 50, 51. -/
def Obligations.DramControllerWork : Prop :=
  ∀ (port : Port) (die : BitVec 2) (ch g : BitVec 4) (mr4 : BitVec 5) (hot tooHot : Bool) (pa n dt : Nat) (s : State),
    let d := die.toNat
    let c := ch.toNat
    let u := pa / 64 * 64
    (s.grp u = some n → s.bit R.DMC_PATROL_ENABLE d = true → paDie u = d → s.bit R.DMC_GROUP_ECC d n = true →
      Gives (.patrolRead die pa 1) s fun t =>
        t.reg R.DMC_ECC_COUNT_CE d (s.chanOf u) = satAdd R.DMC_ECC_COUNT_CE.w (s.reg R.DMC_ECC_COUNT_CE d (s.chanOf u)) 1 % 2 ^ R.DMC_ECC_COUNT_CE.w ∧
        mget 0 t.die.errs (pa / 64) = 0 ∧ MemSame s t) ∧
    (Gives (.mr4Poll die ch mr4 hot tooHot dt) s fun t =>
      t.reg R.DMC_CH_STATUS_MR4 d c = mr4.toNat ∧ (hot = true → t.reg R.DMC_CH_STATUS_REFRESH_2X d c = 1) ∧
      (tooHot = true → t.reg R.DMC_CH_STATUS_OVER_TEMP d c = 1) ∧
      (hot = false → mget 0 s.die.mr4Low (16 * d + c) = 0 → t.reg R.DMC_CH_STATUS_REFRESH_2X d c = s.reg R.DMC_CH_STATUS_REFRESH_2X d c) ∧
      (hot = false → 1 ≤ mget 0 s.die.mr4Low (16 * d + c) → t.reg R.DMC_CH_STATUS_REFRESH_2X d c = 0) ∧ MemSame s t) ∧
    (Gives (.dramRefresh die ch dt) s fun t =>
      mget 0 t.die.refreshes (16 * d + c) = mget 0 s.die.refreshes (16 * d + c) + 1 ∧ mget [] t.die.nbrQ (16 * d + c) = [] ∧ t.regs = s.regs ∧ MemSame s t) ∧
    (Gives (.codeCacheWriteback die ch) s fun t => mget false t.die.codeDirty (16 * d + c) = false ∧ t.regs = s.regs ∧ MemSame s t) ∧
    (Reaches port (groupOff d g.toNat) s → s.reg R.DMC_GROUP_ENABLE d g.toNat = 0 →
      (s.groupOk d g.toNat = true → Gives (.groupScrub port die g) s fun t =>
        t.reg R.DMC_GROUP_ENABLE d g.toNat = 1 ∧ (s.bit R.DMC_GROUP_SCRUB_ON_EN d g.toNat = true → t.reg R.DMC_GROUP_SCRUB d g.toNat = 1) ∧ MemSame s t) ∧
      (s.groupOk d g.toNat = false → Gives (.groupScrub port die g) s fun t => t.reg R.DMC_GROUP_ENABLE d g.toNat = 0 ∧ MemSame s t)) ∧
    (s.bit R.DMC_GROUP_SCRUB d g.toNat = true →
      let r := s.grpRange d g.toNat
      let inside := fun (a : Nat) => paDie a = d ∧ a < 2 ^ 39 ∧ r.1 ≤ paOff a ∧ paOff a < r.2
      Gives (.groupScrubDone die g) s fun t => t.reg R.DMC_GROUP_SCRUB d g.toNat = 0 ∧ RegsBut [R.DMC_GROUP_SCRUB] s t ∧
        ∀ a, (inside a → t.dramByte a = 0) ∧ (¬ inside a → t.dramByte a = s.dramByte a))

/-- R337–R343: Chainring frames, idle frames, the loss of a link and its return. A link that is lost is DOWN with its cause, counted, and its traffic takes
the detour; DOWN is ignored where a die would lose its last path.
Model choices: log entries 2, 76. -/
def Obligations.ChainringLinks : Prop :=
  ∀ (port : Port) (link : BitVec 3) (toHub : Bool) (acked dt : Nat) (s : State),
    let l := link.toNat
    let k := s.link l
    let down := fun (cause : Nat) (t : State) => t.linkSt l = 3 ∧ t.reg R.CHR_LINK_STATUS_CAUSE 0 l = cause ∧ bitOf (t.reg R.CHR_STATUS_DETOUR) l = true ∧
      t.reg R.CHR_LINK_DOWNS_COUNT 0 l = satAdd R.CHR_LINK_DOWNS_COUNT.w (s.reg R.CHR_LINK_DOWNS_COUNT 0 l) 1 % 2 ^ R.CHR_LINK_DOWNS_COUNT.w ∧ MemSame s t
    let up := fun (t : State) => t.linkSt l = 1 ∧ bitOf (t.reg R.CHR_STATUS_DETOUR) l = false ∧ bitOf (t.reg R.CHR_STATUS_UP) l = true ∧ MemSame s t
    (s.linkLive l = true →
      (Gives (.chainringFrame link true true false acked) s fun t =>
        t.link l = { k with fails := 0, okUp := s.t, unackUp := min 64 (k.unackUp + 1), unackDn := k.unackDn - acked } ∧
        t.linkSt l = (if s.linkSt l = 2 then 1 else s.linkSt l) ∧ MemSame s t) ∧
      (k.fails < 16 → Gives (.chainringFrame link toHub false false acked) s fun t =>
        t.link l = { k with fails := k.fails + 1 } ∧ t.linkSt l = (if s.linkSt l = 1 then 2 else s.linkSt l) ∧ MemSame s t) ∧
      (16 ≤ k.fails → Gives (.chainringFrame link toHub false false acked) s (down 1)) ∧
      (s.parked l = false → s.endReset l = false →
        (1500 ≤ dt → Gives (.chainringIdleFrame link toHub dt) s fun t => t = { later dt s with out := s.out ++ [.chrFrame l toHub true] }) ∧
        (min k.okUp k.okDn + 3000 ≤ s.t + dt → Gives (.chainringLinkTimeout link dt) s (down 2)))) ∧
    (s.bit R.CHR_STATUS_QUIESCE = true → (∀ q, q < 8 → s.linkUse q = true → (s.link q).unackUp = 0 ∧ (s.link q).unackDn = 0) → s.cutOff s.linkUse = [] →
      Gives .quiesceDrained s fun t => t.reg R.CHR_STATUS_QUIESCE = 0 ∧ RegsBut [R.CHR_STATUS_QUIESCE] s t ∧ MemSame s t) ∧
    (s.linkSt l = 0 → s.pkg.held = false →
      (bitOf (s.reg R.CHR_STATUS_DETOUR) l = false → Gives (.chainringTrainDone link) s up) ∧
      (bitOf (s.reg R.CHR_STATUS_DETOUR) l = true → Gives (.chainringTrainDone link) s fun t => t.linkSt l = 4 ∧ bitOf (t.reg R.CHR_STATUS_DETOUR) l = true ∧ MemSame s t) ∧
      (k.since + 1500000 ≤ s.t + dt → Gives (.chainringTrainTimeout link dt) s (down 3))) ∧
    (s.linkSt l = 4 → Gives (.restoreComplete link) s up) ∧
    (s.linkSt l = 3 → s.bit R.CHR_CTL_RESTORE_AUTO = true → k.bySw = false → k.since + (if k.tries = 0 then 1 else 100) * 1500000 ≤ s.t + dt →
      Gives (.retrainTimer link dt) s fun t => t.linkSt l = 0 ∧ (t.link l).tries = k.tries + 1 ∧ MemSame s t) ∧
    (Reaches port (chrOff 0) s →
      (s.linkSt l ≠ 3 → s.cutOff (fun q => decide (q ≠ l) && s.linkUse q) = [] → Gives (.chrDown port link) s (down 4)) ∧
      (s.cutOff (fun q => decide (q ≠ l) && s.linkUse q) ≠ [] → Gives (.chrDown port link) s fun t => t.linkSt l = s.linkSt l ∧ t.chr = s.chr ∧ MemSame s t) ∧
      (s.linkSt l = 3 → Gives (.chrRetrain port link) s fun t => t.linkSt l = 0 ∧ MemSame s t))

/-- R344–R346, R357, R369, R538: flits, idle flits, credits, and ports going down and coming up. A port that goes down empties its record, and every route
it carried whose other port is up switches to it; a primary port that has been up long enough takes its routes back.
Model choices: log entries 2, 54, 72. -/
def Obligations.FabricPorts : Prop :=
  ∀ (p : Fin 6) (acked dt n : Nat) (lanes : BitVec 4) (pkg : BitVec 6) (pvalid : Bool) (pport : BitVec 3) (uid : BitVec 128) (cls : BitVec 2) (ch : Bool) (s : State),
    let m := p.val
    let f := s.fport m
    let pool := if cls.toNat = 2 then 4 else cls.toNat * 2 + b2n ch
    let passed := ((List.range 4).filter (fun k => bitOf lanes.toNat k)).length
    let down := fun (cause : Nat) (t : State) =>
      t.reg R.FAB_PORT_STATUS_STATE 0 m = 3 ∧ t.reg R.FAB_PORT_STATUS_LANES 0 m = 0 ∧ t.reg R.FAB_PORT_STATUS_CAUSE 0 m = cause ∧
      t.reg R.FAB_PORT_DOWNS_COUNT 0 m = min (s.reg R.FAB_PORT_DOWNS_COUNT 0 m + 1) (2 ^ 32 - 1) ∧ MemSame s t ∧
      ∀ k, k < 64 → s.bit R.FAB_ROUTE_VALID 0 k = true → s.reg R.FAB_ROUTE_PRIMARY 0 k = m → s.bit R.FAB_ROUTE_USING_ALT 0 k = false →
        s.bit R.FAB_ROUTE_ALT_EN 0 k = true → s.reg R.FAB_ROUTE_ALT 0 k < 6 → s.reg R.FAB_ROUTE_ALT 0 k ≠ m → s.portUp (s.reg R.FAB_ROUTE_ALT 0 k) = true →
        t.reg R.FAB_ROUTE_USING_ALT 0 k = 1
    (s.portUp m = true →
      (f.wait = [] → Gives (.flit p true acked) s fun t =>
        t.fport m = { f with fails := 0, lastOk := s.t, unacked := ackFlits f.unacked acked, stall := [] } ∧ RegsBut [R.FAB_PORT_CREDIT_STALL] s t ∧ MemSame s t) ∧
      (Gives (.flit p true acked) s fun t => (t.fport m).fails = 0 ∧ (t.fport m).lastOk = s.t ∧ t.cores = s.cores ∧ t.die = s.die ∧ MemSame s t) ∧
      (f.fails < 16 → Gives (.flit p false acked) s fun t =>
        t.fport m = { f with fails := f.fails + 1 } ∧ t.reg R.FAB_PORT_BAD_COUNT 0 m = min (s.reg R.FAB_PORT_BAD_COUNT 0 m + 1) (2 ^ 32 - 1) ∧
        RegsBut [R.FAB_PORT_BAD_COUNT] s t ∧ MemSame s t) ∧
      (16 ≤ f.fails → Gives (.flit p false acked) s (down 1)) ∧
      (f.wait = [] → 1500 ≤ dt → Gives (.fliferIdleFlit p dt) s fun t => t = { later dt s with out := s.out ++ [.flit m true] }) ∧
      (f.lastOk + s.reg R.FAB_TIMEOUT_LINK_US * 1500 ≤ s.t + dt → Gives (.fliferLinkTimeout p dt) s (down 2)) ∧
      (f.upSince + s.reg R.FAB_PERIOD_RESTORE_MS * 1500000 ≤ s.t + dt → Gives (.routeRestore p dt) s fun t =>
        (∀ k, k < 64 → s.reg R.FAB_ROUTE_PRIMARY 0 k = m → t.reg R.FAB_ROUTE_USING_ALT 0 k = 0) ∧
        (∀ k, k < 64 → s.reg R.FAB_ROUTE_PRIMARY 0 k ≠ m → t.reg R.FAB_ROUTE_USING_ALT 0 k = s.reg R.FAB_ROUTE_USING_ALT 0 k) ∧ MemSame s t)) ∧
    (s.portUp m = false → bitOf (s.reg R.FAB_CFG_PORT_EN) m = true →
      (2 ≤ passed → Gives (.fliferTrainDone p lanes pkg pvalid pport uid) s fun t =>
        t.reg R.FAB_PORT_STATUS_STATE 0 m = 2 ∧ t.reg R.FAB_PORT_STATUS_LANES 0 m = (if passed = 4 then 2 else 1) ∧
        t.reg R.FAB_PORT_STATUS_PEER_PKG 0 m = pkg.toNat ∧ t.reg R.FAB_PORT_STATUS_PEER_PORT 0 m = pport.toNat ∧
        t.reg R.FAB_PORT_NBR_PKG_VALID 0 m = b2n pvalid ∧ (∀ i, i < 4 → t.reg R.FAB_PORT_NBR_UID_UID 0 (4 * m + i) = bits uid.toNat (32 * i) 32) ∧ MemSame s t) ∧
      (passed < 2 → s.reg R.FAB_PORT_STATUS_STATE 0 m ≠ 3 → Gives (.fliferTrainDone p lanes pkg pvalid pport uid) s (down 3))) ∧
    (f.wait = [] → Gives (.creditReturn p cls ch n) s fun t =>
      t.fport m = { f with used := mset 0 f.used pool (mget 0 f.used pool - n), stall := [] } ∧ MemSame s t) ∧
    (∀ t0, mget none f.stall pool = some t0 → t0 + s.reg R.FAB_TIMEOUT_LINK_US * 1500 < s.t + dt →
      Gives (.creditStall p cls ch dt) s fun t => t.reg R.FAB_PORT_CREDIT_STALL 0 m = 1 ∧ RegsBut [R.FAB_PORT_CREDIT_STALL] s t ∧ MemSame s t)

/-- R348, R350–R355, R358: a WRITE or READ to an open window of this package is checked, carried out once and answered; a request that fails a check is
answered with a NACK of that code, and a duplicate has no second effect; an answer ends its segment, and one to no segment is counted.
Model choices: log entries 40, 70, 71. -/
def Obligations.FabricPackets : Prop :=
  ∀ (p : Fin 6) (k : Pkt) (data : Nat) (s : State),
    let m := p.val
    let src := k.src.toNat
    let w := k.window.toNat
    let d := data % 2 ^ (8 * k.len.toNat)
    let qw : PktS := ⟨1, k, d, m⟩
    let qr : PktS := ⟨2, k, 0, m⟩
    let recd := mget none s.fab.recs src
    let noted := fun (code : Nat) (t : State) => mget none t.fab.recs src = some (FSeen.note recd k.psn.toNat code)
    let quiet := fun (l : List Fld) (t : State) => RegsBut (l ++ [R.FAB_PEER_UP_UP, R.FAB_PORT_CREDIT_STALL, R.FAB_DROP_COUNT]) s t ∧ MemSame s t
    let counted := fun (t : State) => t.reg R.FAB_WIN_ACCEPT_COUNT 0 w = min (s.reg R.FAB_WIN_ACCEPT_COUNT 0 w + 1) (2 ^ R.FAB_WIN_ACCEPT_COUNT.w - 1)
    let dup := fun (t : State) => t.reg R.FAB_DUP_COUNT = min (s.reg R.FAB_DUP_COUNT + 1) (2 ^ 32 - 1)
    let answered := fun (typ code x : Nat) (t : State) => (s.route src).isSome = true → Sent (Answers typ code x k) s t
    let hit := fun (f : FPend → Bool) (e : FPend) => s.fab.pend.find? (fun e => decide (e.psn = k.psn.toNat) && decide (e.tag = k.tag.toNat) && f e) = some e
    Arrives m k s →
    (FSeen.look recd k.psn.toNat = some 0 →
      (s.winCheck qw = none → s.winMem qw = .ok →
        (∀ a n o, s.winRuns qw = [(a, n)] → s.winLook qw a = .hub o → Gives (.write p k data) s fun t =>
          t.hubMem = memWrite s.hubMem o n (d % 2 ^ (8 * n)) ∧ t.dram = s.dram ∧ noted 0 t ∧ counted t ∧ answered 0x10 0 0 t) ∧
        (∀ a n pa wk ec, s.winRuns qw = [(a, n)] → s.winLook qw a = .dram pa wk ec → Gives (.write p k data) s fun t =>
          t.dramGet pa n = d % 2 ^ (8 * n) ∧ t.hubMem = s.hubMem ∧ noted 0 t ∧ counted t ∧ answered 0x10 0 0 t)) ∧
      (s.winCheck qr = none → s.winMem qr = .ok → ∀ a n o, s.winRuns qr = [(a, n)] → s.winLook qr a = .hub o → Gives (.read p k) s fun t =>
        noted 0 t ∧ counted t ∧ answered 0x11 0 (memRead s.hubMem o n) t ∧ MemSame s t) ∧
      (∀ c, s.winCheck qw = some c → Gives (.write p k data) s fun t => noted c t ∧ answered 0x12 c 0 t ∧ quiet [R.FAB_WIN_NACK_COUNT] t) ∧
      (∀ c, s.winCheck qr = some c → Gives (.read p k) s fun t => noted c t ∧ answered 0x12 c 0 t ∧ quiet [R.FAB_WIN_NACK_COUNT] t)) ∧
    (FSeen.look recd k.psn.toNat = some 1 → Gives (.write p k data) s fun t => dup t ∧ answered 0x10 0 0 t ∧ quiet [R.FAB_DUP_COUNT] t) ∧
    (FSeen.look recd k.psn.toNat = none → Gives (.write p k data) s (fun t => dup t ∧ quiet [R.FAB_DUP_COUNT] t) ∧
      Gives (.read p k) s (fun t => dup t ∧ quiet [R.FAB_DUP_COUNT] t)) ∧
    (s.fab.pend.find? (fun e => decide (e.psn = k.psn.toNat) && decide (e.tag = k.tag.toNat)) = none →
      Gives (.ack p k) s (fun t => dup t ∧ quiet [R.FAB_DUP_COUNT] t) ∧ Gives (.readData p k data) s (fun t => dup t ∧ quiet [R.FAB_DUP_COUNT] t) ∧
      Gives (.nack p k) s (fun t => dup t ∧ quiet [R.FAB_DUP_COUNT] t)) ∧
    (∀ e v, s.xfer e.x = some v → v.fin = none →
      (hit (fun e => !e.isRead) e → Gives (.ack p k) s fun t => t.fab.pend = s.fab.pend.erase e ∧
        t.xfer e.x = some { v with segs := v.segs.map (fun g => if g.k = e.k then { g with st := .ended } else g) } ∧ quiet [] t) ∧
      (hit (fun e => e.isRead) e → Gives (.readData p k data) s fun t => t.fab.pend = s.fab.pend.erase e ∧
        t.xfer e.x = some { v with segs := v.segs.map (fun g => if g.k = e.k then { g with st := .haveData, data := d % 2 ^ (8 * e.len) } else g) } ∧ quiet [] t)) ∧
    (∀ e, hit (fun _ => true) e → Gives (.nack p k) s fun t => t.fab.pend = s.fab.pend.erase e ∧ MemSame s t ∧
      (s.bit R.FAB_NACK_LAST_VALID = false → t.reg R.FAB_NACK_LAST_CODE = k.code.toNat % 16 ∧ t.reg R.FAB_NACK_LAST_CLASS = k.code.toNat / 16 ∧
        t.reg R.FAB_NACK_LAST_PEER = src ∧ t.reg R.FAB_NACK_LAST_WINDOW = w % 64 ∧ t.reg R.FAB_NACK_LAST_VALID = 1) ∧
      (s.bit R.FAB_NACK_LAST_VALID = true → t.reg R.FAB_NACK_LAST_CODE = s.reg R.FAB_NACK_LAST_CODE)) ∧
    Gives (.presence p k) s fun t => (bitOf (s.reg R.FAB_PEER_MASK_MASK) src = true → bitOf (t.reg R.FAB_PEER_UP_UP) src = true ∧ mget 0 t.fab.heard src = s.t) ∧
      RegsBut [R.FAB_PEER_UP_UP] s t ∧ t.cores = s.cores ∧ t.die = s.die ∧ MemSame s t

/-- R352, R354, R358: a segment without an answer in time is counted and forgotten; presence goes to every package of the mask that a route reaches; a silent
peer is lost with everything outstanding to it, until software rearms it; windows open where they may and close.
Model choices: log entries 2, 74. -/
def Obligations.PeersAndWindows : Prop :=
  ∀ (port : Port) (peer : BitVec 6) (w : BitVec 8) (x k dt : Nat) (e : FPend) (s : State),
    let n := peer.toNat
    (s.fab.pend.find? (fun e => decide (e.x = x) && decide (e.k = k)) = some e → e.since + s.reg R.FAB_TIMEOUT_E2E_MS * 1500000 ≤ s.t + dt →
      Gives (.e2eTimeout x k dt) s fun t => t.fab.pend = s.fab.pend.erase e ∧
        t.reg R.FAB_E2E_TO_COUNT = min (s.reg R.FAB_E2E_TO_COUNT + 1) (2 ^ 32 - 1) ∧ t.bit R.FAB_EVENT_E2E_TIMEOUT = true ∧ MemSame s t) ∧
    (s.bit R.FAB_CFG_ENABLE = true → s.fab.presAt + s.reg R.FAB_PERIOD_PRESENCE_US * 1500 ≤ s.t + dt → Gives (.presenceTimer dt) s fun t =>
      t.fab.presAt = s.t + dt ∧ (∀ q ∈ s.peers, (s.route q).isSome = true → Sent (fun y => y.typ = 0x20 ∧ y.hdr.dst.toNat = q) s t) ∧
      RegsBut [R.FAB_DROP_COUNT, R.FAB_PORT_CREDIT_STALL] s t ∧ MemSame s t) ∧
    (bitOf (s.reg R.FAB_PEER_UP_UP) n = true → mget 0 s.fab.heard n + s.reg R.FAB_TIMEOUT_PEER_US * 1500 ≤ s.t + dt → Gives (.peerTimeout peer dt) s fun t =>
      bitOf (t.reg R.FAB_PEER_UP_UP) n = false ∧ bitOf (t.reg R.FAB_PEER_LOST_LOST) n = true ∧ t.bit R.FAB_EVENT_PEER_LOST = true ∧
      t.fab.pend = s.fab.pend.filter (fun e => decide (e.dst ≠ n)) ∧ MemSame s t) ∧
    (Reaches port (fabOff 0x20 + 4 * (n / 32)) s → Gives (.peerRearm port peer) s fun t =>
      (∀ b, b < 64 → bitOf (t.reg R.FAB_PEER_LOST_LOST) b = (bitOf (s.reg R.FAB_PEER_LOST_LOST) b && decide (b ≠ n))) ∧ RegsBut [R.FAB_PEER_LOST_LOST] s t ∧ MemSame s t) ∧
    (Reaches port (winOff w.toNat 0) s →
      (w.toNat < 64 → s.bit R.FAB_WIN_CTL_OPEN 0 w.toNat = false →
        (s.openOk w.toNat = true → Gives (.windowOpen port w) s fun t => t.reg R.FAB_WIN_CTL_OPEN 0 w.toNat = 1 ∧ MemSame s t) ∧
        (s.openOk w.toNat = false → Gives (.windowOpen port w) s fun t => t.reg R.FAB_WIN_CTL_OPEN 0 w.toNat = s.reg R.FAB_WIN_CTL_OPEN 0 w.toNat ∧ MemSame s t)) ∧
      (w.toNat < 64 → Gives (.windowClose port w) s fun t => t.reg R.FAB_WIN_CTL_OPEN 0 w.toNat = 0 ∧
        RegsBut [R.FAB_WIN_CTL_OPEN, R.FAB_DIGEST_CTL_DIRTY] s t ∧ MemSame s t))

/-- R360–R363: a computation of the digest, started by software or by the settling time, ends with SHA-256 of the class and the next epoch, or leaves both
where a table cannot be read; peers are told, and told of a difference where the groups agree and neither side is dirty.
Model choices: log entries 2, 75. -/
def Obligations.DigestExchange : Prop :=
  ∀ (port : Port) (p : Fin 6) (k : Pkt) (value : BitVec 256) (group : BitVec 16) (dirty : Bool) (epoch : BitVec 32) (dt : Nat) (s : State),
    let start := fun (t : State) => t.reg R.FAB_DIGEST_CTL_BUSY = 1 ∧ t.reg R.FAB_DIGEST_CTL_DIRTY = 0 ∧
      RegsBut [R.FAB_DIGEST_CTL_BUSY, R.FAB_DIGEST_CTL_DIRTY] s t ∧ MemSame s t
    let bad := s.digestTables.findSome? (fun t => (s.badUnit t.2.1 t.2.2).map (fun u => (t, u)))
    let told := fun (t : State) => ∀ n ∈ s.peers, bitOf (s.reg R.FAB_PEER_UP_UP) n = true → (s.route n).isSome = true →
      Sent (fun y => y.typ = 0x21 ∧ y.hdr.dst.toNat = n) s t
    (Reaches port (fabOff 0x40) s → Gives (.digestCommit port) s start) ∧
    (s.pkg.held = false → s.bit R.FAB_DIGEST_CTL_AUTO = true → s.bit R.FAB_DIGEST_CTL_DIRTY = true → s.bit R.FAB_DIGEST_CTL_BUSY = false →
      s.fab.dirtyAt + s.reg R.FAB_PERIOD_SETTLE_MS * 1500000 ≤ s.t + dt → Gives (.digestSettle dt) s start) ∧
    (s.bit R.FAB_DIGEST_CTL_BUSY = true →
      (bad = none → Gives .digestDone s fun t => t.reg R.FAB_DIGEST_CTL_BUSY = 0 ∧
        (∀ i, i < 8 → t.reg R.FAB_DIGEST_VALUE_BYTES 0 i = bits (ofBytes (sha256 s.digestBytes)) (32 * i) 32) ∧
        t.reg R.FAB_DIGEST_EPOCH_EPOCH = (s.reg R.FAB_DIGEST_EPOCH_EPOCH + 1) % 2 ^ 32 ∧ (s.bit R.FAB_CFG_ENABLE = true → told t) ∧ t.spad = s.spad ∧ t.hubMem = s.hubMem) ∧
      (bad ≠ none → Gives .digestDone s fun t => t.reg R.FAB_DIGEST_CTL_BUSY = 0 ∧ t.reg R.FAB_DIGEST_CTL_DIRTY = 1 ∧
        t.reg R.FAB_DIGEST_EPOCH_EPOCH = s.reg R.FAB_DIGEST_EPOCH_EPOCH ∧
        (∀ i, t.reg R.FAB_DIGEST_VALUE_BYTES 0 i = s.reg R.FAB_DIGEST_VALUE_BYTES 0 i) ∧ t.spad = s.spad ∧ t.hubMem = s.hubMem)) ∧
    (s.bit R.FAB_CFG_ENABLE = true → s.fab.digAt + s.reg R.FAB_PERIOD_DIGEST_MS * 1500000 ≤ s.t + dt → Gives (.digestTimer dt) s fun t =>
      t.fab.digAt = s.t + dt ∧ told t ∧ RegsBut [R.FAB_DROP_COUNT, R.FAB_PORT_CREDIT_STALL] s t ∧ MemSame s t) ∧
    (Arrives p.val k s →
      let same := s.reg R.FAB_DIGEST_CTL_GROUP = group.toNat ∧ dirty = false ∧ s.bit R.FAB_DIGEST_CTL_DIRTY = false
      (same → Gives (.digest p k value group dirty epoch) s fun t =>
        (∀ b, b < 64 → bitOf (t.reg R.FAB_DIGEST_MISMATCH_DIFF) b =
          (if b = k.src.toNat then decide (s.digestLoad % 2 ^ 256 ≠ value.toNat) else bitOf (s.reg R.FAB_DIGEST_MISMATCH_DIFF) b)) ∧ MemSame s t) ∧
      (¬ same → Gives (.digest p k value group dirty epoch) s fun t => RegsBut [R.FAB_PEER_UP_UP] s t ∧ MemSame s t))

/-- R373–R375, R378, R380: a write of TIME_CTL captures a request that every running die applies at its count; the Hub die's RATE and OFFSET take the new values,
a step backward is recorded, and the last die ends the request; a conversion uses the parameters in force; a die's skew is measured and corrected.
Model choices: log entries 2, 78. -/
def Obligations.TimeRequests : Prop :=
  ∀ (port : Port) (cmd : BitVec 32) (count : BitVec 64) (die : Fin 5) (cd : BitVec 2) (jitter : Int) (s : State),
    let captured := fun (w : Nat) (t : State) =>
      t.time = { s.time with req := some {
        load := bitOf w 2, step := bitOf w 1, rate := bitOf w 0, rateNew := s.reg R.TIME_RATE_NEW_RATE, offNew := s.reg R.TIME_OFFSET_NEW_OFFSET,
        adj := s.reg R.TIME_OFFSET_ADJ_ADJ, at_ := (s.count 4 + 256) % 2 ^ 64, done := [] } } ∧
      t.reg R.TIME_APPLY_AT_COUNT = (s.count 4 + 256) % 2 ^ 64 ∧ t.reg R.TIME_STATUS_PENDING = 1 ∧
      RegsBut [R.TIME_APPLY_AT_COUNT, R.TIME_STATUS_PENDING] s t ∧ MemSame s t
    let turned := fun (t : State) => t.time = s.time ∧ RegsBut [R.LOG_LOST_COUNT] s t ∧ MemSame s t
    let par := s.timePar 4
    let d := die.val
    let c := cd.toNat
    let x : Int := (s.count c : Int) - (s.count 4 : Int) + jitter
    let clk := mget DieClk.stopped s.clk c
    (Reaches port (timeOff 0) s →
      (s.bit R.TIME_STATUS_PENDING = false → Gives (.timeLoad port cmd) s (captured (withBit cmd.toNat 2)) ∧
        Gives (.timeStep port cmd) s (captured (withBit cmd.toNat 1)) ∧ Gives (.timeRate port cmd) s (captured (withBit cmd.toNat 0))) ∧
      (s.bit R.TIME_STATUS_PENDING = true → Gives (.timeLoad port cmd) s turned ∧ Gives (.timeStep port cmd) s turned ∧ Gives (.timeRate port cmd) s turned)) ∧
    (∀ r, s.time.req = some r → s.ticking d = true → r.done.contains d = false → r.at_ ≤ s.count d →
      Gives (.timeApply die) s fun t =>
        (d = 4 → t.reg R.TIME_RATE_RATE = r.newRate par % 2 ^ 40 ∧ t.reg R.TIME_OFFSET_OFFSET = r.offset par % 2 ^ 96 ∧
          ((r.load || r.step) = true → sysTime (r.newRate par) (r.offset par) r.at_ < sysTime par.1 par.2 r.at_ → t.reg R.TIME_STATUS_BACKSTEP = 1)) ∧
        (d ≠ 4 → mget (0x200000000, 0) t.time.par d = (r.newRate (s.timePar d), r.offset (s.timePar d)) ∧ t.reg R.TIME_RATE_RATE = s.reg R.TIME_RATE_RATE) ∧
        ((∀ k, k < 5 → s.ticking k = true → k = d ∨ r.done.contains k = true) → t.time.req = none ∧ t.reg R.TIME_STATUS_PENDING = 0) ∧
        ((∃ k, k < 5 ∧ s.ticking k = true ∧ k ≠ d ∧ r.done.contains k = false) → t.time.req = some { r with done := d :: r.done }) ∧ MemSame s t) ∧
    (Reaches port (timeOff 0x64) s → Gives (.timeConvert port count) s fun t =>
      t.reg R.TIME_CONV_IN_COUNT = count.toNat ∧ t.reg R.TIME_CONV_OUT_TIME = timeLayout (s.timeOf 4 count.toNat) ∧
      RegsBut [R.TIME_CONV_IN_COUNT, R.TIME_CONV_OUT_TIME] s t ∧ MemSame s t) ∧
    (s.ticking c = true → Gives (.skewCheck cd jitter) s fun t =>
      (-128 ≤ x → x ≤ 127 → t.reg R.TIME_DIE_SKEW_D 0 c = ofSigned 8 x) ∧ (-2 < x → x < 2 → t.clk = s.clk ∧ t.t = s.t) ∧
      (2 ≤ x → mget DieClk.stopped t.clk c = { clk with base := clk.base - 1 } ∧ t.t = s.t + 3) ∧
      (x ≤ -2 → mget DieClk.stopped t.clk c = { clk with base := clk.base + 1 } ∧ t.t = s.t + 3) ∧
      (2 < x ∨ x < -2 → t.reg R.TIME_DIE_SKEW_OUT 0 c = 1) ∧ MemSame s t)

/-- R386, R387: TSYNC gives a package its offset from the master; the master's timer sends one to every UP peer a route reaches; a neighbour's delay request is
answered with the time it came, an answer gives half the round trip less the turnaround, and a timer asks every UP neighbour.
Model choices: log entries 2, 80. -/
def Obligations.FabricTime : Prop :=
  ∀ (p : Fin 6) (k : Pkt) (time corr seq t1 t2 t3 dt : Nat) (s : State),
    let m := p.val
    let c : Int := toSigned 64 corr + (s.reg R.TIME_FAB_PDELAY_U 0 m : Int) - (s.now : Int)
    let x : Int := (((s.now : Int) - (ofLayout t1 : Int)) - ((ofLayout t3 : Int) - (ofLayout t2 : Int))) / 2
    (Arrives m k s →
      (s.bit R.TIME_FAB_CTL_MASTER = false → Gives (.tsync p k time corr seq) s fun t =>
        t.reg R.TIME_FAB_OFFSET_U = ofSigned 64 ((ofLayout time : Int) + c) ∧ t.reg R.TIME_FAB_AT_COUNT = s.count 4 % 2 ^ 64 ∧
        t.reg R.TIME_FAB_SEQ_SYNC_SEQ = seq % 2 ^ 32 ∧ RegsBut [R.TIME_FAB_OFFSET_U, R.TIME_FAB_AT_COUNT, R.TIME_FAB_SEQ_SYNC_SEQ, R.FAB_PEER_UP_UP] s t ∧ MemSame s t) ∧
      (s.bit R.TIME_FAB_CTL_MASTER = true → Gives (.tsync p k time corr seq) s fun t => RegsBut [R.FAB_PEER_UP_UP] s t ∧ MemSame s t)) ∧
    (s.bit R.TIME_FAB_CTL_MASTER = true → s.time.syncAt + s.reg R.TIME_FAB_CTL_SYNC_MS * 1500000 ≤ s.t + dt → Gives (.tsyncTimer dt) s fun t =>
      t.time = { s.time with syncAt := s.t + dt, syncSeq := (s.time.syncSeq + 1) % 2 ^ 32 } ∧ RegsBut [R.FAB_DROP_COUNT, R.FAB_PORT_CREDIT_STALL] s t ∧ MemSame s t ∧
      (s.bit R.FAB_CFG_ENABLE = true → ∀ n ∈ s.peers, bitOf (s.reg R.FAB_PEER_UP_UP) n = true → (s.route n).isSome = true →
        Sent (fun y => y.typ = 0x22 ∧ y.hdr.dst.toNat = n) s t)) ∧
    (s.bit R.FAB_CFG_ENABLE = true → s.portUp m = true →
      (Gives (.pdelayReq p t1) s fun t => Sent (fun y => y.typ = 0x24 ∧ y.data % 2 ^ 128 = t1 % 2 ^ 128 ∧ bits y.data 128 128 = timeLayout s.now) s t ∧
        RegsBut [R.FAB_PORT_CREDIT_STALL] s t ∧ MemSame s t) ∧
      (Gives (.pdelayResp p t1 t2 t3) s fun t => (0 ≤ x → x < 2 ^ 32 → t.reg R.TIME_FAB_PDELAY_U 0 m = x.toNat) ∧
        RegsBut [R.TIME_FAB_PDELAY_U] s t ∧ MemSame s t)) ∧
    (s.bit R.TIME_FAB_CTL_EN = true → s.time.pdAt + s.reg R.TIME_FAB_CTL_PDELAY_MS * 1500000 ≤ s.t + dt → Gives (.pdelayTimer dt) s fun t =>
      t.time = { s.time with pdAt := s.t + dt } ∧ RegsBut [R.FAB_PORT_CREDIT_STALL] s t ∧ MemSame s t ∧
      ∀ q, q < 6 → s.bit R.FAB_CFG_ENABLE = true → s.portUp q = true →
        ∃ y, (Out.packet q y ∈ t.out.drop s.out.length ∨ y ∈ (t.fport q).wait) ∧ y.typ = 0x23)

/-- R389, R390: a snapshot is armed by software or by a peer, whose package is told what became of it; at its time a running die latches its counters with its
count, one that does not run misses, and the last die ends the snapshot.
Model choices: log entries 2, 79. -/
def Obligations.Snapshots : Prop :=
  ∀ (port : Port) (cmd : BitVec 32) (die : Fin 5) (p : Fin 6) (k : Pkt) (id : BitVec 32) (time : Nat) (code : BitVec 8) (s : State),
    let w := withBit cmd.toNat 0
    let a := s.reg R.TIME_SNAP_AT_TIME
    let src := k.src.toNat
    let d := die.val
    let live := s.ticking d && (decide (d = 4) || !s.inReset 2 d)
    let armed := fun (at_ i : Nat) (remote : Bool) (t : State) =>
      t.time = { s.time with snapT := at_, snapId := i, snapDone := [] } ∧ t.reg R.TIME_SNAP_STATUS_ARMED = 1 ∧ t.reg R.TIME_SNAP_STATUS_DONE = 0 ∧
      t.reg R.TIME_SNAP_STATUS_REMOTE = b2n remote ∧ t.reg R.TIME_SNAP_STATUS_MISSED = 0 ∧ t.reg R.TIME_SNAP_STATUS_LATE = b2n (decide (at_ < s.now)) ∧ MemSame s t
    let acked := fun (c : Nat) (t : State) => (s.route src).isSome = true → Sent (fun y => y.typ = 0x26 ∧ y.hdr.dst = k.src ∧ y.data = id.toNat * 2 ^ 128 + c * 2 ^ 160) s t
    (Reaches port (timeOff 0x100) s →
      (s.bit R.TIME_SNAP_STATUS_ARMED = false → Gives (.snapshotArm port cmd) s fun t =>
        armed (ofLayout a) (bits a 64 32) false t ∧ t.reg R.TIME_SNAP_ACK_PEERS = 0 ∧ t.reg R.TIME_SNAP_CTL_FABRIC = bits w 1 1 ∧
        t.reg R.TIME_SNAP_CTL_REMOTE_EN = bits w 2 1 ∧
        (bitOf w 1 = true → s.bit R.FAB_CFG_ENABLE = true → ∀ n ∈ s.peers, bitOf (s.reg R.FAB_PEER_UP_UP) n = true → (s.route n).isSome = true →
          Sent (fun y => y.typ = 0x25 ∧ y.hdr.dst.toNat = n) s t)) ∧
      (s.bit R.TIME_SNAP_STATUS_ARMED = true → Gives (.snapshotArm port cmd) s fun t => t.time = s.time ∧ t.reg R.TIME_SNAP_CTL_FABRIC = bits w 1 1 ∧ MemSame s t)) ∧
    (s.bit R.TIME_SNAP_STATUS_ARMED = true → s.time.snapDone.contains d = false → s.listsWf = true →
      (live = true → s.time.snapT ≤ s.timeOf d (s.count d) → Gives (.snapshotLatch die) s fun t =>
        t.reg R.TIME_SNAP_TICK_COUNT 0 d = s.count d % 2 ^ 64 ∧ t.time.snapDone = d :: s.time.snapDone ∧
        (d = 4 → ∀ f ∈ snapHub, ∀ i j, mget 0 t.time.shadow (f.key i j) = s.reg f i j) ∧
        (d < 4 → ∀ f ∈ snapDie, ∀ j, mget 0 t.time.shadow (f.key d j) = s.reg f d j) ∧
        ((∀ q, q < 5 → q = d ∨ s.time.snapDone.contains q = true) → t.reg R.TIME_SNAP_STATUS_ARMED = 0 ∧ t.reg R.TIME_SNAP_STATUS_DONE = 1) ∧ MemSame s t) ∧
      (live = false → s.time.snapT ≤ s.now → Gives (.snapshotLatch die) s fun t =>
        bitOf (t.reg R.TIME_SNAP_STATUS_MISSED) d = true ∧ t.time.shadow = s.time.shadow ∧ t.time.snapDone = d :: s.time.snapDone ∧ MemSame s t)) ∧
    (Arrives p.val k s →
      (s.bit R.TIME_SNAP_CTL_REMOTE_EN = false → Gives (.snapSched p k id time) s fun t => t.time = s.time ∧ acked 3 t ∧ MemSame s t) ∧
      (s.bit R.TIME_SNAP_CTL_REMOTE_EN = true → s.bit R.TIME_SNAP_STATUS_ARMED = true → Gives (.snapSched p k id time) s fun t => t.time = s.time ∧ acked 1 t ∧ MemSame s t) ∧
      (s.bit R.TIME_SNAP_CTL_REMOTE_EN = true → s.bit R.TIME_SNAP_STATUS_ARMED = false → Gives (.snapSched p k id time) s fun t =>
        armed (ofLayout time) id.toNat true t ∧ acked (if ofLayout time < s.now then 2 else 0) t) ∧
      (code.toNat = 0 ∨ code.toNat = 2 → Gives (.snapAck p k id code) s fun t => bitOf (t.reg R.TIME_SNAP_ACK_PEERS) src = true ∧
        RegsBut [R.TIME_SNAP_ACK_PEERS, R.FAB_PEER_UP_UP] s t ∧ MemSame s t) ∧
      (code.toNat ≠ 0 → code.toNat ≠ 2 → Gives (.snapAck p k id code) s fun t => RegsBut [R.FAB_PEER_UP_UP] s t ∧ MemSame s t))

/-- R392–R394, R402: the writer takes the first entry of its FIFO into the ring of the always-on memory, counts it and an overrun, and reports drops in the place
it freed; an entry of a masked class is not written; LOG_TAIL takes a count up to HEAD.
Model choices: log entries 2, 81. -/
def Obligations.TroubleLogWriter : Prop :=
  ∀ (port : Port) (v : BitVec 32) (e : LogEnt) (r : List LogEnt) (s : State),
    let n := s.reg R.LOG_HEAD_COUNT
    let at_ := 0x70000 + 32 * (n % 2048)
    let seen := fun (t : State) =>
      (s.log.lost = none → t.log.fifo = r) ∧ t.log.lost = none ∧
      (∀ a c b, s.log.lost = some (a, c, b) → t.log.fifo = r ++ [⟨a, 4, srcLog, 0xD01, c % 2 ^ 32 + b % 2 ^ 64 * 2 ^ 32⟩])
    (s.log.fifo = e :: r → s.log.fifo.length ≤ 64 →
      (s.logged (e.code / 256) = true → Gives .logEntryWrite s fun t =>
        seen t ∧ memRead t.aon at_ 32 = e.image n (s.reg R.LOG_BOOT_BOOT) ∧ (∀ a, a < at_ ∨ at_ + 32 ≤ a → mget 0 t.aon a = mget 0 s.aon a) ∧
        t.reg R.LOG_HEAD_COUNT = (n + 1) % 2 ^ 32 ∧
        t.reg R.LOG_OVERRUN_COUNT = (if 2048 < s.logLevel + 1 then min (s.reg R.LOG_OVERRUN_COUNT + 1) (2 ^ 32 - 1) else s.reg R.LOG_OVERRUN_COUNT) ∧
        t.dram = s.dram ∧ t.hubMem = s.hubMem ∧ t.spad = s.spad ∧ t.acc = s.acc) ∧
      (s.logged (e.code / 256) = false → Gives .logEntryWrite s fun t => seen t ∧ t.regs = s.regs ∧ MemSame s t)) ∧
    (Reaches port (logOff 8) s →
      (v.toNat ≤ n → Gives (.logTailWrite port v) s fun t => t.reg R.LOG_TAIL_CONSUMED = v.toNat ∧ RegsBut [R.LOG_TAIL_CONSUMED] s t ∧ MemSame s t) ∧
      (n < v.toNat → Gives (.logTailWrite port v) s fun t => t = s))

/-- R181, R185–R187: a freed unit of the pool is zeroed and so marked; a listed stream that is on its core and must start anew starts from zero; one that is nowhere takes
a free frame of its core, from zero or with its committed copy, and a copy that cannot be read sets ERR.
Model choices: log entries 2, 62, 63, 64. -/
def Obligations.StreamFramesAndPool : Prop :=
  ∀ (part : BitVec 4) (isGroup : Bool) (idx : Nat) (stream : BitVec 16) (e : Nat × ClauseS) (s : State),
    let p := part.toNat
    let n := stream.toNat
    let c := e.2.core
    let copy := s.daRead (dieOf c) (s.strCtx n) (s.strAddr n) (512 * s.strLen n)
    let onCore := fun (t : State) (v : Nat) => t.reg R.SEQ_STREAM_TABLE_RESIDENT 0 n = 1 ∧ t.reg R.SEQ_STREAM_TABLE_CORE 0 n = c ∧
      ∃ f ∈ s.freeFrames c, t.reg R.SEQ_STREAM_TABLE_FRAME 0 n = f % 256 ∧ ∀ i, i < s.strLen n → t.spadRow c (s.frameRow c f + i) = BitVec.ofNat 4096 (v / 2 ^ (4096 * i))
    (mget false ((s.batch p).dirty isGroup) idx = true → Gives (.backgroundZeroFill part isGroup idx) s fun t =>
      t.batch p = (s.batch p).setUse isGroup idx (mget false ((s.batch p).used isGroup) idx) false ∧ t.cores = s.cores ∧ t.spad = s.spad) ∧
    ((s.listers n).find? (fun x => x.2.unstarted) = some e → s.strFail e.2.part c n = none → c < 64 → s.strLen n ≤ 64 →
      (s.strOn n c = true → s.strBit R.SEQ_STREAM_TABLE_RESET n = true → (s.listers n).all (fun x => x.2.unstarted) = true →
        Gives (.streamSwap stream) s fun t =>
          t.reg R.SEQ_STREAM_TABLE_RESET 0 n = 0 ∧ t.reg R.SEQ_STREAM_TABLE_CLAUSE_COUNT 0 n = 0 ∧ t.reg R.SEQ_STREAM_TABLE_DIRTY 0 n = 1 ∧
          (∀ i, i < s.strLen n → t.spadRow c (s.frameRow c (s.reg R.SEQ_STREAM_TABLE_FRAME 0 n) + i) = 0) ∧
          RegsBut [R.SEQ_STREAM_TABLE_RESET, R.SEQ_STREAM_TABLE_CLAUSE_COUNT, R.SEQ_STREAM_TABLE_DIRTY] s t ∧ t.dram = s.dram) ∧
      (s.strBit R.SEQ_STREAM_TABLE_RESIDENT n = false → s.freeFrames c ≠ [] →
        (s.strBit R.SEQ_STREAM_TABLE_RESET n = true → Gives (.streamSwap stream) s fun t =>
          onCore t 0 ∧ t.reg R.SEQ_STREAM_TABLE_RESET 0 n = 0 ∧ t.reg R.SEQ_STREAM_TABLE_DIRTY 0 n = 1) ∧
        (s.strBit R.SEQ_STREAM_TABLE_RESET n = false →
          (∀ v, copy = .ok v → Gives (.streamSwap stream) s fun t => onCore t v ∧ t.reg R.SEQ_STREAM_TABLE_DIRTY 0 n = 0) ∧
          (∀ x, copy = .bad x → Gives (.streamSwap stream) s fun t =>
            t.reg R.SEQ_STREAM_TABLE_ERR 0 n = 1 ∧ t.reg R.SEQ_STREAM_TABLE_RESIDENT 0 n = s.reg R.SEQ_STREAM_TABLE_RESIDENT 0 n ∧ t.spad = s.spad))))

/-- R192–R195, R199: an export or import is refused while another runs or to another partition, ends with its code where the stream is invalid, the transfer failed or the record
is bad, waits for a pinned stream, and at its end gives the stream up or takes what the record says.
Model choices: log entries 2, 65, 66. -/
def Obligations.PortableStateRecords : Prop :=
  ∀ (port : Port) (stream : BitVec 16) (keep : Bool) (x : XportS) (s : State),
    let n := stream.toNat
    let xa := s.reg R.SEQ_STREAM_XADDR_ADDR
    let tell := fun (code : Nat) (t : State) => t.reg R.SEQ_STREAM_XSTATUS_BUSY = 0 ∧ t.reg R.SEQ_STREAM_XSTATUS_WAITING = 0 ∧
      t.reg R.SEQ_STREAM_XSTATUS_DONE = 1 ∧ t.reg R.SEQ_STREAM_XSTATUS_CODE = code ∧ t.sch.xport = none
    let begun := fun (q : Nat) (t : State) => t.reg R.SEQ_STREAM_XSTATUS_WAITING = 0 ∧ t.reg R.SEQ_STREAM_TABLE_PINNED 0 q = 1 ∧ mget 0 t.sch.pins q = mget 0 s.sch.pins q + 1 ∧ MemSame s t
    (Reaches port (seqOff 0x420008) s →
      (s.bit R.SEQ_STREAM_XSTATUS_BUSY = true → Gives (.streamExport port stream keep) s (fun t => t.sch = s.sch ∧ RegsBut [R.LOG_LOST_COUNT] s t ∧ MemSame s t) ∧
        Gives (.streamImport port stream) s (fun t => t.sch = s.sch ∧ RegsBut [R.LOG_LOST_COUNT] s t ∧ MemSame s t)) ∧
      (s.bit R.SEQ_STREAM_XSTATUS_BUSY = false →
        (s.xportOk port n = false → Gives (.streamExport port stream keep) s (fun t => tell 8 t ∧ MemSame s t) ∧ Gives (.streamImport port stream) s (fun t => tell 8 t ∧ MemSame s t)) ∧
        (s.xportOk port n = true →
          (s.strBit R.SEQ_STREAM_TABLE_VALID n = false → Gives (.streamExport port stream keep) s fun t => tell 6 t ∧ MemSame s t) ∧
          (s.strBit R.SEQ_STREAM_TABLE_VALID n = true → s.strBit R.SEQ_STREAM_TABLE_PINNED n = true → Gives (.streamExport port stream keep) s fun t =>
            t.reg R.SEQ_STREAM_XSTATUS_BUSY = 1 ∧ t.reg R.SEQ_STREAM_XSTATUS_WAITING = 1 ∧ t.sch.xport = some ⟨n, false, keep⟩ ∧ MemSame s t) ∧
          (s.strBit R.SEQ_STREAM_TABLE_VALID n = true → s.strBit R.SEQ_STREAM_TABLE_PINNED n = false → Gives (.streamExport port stream keep) s fun t =>
            t.reg R.SEQ_STREAM_XSTATUS_BUSY = 1 ∧ t.sch.xport = some ⟨n, false, keep⟩ ∧ begun n t) ∧
          (Gives (.streamImport port stream) s fun t => t.reg R.SEQ_STREAM_XSTATUS_BUSY = 1 ∧ t.sch.xport = some ⟨n, true, false⟩ ∧ MemSame s t)))) ∧
    (s.sch.xport = some x →
      (s.bit R.SEQ_STREAM_XSTATUS_WAITING = true →
        (s.strBit R.SEQ_STREAM_TABLE_VALID x.stream = false → Gives .streamExportResume s fun t => tell 6 t ∧ MemSame s t) ∧
        (s.strBit R.SEQ_STREAM_TABLE_VALID x.stream = true → s.strBit R.SEQ_STREAM_TABLE_PINNED x.stream = false → Gives .streamExportResume s (begun x.stream))) ∧
      (s.bit R.SEQ_STREAM_XSTATUS_WAITING = false →
        (Gives (.streamTransferEnd true) s fun t => tell 7 t ∧ t.reg R.SEQ_STREAM_TABLE_VALID 0 x.stream = s.reg R.SEQ_STREAM_TABLE_VALID 0 x.stream ∧ t.spad = s.spad) ∧
        (∀ v, x.isImport = false → x.stream < 2 ^ 20 → s.exportData x.stream = .ok v → s.daPutFault hubXlt (s.strCtx x.stream) xa (64 + 512 * s.strLen x.stream) = none →
          Gives (.streamTransferEnd false) s fun t => tell 0 t ∧
            (x.keep = false → t.reg R.SEQ_STREAM_TABLE_VALID 0 x.stream = 0 ∧ t.reg R.SEQ_STREAM_TABLE_RESIDENT 0 x.stream = 0) ∧ t.spad = s.spad) ∧
        (∀ h r, x.isImport = true → s.daRead hubXlt (s.strCtx x.stream) xa 64 = .ok h →
          let rows := if 1 ≤ bits h 80 16 ∧ bits h 80 16 ≤ 64 then bits h 80 16 else 0
          s.daRead hubXlt (s.strCtx x.stream) xa (64 + 512 * rows) = .ok r →
          (∀ c, recordBad r = some c → Gives (.streamTransferEnd false) s fun t => tell c t ∧ t.spad = s.spad) ∧
          (recordBad r = none → s.strBit R.SEQ_STREAM_TABLE_VALID x.stream = true → Gives (.streamTransferEnd false) s fun t => tell 5 t ∧ t.spad = s.spad) ∧
          (recordBad r = none → s.strBit R.SEQ_STREAM_TABLE_VALID x.stream = false → s.daPutFault hubXlt (s.strCtx x.stream) (s.strAddr x.stream) (512 * rows) = none →
            Gives (.streamTransferEnd false) s fun t => tell 0 t ∧ t.reg R.SEQ_STREAM_TABLE_VALID 0 x.stream = 1 ∧ t.reg R.SEQ_STREAM_TABLE_RESET 0 x.stream = 0 ∧
              t.reg R.SEQ_STREAM_TABLE_LEN 0 x.stream = rows ∧ t.reg R.SEQ_STREAM_TABLE_CLAUSE_COUNT 0 x.stream = bits r 128 32 ∧ t.spad = s.spad))))

/-- R319–R322, R327: a GENERATE that may be served waits for admission, one of another context or with bad fields ends with its final record; CANCEL is kept for the boundary and a
NOP ends; a boundary that finds nothing to do stops the steps, and one that finds a request admits it.
Model choices: log entries 2, 69. -/
def Obligations.RequestsAndBoundaries : Prop :=
  ∀ (die : BitVec 2) (lq : BitVec 13) (d : DescS) (part : BitVec 4) (s : State),
    let q := qNum die lq
    let next := fun (op : Nat) => (s.queue q).fetched.find? (fun x => !x.started && x.endSt.isNone && decide (x.raw % 256 = op)) = some d
    let bp := s.qf R.QUE_QCFG_PART q
    let p := part.toNat
    let b := s.batch p
    let ends := fun (st reason : Nat) (t : State) => (∃ e ∈ (t.queue q).ending, e.n = d.n ∧ e.endSt = some st ∧ e.extra = reqExtra 0 2 reason d.raw) ∧
      t.sch = s.sch ∧ t.cores = s.cores ∧ RegsBut [R.LOG_LOST_COUNT] s t ∧ MemSame s t
    let ready := s.reg R.SEQ_BATCH_CFG_ENABLE 0 p ≠ 0 ∧ s.reg R.SEQ_STEP_STATUS_STATE 0 p ≠ 3 ∧ s.stepLive p = false ∧ s.killing (s.batchCtx p) = false ∧
      b.held = [] ∧ b.resume = false ∧ b.seqs = [] ∧ b.cancels = []
    (s.qf R.QUE_QCFG_KIND q = 2 → (s.queue q).fetched.find? (fun x => decide (x.n = d.n)) = some d →
      (next 4 → s.qf R.QUE_QCFG_CTX q = s.reg R.SEQ_BATCH_CFG_CTX 0 bp → s.genOk q d.raw = true → Gives (.generate die lq) s fun t =>
        (t.batch bp).reqs = (s.batch bp).reqs ++ [⟨q, d.n, d.accept, d.raw, bits d.raw 16 2, s.count die.toNat⟩] ∧ t.regs = s.regs ∧ t.cores = s.cores ∧ MemSame s t) ∧
      (next 4 → s.qf R.QUE_QCFG_CTX q ≠ s.reg R.SEQ_BATCH_CFG_CTX 0 bp → Gives (.generate die lq) s (ends 4 5)) ∧
      (next 4 → s.qf R.QUE_QCFG_CTX q = s.reg R.SEQ_BATCH_CFG_CTX 0 bp → s.genOk q d.raw = false → Gives (.generate die lq) s (ends stDescFormat 5)) ∧
      (next 5 → s.reqCommon q d.raw = true → Gives (.cancel die lq) s fun t =>
        (t.batch bp).cancels = (s.batch bp).cancels ++ [(q, d.n, bits d.raw 64 32)] ∧ t.regs = s.regs ∧ t.cores = s.cores ∧ MemSame s t) ∧
      (next 5 → s.reqCommon q d.raw = false → Gives (.cancel die lq) s (ends stDescFormat 5)) ∧
      (next 0 → bits d.raw 9 23 = 0 → bits d.raw 48 976 = 0 → Gives (.requestNop die lq) s (ends stOK 0))) ∧
    (s.reg R.SEQ_BATCH_CFG_ENABLE 0 p = 0 ∨ s.reg R.SEQ_STEP_STATUS_STATE 0 p = 3 → Gives (.stepBoundary part) s fun t => t = s) ∧
    (ready → b.reqs = [] → Gives (.stepBoundary part) s fun t => t.reg R.SEQ_STEP_STATUS_STATE 0 p = 0 ∧ t.reg R.SEQ_STEP_STATUS_ACTIVE 0 p = 0 ∧ t.cores = s.cores ∧ MemSame s t) ∧
    (∀ r m, ready → b.reqs = [r] → 0 < s.reg R.SEQ_BATCH_LIM_MAX_SEQ 0 p → s.freeSeq = some m → Gives (.stepBoundary part) s fun t =>
      (t.batch p).reqs = [] ∧ ∃ x, mget none (t.batch p).seqs m = some x ∧ x.queue = r.queue ∧ x.n = r.n ∧ x.raw = r.raw ∧ x.accept = r.accept)

/-- R403–R409, R412, R415–R417: the packets of a running camera port. A line waits in the port's buffer or is an orphan, packets no stream takes are discarded, header errors
are corrected or drop the packet, a frame start opens a frame with its number and due parameters, a frame end and a late end close it, and lines go into their frame.
Model choices: log entries 2, 83, 85, 86. -/
def Obligations.CameraPackets : Prop :=
  ∀ (port : BitVec 2) (vc : BitVec 4) (num : BitVec 16) (ecc : BitVec 2) (dt : BitVec 6) (wc : Nat) (payload : List (BitVec 8)) (crc : BitVec 16)
    (sid : BitVec 3) (tick : Nat) (lock ulps : Bool) (s : State),
    let p := port.toNat
    let plus := fun (f : Fld) (i : Nat) (t : State) => t.reg f 0 i = min (s.reg f 0 i + 1) (2 ^ 32 - 1)
    let bytes := (payload.take wc).map BitVec.toNat
    let bad := decide (crc16 bytes ≠ crc.toNat)
    let on := s.camsOn p vc.toNat
    let discarded := fun (t : State) => plus R.ISP_PORT_DISCARD_DT_COUNT p t ∧ t.isp = s.isp ∧ MemSame s t
    let closed := fun (st : Nat) (t : State) => (t.cam st).frame = none ∧ t.reg R.ISP_STRM_STATUS_IN_FRAME 0 st = 0
    let record := fun (st : Nat) (f : FrameS) => s.daPutFault hubXlt (s.reg R.ISP_STRM_CFG_CTX 0 st) (s.reg R.ISP_STRM_STATS_BASE_ADDR 0 st * 2 ^ 16 + 0x4000 * (f.frame % 4)) 0x4000
    (s.hubUp 0 = true → s.bit R.ISP_CTL_EN = true → s.bit R.ISP_PORT_CFG_EN 0 p = true →
      (2 ≤ ecc.toNat → ∀ c ∈ [Instr.longPacket port vc dt wc payload crc ecc, .lineStart port vc ecc, .lineEnd port vc ecc, .frameStart port vc num ecc, .frameEnd port vc num ecc],
        Gives c s fun t => plus R.ISP_PORT_ECC_DROP_COUNT p t ∧ t.isp = s.isp ∧ RegsBut [R.ISP_PORT_ECC_DROP_COUNT] s t ∧ MemSame s t) ∧
      (ecc.toNat = 1 → on ≠ [] → Gives (.lineStart port vc ecc) s (fun t => plus R.ISP_PORT_ECC_FIX_COUNT p t ∧ RegsBut [R.ISP_PORT_ECC_FIX_COUNT] s t ∧ t.isp = s.isp)) ∧
      (ecc = 0 →
        (on ≠ [] → Gives (.lineStart port vc ecc) s (fun t => t = s) ∧ Gives (.lineEnd port vc ecc) s fun t => t = s) ∧
        (on = [] → ∀ c ∈ [Instr.lineStart port vc ecc, .lineEnd port vc ecc, .frameStart port vc num ecc, .frameEnd port vc num ecc], Gives c s discarded) ∧
        (dtCode dt.toNat = none → dt ≠ 0x12 → Gives (.longPacket port vc dt wc payload crc ecc) s discarded) ∧
        (∀ k, dtCode dt.toNat = some k → s.portFill p + 8 * bytes.length ≤ 65536 → Gives (.longPacket port vc dt wc payload crc ecc) s fun t => MemSame s t ∧
          (bad = true → plus R.ISP_PORT_CRC_COUNT p t) ∧
          (on.filter (fun st => decide (s.reg R.ISP_STRM_CFG_DT 0 st = k)) = [] → t.isp = s.isp ∧ plus R.ISP_PORT_DISCARD_DT_COUNT p t) ∧
          ∀ st ∈ on, s.reg R.ISP_STRM_CFG_DT 0 st = k →
            ((s.cam st).frame.isNone = true → plus R.ISP_STRM_ORPHAN_COUNT st t) ∧
            ((s.cam st).frame.isSome = true → ⟨p, st, false, bytes, if bad then 64 else 0, s.count 4⟩ ∈ t.isp.buf)) ∧
        (on ≠ [] → Gives (.frameStart port vc num ecc) s fun t => ∀ st ∈ on,
          let c := s.cam st
          let adv := frameAdvance (s.bit R.ISP_STRM_CFG_FNUM_MODE 0 st) c.nprev num.toNat (s.reg R.ISP_STRM_FILL_FNUM_MAX 0 st)
          let n := (s.reg R.ISP_STRM_FRAME_FRAME 0 st + adv.1) % 2 ^ 32
          t.reg R.ISP_STRM_FRAME_FRAME 0 st = n ∧ t.reg R.ISP_STRM_STATUS_IN_FRAME 0 st = 1 ∧ (t.cam st).nprev = some num.toNat ∧
          (∃ f, (t.cam st).frame = some f ∧ f.frame = n ∧ f.num = num.toNat ∧ f.stamp = s.count 4 ∧ f.lines = 0 ∧ f.skipped = adv.1 - 1 ∧ f.rows = []) ∧
          (∀ q, dueSet c.sets n = some q → q.ready = true → (t.cam st).cur = some q ∧ t.reg R.ISP_STRM_ACTIVE_TAG_TAG 0 st = q.tag % 2 ^ 32)) ∧
        (on ≠ [] → Gives (.frameEnd port vc num ecc) s fun t => ∀ st ∈ on,
          ((s.cam st).frame.isNone = true → plus R.ISP_STRM_ORPHAN_COUNT st t) ∧
          (∀ f, (s.cam st).frame = some f → closed st t)))) ∧
    (∀ st l, s.hubUp 0 = true → s.bit R.ISP_CTL_EN = true →
      nextWrap ((List.range 8).filter (fun k => s.isp.buf.any (fun l => decide (l.strm = k)))) s.isp.last = some st → s.isp.buf.find? (fun l => decide (l.strm = st)) = some l →
      Gives .lineProcess s fun t => t.isp.buf = s.isp.buf.erase l ∧ t.isp.last = st ∧ t.regs = s.regs ∧ MemSame s t ∧
        (∀ f, (s.cam st).frame = some f → l.emb = false → f.lines < s.reg R.ISP_STRM_SIZE_H_EXP 0 st → ∃ g, (t.cam st).frame = some g ∧ g.lines = f.lines + 1 ∧
          g.rows = f.rows ++ [(l.stamp - f.stamp, fitLine (s.reg R.ISP_STRM_SIZE_W_EXP 0 st) (s.padPix st) (linePixels (s.reg R.ISP_STRM_CFG_DT 0 st) l.bytes))])) ∧
    (∀ f, (s.cam sid.toNat).frame = some f → s.hubUp 0 = true → f.since + s.reg R.ISP_STRM_TIMING_FE_TIMEOUT_US 0 sid.toNat * 1500 ≤ s.t + tick →
      Gives (.feTimeout sid tick) s fun t => closed sid.toNat t ∧ plus R.ISP_STRM_BAD_FRAMES_COUNT sid.toNat t ∧
        (record sid.toNat f = none → plus R.ISP_STRM_FRAMES_COUNT sid.toNat t)) ∧
    (s.hubUp 0 = true → s.bit R.ISP_PORT_CFG_EN 0 p = true → Gives (.lanesHsSyncChange port lock ulps) s fun t =>
      t.reg R.ISP_PORT_STATUS_LOCK 0 p = b2n lock ∧ t.reg R.ISP_PORT_STATUS_ULPS 0 p = b2n ulps ∧ RegsBut [R.ISP_PORT_STATUS_LOCK, R.ISP_PORT_STATUS_ULPS] s t ∧ MemSame s t)

/-- R410, R411, R418–R420, R549: parameter sets are committed to a frame, read ahead or discarded; disabling a stream closes its frame and frees them; the sensor
switches ramp, are tested, go off and on, and stay in FAULT until cleared.
Model choices: log entries 2, 87, 90. -/
def Obligations.ParameterSetsAndSwitches : Prop :=
  ∀ (port : Port) (sid : BitVec 3) (v : BitVec 32) (bank : Nat) (k : BitVec 2) (outMv inMv us dt : Nat) (s : State),
    let st := sid.toNat
    let c := s.cam st
    let ctx := s.reg R.ISP_STRM_CFG_CTX 0 st
    let n := k.toNat
    let off := ispOff (0x2000 + 0x20 * n)
    let en := s.reg R.ISP_SW_CTL_EN 0 n
    let sw := s.reg R.ISP_SW_STATUS_STATE 0 n
    let is := fun (e x : Nat) (t : State) => t.reg R.ISP_SW_CTL_EN 0 n = e ∧ t.reg R.ISP_SW_STATUS_STATE 0 n = x ∧ t.isp.cams = s.isp.cams ∧ MemSame s t
    let fault := fun (cause : Nat) (t : State) => t.reg R.ISP_SW_STATUS_STATE 0 n = 3 ∧ t.reg R.ISP_SW_STATUS_CAUSE 0 n = cause ∧
      t.reg R.ISP_SW_FAULTS_COUNT 0 n = min (s.reg R.ISP_SW_FAULTS_COUNT 0 n + 1) (2 ^ 32 - 1) ∧ MemSame s t
    let dropped := fun (t : State) => (t.cam st).sets = c.sets.eraseIdx bank ∧ t.reg R.ISP_STRM_STATUS_PSET_FAULT 0 st = 1 ∧ t.spad = s.spad
    (Reaches port (strmOff st 0x20) s →
      (bitOf v.toNat 0 = false → Gives (.psetCommit port sid v) s fun t => t = s) ∧
      (bitOf v.toNat 0 = true → 2 ≤ c.sets.length → Gives (.psetCommit port sid v) s fun t => t.reg R.ISP_STRM_STATUS_COMMIT_REJ 0 st = 1 ∧ t.isp = s.isp ∧ MemSame s t) ∧
      (bitOf v.toNat 0 = true → c.sets.length < 2 → Gives (.psetCommit port sid v) s fun t =>
        (∃ q, (t.cam st).sets = c.sets ++ [q] ∧ q.tag = (s.reg R.ISP_STRM_FRAME_FRAME 0 st + 1 + s.reg R.ISP_STRM_CFG_DELAY 0 st) % 2 ^ 32 ∧ q.ready = false) ∧
        t.reg R.ISP_STRM_STATUS_PENDING 0 st = c.sets.length + 1 ∧ RegsBut [R.ISP_STRM_STATUS_PENDING] s t ∧ MemSame s t)) ∧
    (∀ q, c.sets[bank]? = some q → q.ready = false → s.hubUp 0 = true →
      (∀ x, s.daRead hubXlt ctx q.addr 512 = .bad x → Gives (.psetPrefetchDone sid bank) s dropped) ∧
      (∀ r, s.daRead hubXlt ctx q.addr 512 = .ok r →
        let size := psetOk r (s.reg R.ISP_STRM_SIZE_W_EXP 0 st) (s.reg R.ISP_STRM_SIZE_H_EXP 0 st)
        let tab := fun (j a m : Nat) => if bitOf (recF r 8 1) j then s.daRead hubXlt ctx a m else .ok 0
        (size = false → Gives (.psetPrefetchDone sid bank) s dropped) ∧
        (∀ d e t', size = true → tab 1 (recF r 0x10 8 % 2 ^ 48) (4 * recF r 0xC 2) = .ok d → tab 2 (recF r 0x18 8 % 2 ^ 48) 8712 = .ok e →
          tab 4 (recF r 0x20 8 % 2 ^ 48) 1542 = .ok t' → Gives (.psetPrefetchDone sid bank) s fun t =>
            (t.cam st).sets = lset c.sets bank { q with ready := true, rcd := r, dpc := d, lsc := e, tone := t' } ∧ t.spad = s.spad))) ∧
    (Reaches port (strmOff st 0) s →
      (s.bit R.ISP_STRM_CFG_EN 0 st = true → Gives (.cameraStreamDisable port sid) s fun t =>
        t.cam st = CamS.reset ∧ t.reg R.ISP_STRM_CFG_EN 0 st = 0 ∧ t.reg R.ISP_STRM_STATUS_PENDING 0 st = 0 ∧ t.inp = s.inp) ∧
      (s.bit R.ISP_STRM_CFG_EN 0 st = false → Gives (.cameraStreamDisable port sid) s fun t => t = s)) ∧
    (n < 2 → Reaches port off s →
      (sw = 0 → Gives (.swEnable port k) s fun t => is 1 1 t ∧ mget 0 t.isp.sw n = s.t) ∧
      (sw = 3 → Gives (.swEnable port k) s (fun t => t = s) ∧ Gives (.swDisable port k) s (is 0 3) ∧ Gives (.swClear port k) s (is 0 0)) ∧
      (sw = 1 ∨ sw = 2 → Gives (.swEnable port k) s (is 1 sw)) ∧
      (sw = 2 → Gives (.swDisable port k) s (is 0 0) ∧ Gives (.swClear port k) s (is 0 0)) ∧
      (sw = 1 → Gives (.swDisable port k) s (is 0 1) ∧ Gives (.swClear port k) s (is 0 1))) ∧
    (2 ≤ n → Reaches port off s → ∀ i ∈ [Instr.swEnable port k, .swDisable port k, .swClear port k], Gives i s fun t =>
      RegsBut [R.LOG_LOST_COUNT] s t ∧ t.isp = s.isp ∧ MemSame s t) ∧
    (sw = 1 → mget 0 s.isp.sw n + 1500000 ≤ s.t + dt →
      (2970 ≤ outMv → 3000 ≤ inMv → Gives (.swRampEnd k outMv inMv dt) s (is en (if en ≠ 0 then 2 else 0))) ∧
      (outMv < 2970 ∨ inMv < 3000 → Gives (.swRampEnd k outMv inMv dt) s (fault 1))) ∧
    (sw = 1 ∨ sw = 2 → 200 ≤ us → Gives (.swLimitTimeout k us) s (fault 2))

/-- R425–R427, R432, R433: an audio block reaches its pipe with its number, stamp and flags, zero under the mute or where there is no room; frame sync is lost and gained; the
mute takes effect at once and ends 10 ms after its pin; a segment of the pre-wake ring is coded and stored in the always-on memory.
Model choices: log entries 2, 95. -/
def Obligations.AudioBlocksMuteAndRing : Prop :=
  ∀ (ch : Fin 40) (ago dt : Nat) (samples : List Int) (k : BitVec 1) (p : Nat) (s : State),
    let c := ch.val
    let num := mget 0 s.aud.blk c
    let lost := mget false s.aud.lost c || (match chanTdm c with | some x => !s.bit R.AUD_TDM_MASTER 0 x && !s.tdmSync x | none => false)
    let full := s.blockFull c
    let sync := fun (t : State) => if k.toNat = 0 then t.reg R.AUD_STATUS_TDM0_SYNC else t.reg R.AUD_STATUS_TDM1_SYNC
    let g := s.reg R.AUD_RING_SEG_SEG
    let xs := (List.range 1024).map (fun i => if s.bit R.AUD_STATUS_MUTE then 0 else Int.fdiv (toSigned 24 (ofSigned 24 (samples.getD i 0))) 256)
    let code := codecRun xs s.aud.ringP s.aud.ringS 0 0
    (s.hubUp 1 = true → s.bit R.AUD_CTL_EN = true → bitOf (s.reg R.AUD_CH_EN_EN) c = true →
      Gives (.audioBlock ch ago samples) s fun t =>
        mget 0 t.aud.blk c = (num + 1) % 2 ^ 32 ∧ mget false t.aud.lost c = false ∧
        t.reg R.AUD_OVERRUN_COUNT = (if lost || full then min (s.reg R.AUD_OVERRUN_COUNT + 1) (2 ^ 32 - 1) else s.reg R.AUD_OVERRUN_COUNT) ∧ MemSame s t ∧
        (s.chanPipes c = [p] → (s.pipe p).acc = [] → 2 ≤ s.reg R.INP_PIPE_OUT_OUT_W 0 p / 256 →
          ∃ b, (t.pipe p).acc = [b] ∧ b.ch = c ∧ b.num = num ∧ b.stamp = s.count 4 - ago ∧ bitOf b.flags 0 = (lost || full) ∧ bitOf b.flags 1 = s.chanMuted c ∧
            (s.chanMuted c = true ∨ full = true → b.data = List.replicate 256 0) ∧
            (s.chanMuted c = false → full = false → s.aud.back = none → b.data = (List.range 256).map (fun i => ofSigned 24 (samples.getD i 0)) ∧ bitOf b.flags 2 = false))) ∧
    (s.hubUp 1 = true →
      (s.bit R.AUD_TDM_MASTER 0 k.toNat = false → Gives (.tdmSyncLoss k) s fun t => sync t = 0 ∧
        (∀ i, i < 16 → mget false t.aud.lost (8 + 16 * k.toNat + i) = true) ∧ RegsBut [R.AUD_STATUS_TDM0_SYNC, R.AUD_STATUS_TDM1_SYNC] s t ∧ MemSame s t) ∧
      (Gives (.tdmFrameSyncGain k) s fun t => sync t = 1 ∧ t.aud = s.aud ∧ RegsBut [R.AUD_STATUS_TDM0_SYNC, R.AUD_STATUS_TDM1_SYNC] s t ∧ MemSame s t)) ∧
    (Gives .muteAssert s fun t => t.bit R.AUD_STATUS_MUTE = true ∧ t.aud.pin = true ∧ t.aud.relAt = none ∧ MemSame s t ∧
      (∀ o ∈ [Out.pin 1 1, .pin 2 0, .pin 3 0], o ∈ t.out.drop s.out.length) ∧ (s.bit R.AUD_STATUS_MUTE = false → t.reg R.AUD_WAKE_STATE_STATE = 0)) ∧
    (s.aud.pin = true → Gives .muteDeassert s fun t => t.aud = { s.aud with pin := false, relAt := some s.t } ∧ t.regs = s.regs ∧ MemSame s t) ∧
    (∀ r, s.aud.relAt = some r → s.aud.pin = false → r + 15000000 ≤ s.t + dt → Gives (.muteRelease dt) s fun t =>
      t.bit R.AUD_STATUS_MUTE = false ∧ t.aud.relAt = none ∧ t.aud.back = some (s.t + dt) ∧ MemSame s t ∧
      (∀ o ∈ [Out.pin 1 0, .pin 2 1, .pin 3 1], o ∈ t.out.drop s.out.length)) ∧
    (s.aonAudio = true → s.aud.ringOn = true → g < 2 ^ 32 → Gives (.ringSegment ago samples) s fun t =>
      t.reg R.AUD_RING_SEG_SEG = (g + 1) % 2 ^ 32 ∧ t.aud.ringP = code.2.1 ∧ t.aud.ringS = code.2.2 ∧
      (∀ i, i < 512 → memRead t.aon (segData g + i) 1 = ofSigned 4 (code.1.getD (2 * i) 0) + 16 * ofSigned 4 (code.1.getD (2 * i + 1) 0)) ∧
      memRead t.aon (segHead g) 16 = (s.count 4 - ago) % 2 ^ 64 + ofSigned 16 s.aud.ringP * 2 ^ 64 + s.aud.ringS % 256 * 2 ^ 80 +
        (1 + b2n (s.bit R.AUD_STATUS_MUTE) * 2 + b2n (decide (samples.length < 1024)) * 4) * 2 ^ 88 + g * 2 ^ 96 ∧
      t.dram = s.dram ∧ t.hubMem = s.hubMem ∧ t.spad = s.spad)

/-- R428–R431: the wake cascade climbs from W0 to W1 on the energy of the room, to W2 and W3 on the networks' outputs, falls back where nothing is heard, and hands the
template's clause to its queue, or drops the wake; tables that cannot be used keep it where it is.
Model choices: log entries 2, 96. -/
def Obligations.WakeCascade : Prop :=
  ∀ (samples : List Int) (dt : Nat) (s : State),
    let st := s.reg R.AUD_WAKE_STATE_STATE
    let is := fun (x : Nat) (t : State) => t.reg R.AUD_WAKE_STATE_STATE = x
    let sq : Nat := (List.range 256).foldl (fun a i => a + ((toSigned 24 (ofSigned 24 (samples.getD i 0))).natAbs) ^ 2) 0
    let e := energyQdb sq (256 * 2 ^ 46)
    let a := noiseStep s.aud e
    let n := a.noise.getD 0
    let fires := if (s.reg R.AUD_WAKE_CFG_W0_MARGIN : Int) ≤ e - n then s.aud.fires + 1 else 0
    let win := (s.aud.win ++ samples).drop ((s.aud.win ++ samples).length - 400)
    let hops := ((List.range 40).map (fun b => toSigned 8 (Config.melBand win b)) :: s.aud.hops).take 100
    let q := s.reg R.AUD_WAKE_Q_QUEUE
    let ctx := s.qf R.QUE_QCFG_CTX q
    let fetched := s.daRead hubXlt ctx (s.reg R.AUD_WAKE_Q_DESC) 128
    let seg := s.reg R.AUD_RING_SEG_SEG
    let up := fun (f : Fld) (t : State) => t.reg f = min (s.reg f + 1) 1023
    let handed := fun (t : State) => is 1 t ∧ t.bit R.AUD_EVENT_WAKE = true ∧ t.reg R.AUD_RING_WAKE_SEG_SEG = seg % 2 ^ 32 ∧
      t.aud.coolTo = s.t + s.reg R.AUD_WAKE_CFG_COOL_MS * 1500000
    (s.aonAudio = true → st ≠ 0 →
      (sq ≠ 0 → Gives (.w0Frame samples) s fun t => t.aud.noise = a.noise ∧ t.reg R.AUD_WAKE_STATE_NOISE = min 255 (-n).toNat ∧ MemSame s t ∧
        (st = 1 → s.aud.coolTo ≤ s.t → s.reg R.AUD_WAKE_CFG_W0_FRAMES ≤ fires →
          (s.w1Net.isSome = true → is 2 t ∧ up R.AUD_WAKE_COUNT_W1 t ∧ t.aud.win = [] ∧ t.aud.hops = []) ∧ (s.w1Net.isNone = true → is 1 t ∧ t.bit R.AUD_EVENT_MODEL_ERR = true)) ∧
        (st ≠ 1 ∨ s.t < s.aud.coolTo ∨ fires < s.reg R.AUD_WAKE_CFG_W0_FRAMES → is st t ∧ t.aud = { a with fires := fires })) ∧
      (sq = 0 → Gives (.w0Frame samples) s fun t => MemSame s t)) ∧
    (s.aonAudio = true → st = 2 ∨ st = 3 →
      (s.w1Net = none → Gives (.w1Hop samples) s fun t => is st t ∧ t.bit R.AUD_EVENT_MODEL_ERR = true ∧ t.aud = { s.aud with win := win, hops := hops } ∧ MemSame s t) ∧
      (∀ l, s.w1Net = some l →
        let c1 := ((netOut s.w1Rd l (featIn hops 32)).getD 0 0).toNat
        Gives (.w1Hop samples) s fun t => t.reg R.AUD_WAKE_STATE_C1 = c1 % 256 ∧ t.aud.win = win ∧ t.aud.hops = hops ∧ MemSame s t ∧
          (st = 2 → s.reg R.AUD_WAKE_THR_THR1 ≤ c1 → (s.w2Net.isSome = true → is 3 t ∧ up R.AUD_WAKE_COUNT_W2 t) ∧ (s.w2Net.isNone = true → is 2 t ∧ t.bit R.AUD_EVENT_MODEL_ERR = true)) ∧
          (st = 3 ∨ c1 < s.reg R.AUD_WAKE_THR_THR1 → is st t))) ∧
    (s.aonAudio = true → s.hubUp 1 = true → st = 3 →
      (s.w2Net = none → Gives .w2Hop s fun t => is 3 t ∧ t.bit R.AUD_EVENT_MODEL_ERR = true ∧ MemSame s t) ∧
      (∀ l, s.w2Net = some l →
        let c2 := ((netOut s.w2Rd l (featIn s.aud.hops 100)).getD 0 0).toNat
        Gives .w2Hop s fun t => t.reg R.AUD_WAKE_STATE_C2 = c2 % 256 ∧ MemSame s t ∧
          (s.reg R.AUD_WAKE_THR_THR2 ≤ c2 → is 4 t ∧ up R.AUD_WAKE_COUNT_W3 t) ∧ (c2 < s.reg R.AUD_WAKE_THR_THR2 → is 3 t))) ∧
    (st = 2 → s.aud.since + s.reg R.AUD_WAKE_THR_HOLD1_MS * 15000000 ≤ s.t + dt → Gives (.hold1Timeout dt) s fun t => is 1 t ∧ t.aud.since = s.t + dt ∧ t.aud.fires = 0 ∧ MemSame s t) ∧
    (st = 3 → s.aud.since + s.reg R.AUD_WAKE_THR_HOLD2_MS * 15000000 ≤ s.t + dt → Gives (.hold2Timeout dt) s fun t => is 1 t ∧ t.aud.since = s.t + dt ∧ t.aud.fires = 0 ∧ MemSame s t) ∧
    (s.aud.coolTo ≤ s.t + dt → Gives (.coolDownEnd dt) s fun t => t = { later dt s with aud := { s.aud with coolTo := 0 } }) ∧
    (st = 4 → s.hubUp 1 = true →
      (s.dieUp (q / 8192) = false → s.inReset 2 (q / 8192) = false → Gives .wakeHandoff s fun t => is 4 t ∧ t.aud = s.aud ∧ MemSame s t) ∧
      (s.dieUp (q / 8192) = true →
        (∀ r, fetched = .ok r → s.entryOk q 1 = true → s.daPutFault hubXlt ctx (s.ringAt q (s.qf R.QUE_TAIL_TAIL q)) 128 = none →
          Gives .wakeHandoff s fun t => handed t ∧ t.qf R.QUE_TAIL_TAIL q = (s.qf R.QUE_TAIL_TAIL q + 1) % 2 ^ 32 ∧ t.spad = s.spad) ∧
        (∀ x, fetched = .bad x → Gives .wakeHandoff s fun t => handed t ∧ t.bit R.AUD_EVENT_WAKE_DROP = true ∧ t.qf R.QUE_TAIL_TAIL q = s.qf R.QUE_TAIL_TAIL q ∧ t.spad = s.spad) ∧
        (s.entryOk q 1 = false → Gives .wakeHandoff s fun t => handed t ∧ t.bit R.AUD_EVENT_WAKE_DROP = true ∧ t.qf R.QUE_TAIL_TAIL q = s.qf R.QUE_TAIL_TAIL q ∧ t.spad = s.spad)))

/-- R435, R436, R439–R441, R444: a pipe takes a buffer from FREE, makes a tensor of the oldest sample or skips or replaces it, hands over a full batch, stops where a write
faults, reports low water once, and is disabled with its batch abandoned.
Model choices: log entries 2, 93. -/
def Obligations.InputPipeline : Prop :=
  ∀ (port : Port) (n : BitVec 4) (m : SampS) (rest : List SampS) (o : Nat) (s : State),
    let k := n.toNat
    let p := s.pipe k
    let h := s.reg R.INP_PIPE_SEM_FREE 0 k
    let free := s.smf R.QUE_SEM_W0_VALID h = 1 ∧ s.smf R.QUE_SEM_W0_KIND h = 1 ∧ s.pipePart k = some (s.smf R.QUE_SEM_W0_PART h)
    let low := s.reg R.INP_PIPE_BATCH_LOW 0 k
    let held := s.smf R.QUE_SEM_W0_COUNT (s.reg R.INP_PIPE_SEM_READY 0 k)
    let base := s.pipeBuf k
    let size := s.sampBytes k
    let da := base + 512 + p.inB * size
    let fits := fun (a len : Nat) => s.translate hubXlt (s.pipeCtx k) a true none = .hub (o + (a - base)) ∧ spadCore a = none ∧ 0 < len ∧ len ≤ 65536 - a % 65536
    let t0 := s.tensor k m AugS.id
    let counted := fun (f : Fld) (t : State) => t.reg f 0 k = min (s.reg f 0 k + 1) (2 ^ 32 - 1)
    (s.pipeOn k = true → p.has = false → free → s.dieUp (h / 4096) = true →
      (0 < s.smf R.QUE_SEM_W0_COUNT h → Gives (.pipeFreeAcquire n) s fun t => (t.pipe k).has = true ∧ (t.pipe k).inB = 0 ∧
        t.smf R.QUE_SEM_W0_COUNT h = (s.smf R.QUE_SEM_W0_COUNT h - 1) % 2 ^ R.QUE_SEM_W0_COUNT.w ∧ RegsBut [R.QUE_SEM_W0_COUNT] s t ∧ MemSame s t) ∧
      (s.smf R.QUE_SEM_W0_COUNT h = 0 → Gives (.pipeFreeAcquire n) s fun t => t = s)) ∧
    (s.pipeOn k = true → Gives (.readyPoll n) s fun t => t.pipe k = { p with above := decide (low ≤ held), polled := s.t } ∧ MemSame s t ∧
      (held < low → p.above = true → t.bit R.INP_PIPE_STATUS_LOW_WATER 0 k = true) ∧
      (low ≤ held ∨ p.above = false → t.regs = s.regs)) ∧
    (s.pipeOn k = true → p.buf = m :: rest → s.bit R.INP_PIPE_CFG_AUDIO 0 k = false →
      (s.sampBad k m = true → s.reg R.INP_PIPE_CFG_POLICY 0 k = 0 → Gives (.pipeSample n) s fun t =>
        t.pipe k = { p with buf := rest } ∧ counted R.INP_PIPE_SKIPPED_COUNT t ∧ RegsBut [R.INP_PIPE_SKIPPED_COUNT] s t ∧ MemSame s t) ∧
      (s.sampBad k m = false → p.has = false → Gives (.pipeSample n) s fun t => t = s) ∧
      (p.has = true → fits da size →
        (s.sampBad k m = false → s.reg R.INP_PIPE_CFG_AUG_MODE 0 k = 0 →
          (p.inB + 1 < s.reg R.INP_PIPE_BATCH_BATCH 0 k → Gives (.pipeSample n) s fun t =>
            t.hubMem = memWrite s.hubMem (o + (da - base)) size (bits (packN (fmtBits (s.reg R.INP_PIPE_OUT_FMT 0 k)) t0) 0 (8 * size)) ∧
            (t.pipe k).buf = rest ∧ (t.pipe k).idx = p.idx + 1 ∧ (t.pipe k).inB = p.inB + 1 ∧ (t.pipe k).has = true ∧ (t.pipe k).good = some t0 ∧ t.regs = s.regs ∧
            t.dram = s.dram ∧ t.spad = s.spad) ∧
          (s.reg R.INP_PIPE_BATCH_BATCH 0 k ≤ p.inB + 1 → fits base 512 → Gives (.pipeSample n) s fun t =>
            (t.pipe k).buf = rest ∧ (t.pipe k).idx = p.idx + 1 ∧ (t.pipe k).inB = 0 ∧ (t.pipe k).has = false ∧ (t.pipe k).batch = (p.batch + 1) % 2 ^ 32 ∧
            counted R.INP_PIPE_BATCHES_COUNT t ∧ t.dram = s.dram ∧ t.spad = s.spad)) ∧
        (s.sampBad k m = true → s.reg R.INP_PIPE_CFG_POLICY 0 k = 1 → p.inB + 1 < s.reg R.INP_PIPE_BATCH_BATCH 0 k → Gives (.pipeSample n) s fun t =>
          counted R.INP_PIPE_REPLACED_COUNT t ∧ (t.pipe k).buf = rest ∧ (t.pipe k).good = p.good ∧
          t.hubMem = memWrite s.hubMem (o + (da - base)) size (bits (packN (fmtBits (s.reg R.INP_PIPE_OUT_FMT 0 k)) (p.good.getD (s.fillTensor k))) 0 (8 * size)))) ∧
      (∀ c, p.has = true → spadCore da = none → s.sampBad k m = false → s.reg R.INP_PIPE_CFG_AUG_MODE 0 k = 0 → s.inpFault (s.pipeCtx k) da size = some c →
        Gives (.pipeSample n) s fun t => (t.pipe k).stopped = true ∧ (t.pipe k).has = false ∧ t.bit R.INP_PIPE_STATUS_ERR 0 k = true ∧
          t.reg R.INP_PIPE_STATUS_CLASS 0 k = c % 16 ∧ t.reg R.INP_PIPE_STATUS_ACTIVE 0 k = 0 ∧ t.spad = s.spad)) ∧
    (Reaches port (inpOff (0x1000 + 0x100 * k)) s →
      (s.bit R.INP_PIPE_CFG_EN 0 k = true → Gives (.pipeDisable port n) s fun t => t.pipe k = { PipeS.reset with batch := p.batch } ∧
        t.reg R.INP_PIPE_CFG_EN 0 k = 0 ∧ t.reg R.INP_PIPE_STATUS_ACTIVE 0 k = 0 ∧ RegsBut [R.INP_PIPE_CFG_EN, R.INP_PIPE_STATUS_ACTIVE] s t ∧ MemSame s t) ∧
      (s.bit R.INP_PIPE_CFG_EN 0 k = false → Gives (.pipeDisable port n) s fun t => t = s))

/-- R446–R458, R544: requests for Coast, Retain and Run begin, refuse or undo an entry; a quiet die sleeps; the package follows its dies into Retain or goes Off; wake events
begin an exit or leave Off; a die that wakes runs again or is reset where its image is bad; the estimate and the throttle follow the power.
Model choices: log entries 2, 106, 107, 108. -/
def Obligations.PowerStates : Prop :=
  ∀ (port : Port) (die : BitVec 2) (target : Fin 5) (core : BitVec 4) (w dt : Nat) (e : EntS) (s : State),
    let d := die.toNat
    let u := later dt s
    let same := fun (t : State) => t.reg R.PWR_STATE_DIE 0 d = s.reg R.PWR_STATE_DIE 0 d
    let entered := fun (tg : Nat) (pkg : Bool) (t : State) => t.entering d = some ⟨tg, pkg, s.t⟩ ∧ t.reg R.PWR_STATE_BUSY 0 d = 1 ∧ same t ∧ MemSame s t
    let refused := fun (t : State) => t.entering d = none ∧ t.reg R.PWR_DIE_REQ_STATE 0 d = 0 ∧ t.bit R.PWR_EVENT_REFUSED = true ∧ same t ∧ MemSame s t
    let exits := fun (d : Nat) (at_ : Nat) (t : State) => t.exitOf d = some at_ ∧ MemSame s t
    let asleep := fun (d : Nat) => s.pwrState d ≠ 0 ∧ s.exitOf d = none ∧ s.entering d = none
    let left := fun (t : State) => t.pwr.off = none ∧ t.pkg.sysPwr = true ∧ Out.pin 0 1 ∈ t.out.drop s.out.length ∧ MemSame s t
    let awake := fun (t : State) => t.reg R.PWR_STATE_DIE 0 d = 0 ∧ t.reg R.PWR_STATE_BUSY 0 d = 0 ∧ t.exitOf d = none ∧ (∀ k, k < 16 → (t.core (16 * d + k)).cycRun = true) ∧
      t.reg R.DMC_STATUS_SELF_REFRESH d = 0 ∧ MemSame s t
    (Reaches port (pwrOff 4) s →
      (s.mayEnter d = true → Gives (.dieCoastRequest port die) s (fun t => entered 2 false t ∧ t.reg R.PWR_DIE_REQ_STATE 0 d = 2) ∧
        Gives (.dieRetainRequest port die) s (fun t => entered 3 false t ∧ t.reg R.PWR_DIE_REQ_STATE 0 d = 3)) ∧
      (s.mayEnter d = false → s.reg R.PWR_STATE_DIE 0 d = 0 → s.entering d = none → Gives (.dieCoastRequest port die) s refused ∧ Gives (.dieRetainRequest port die) s refused) ∧
      (asleep d → Gives (.dieRunRequest port die) s fun t => exits d s.t t ∧ t.reg R.PWR_DIE_REQ_STATE 0 d = 0) ∧
      (s.entering d = some e → Gives (.dieRunRequest port die) s fun t => mget false t.pwr.wake d = true ∧ t.entering d = some e ∧ MemSame s t)) ∧
    (asleep d → Gives (.dieWake die) s (exits d s.t)) ∧
    (s.entering d = some e → e.pkg = false →
      (mget false s.pwr.wake d = true → Gives (.entryQuiesced die) s fun t => t.entering d = none ∧ t.reg R.PWR_DIE_REQ_STATE 0 d = 0 ∧
        t.reg R.PWR_ENTRY_ABORTS_COUNT = min (s.reg R.PWR_ENTRY_ABORTS_COUNT + 1) (2 ^ 32 - 1) ∧ t.bit R.PWR_EVENT_ABORTED = true ∧ same t ∧ MemSame s t) ∧
      (mget false s.pwr.wake d = false → s.quietDie d = true → Gives (.entryQuiesced die) s fun t => t.entering d = none ∧ t.reg R.PWR_STATE_DIE 0 d = e.target % 8 ∧
        t.reg R.PWR_STATE_BUSY 0 d = 0 ∧ t.reg R.DMC_STATUS_SELF_REFRESH d = 1 ∧ (∀ k, k < 16 → (t.core (16 * d + k)).cycRun = false) ∧
        (e.target = 3 → t.ticking d = false) ∧ t.spad = s.spad ∧ t.dram = s.dram ∧ t.acc = s.acc) ∧
      (e.since + 75000 < s.t + dt → Gives (.entryWaitTimeout die dt) s refused)) ∧
    (Reaches port (pwrOff 0) s →
      (s.pwr.pkg = false → s.pwrState 4 = 0 →
        (∀ q, (List.range 4).find? (fun d => decide (s.pwrState d ≠ 3)) = some q → s.mayEnter q = true → Gives (.pkgRetainRequest port) s fun t =>
          t.entering q = some ⟨3, true, s.t⟩ ∧ t.pwr.pkg = true ∧ t.reg R.PWR_STATE_HUB_BUSY = 1 ∧ MemSame s t) ∧
        ((∀ q, q < 4 → s.pwrState q = 3) → s.bit R.FAB_CFG_ENABLE = false → s.bit R.ISP_CTL_EN = false → s.bit R.INP_CTL_EN = false → Gives (.pkgRetainRequest port) s fun t =>
          t.reg R.PWR_STATE_HUB = 3 ∧ t.entering 4 = none ∧ t.ticking 4 = false ∧ t.spad = s.spad ∧ t.dram = s.dram)) ∧
      (Gives (.pkgOffRequest port) s fun t => Wiped trigOff t ∧ t.pwr.off = some s.t ∧ t.pkg.sysPwr = false ∧ Out.pin 0 0 ∈ t.out.drop s.out.length)) ∧
    (∀ t0, s.pwr.off = some t0 →
      (s.bit R.PWR_WAKE_SRC_PIN = true → (t0 + 15000000 ≤ s.t → Gives .wakePin s left) ∧
        (s.t < t0 + 15000000 → Gives .wakePin s fun t => t = { s with pwr := { s.pwr with offWake := true } })) ∧
      (s.bit R.PWR_WAKE_SRC_TIMER = true → s.reg R.PWR_OFF_TIMER_SECONDS ≠ 0 → t0 + s.reg R.PWR_OFF_TIMER_SECONDS * 1500000000 ≤ s.t + dt → Gives (.offTimerExpiry dt) s left) ∧
      (s.pwr.offWake = true → t0 + 15000000 ≤ s.t + dt → Gives (.offHoldEnd dt) s left)) ∧
    (s.pwr.off = none → asleep 4 →
      (s.bit R.PWR_WAKE_SRC_PIN = true → Gives .wakePin s (exits 4 s.t)) ∧ Gives .pcieWake s (exits 4 s.t) ∧
      (s.bit R.PWR_WAKE_SRC_TIMER = true → s.reg R.PWR_WAKE_AT_COUNT ≠ 0 → s.reg R.PWR_WAKE_AT_COUNT ≤ u.hubCount → Gives (.wakeAtTimer dt) s (exits 4 (s.t + dt)))) ∧
    (∀ t0, s.exitOf 4 = some t0 → target.val = 4 → t0 + 2250000 ≤ s.t + dt → Gives (.wakeComplete target dt) s fun t =>
      t.reg R.PWR_STATE_HUB = 0 ∧ t.exitOf 4 = none ∧ t.ticking 4 = true ∧ MemSame s t) ∧
    (∀ t0, s.exitOf d = some t0 → target.val = d → s.pwrState 4 = 0 →
      (s.pwrState d ≠ 3 → t0 + 30000 ≤ s.t + dt → Gives (.wakeComplete target dt) s awake) ∧
      (s.pwrState d = 3 → t0 + 2250000 ≤ s.t + dt →
        (s.imageGood (0xC00 * d) 0xC00 = true → Gives (.wakeComplete target dt) s awake) ∧
        (s.imageGood (0xC00 * d) 0xC00 = false → Gives (.wakeComplete target dt) s fun t => t.inReset 2 d = true ∧ t.bit R.PWR_EVENT_IMAGE_ERR = true))) ∧
    (s.pkg.held = false →
      (let l := (w :: s.pwr.est).take (s.reg R.PWR_CAP_WINDOW_MS * 100)
       Gives (.powerEstimate w dt) s fun t => t.pwr = { s.pwr with est := l } ∧ t.reg R.PWR_CAP_STATUS_AVG_W = min 1023 (l.sum / l.length) ∧ MemSame s t) ∧
      (let lv := s.reg R.PWR_CAP_STATUS_LEVEL
       let lim := 10 * (if s.bit R.PWR_THERM_HOT then min (s.reg R.PWR_CAP_LIMIT) (s.reg R.PWR_CAP_HOT_LIMIT) else s.reg R.PWR_CAP_LIMIT)
       lv < 16 → s.pwr.adjAt + 1500000 ≤ s.t + dt → Gives (.throttleAdjust dt) s fun t => MemSame s t ∧
         (lim * s.pwr.est.length < s.pwr.est.sum → t.reg R.PWR_CAP_STATUS_LEVEL = min 15 (lv + 1)) ∧
         (s.pwr.est.sum ≤ lim * s.pwr.est.length → (lim - 10) * s.pwr.est.length ≤ s.pwr.est.sum → t.reg R.PWR_CAP_STATUS_LEVEL = lv) ∧
         (s.pwr.est.sum ≤ lim * s.pwr.est.length → s.pwr.est.sum < (lim - 10) * s.pwr.est.length → t.reg R.PWR_CAP_STATUS_LEVEL = lv - 1))) ∧
    (s.throttled d = true → Gives (.throttleAllowedPart die) s fun t => t = s) ∧
    (s.throttled d = false → mrising s.sch.clauses = true → (∀ k, k < 16 → k ≠ core.toNat → s.coreOpen (16 * d + k) = false) → Gives (.throttleAllowedPart die) s fun t =>
      t = run (clauseChoice (16 * d + core.toNat)) s)

/-- R459–R463, R478, R542–R548, R560: a trip keeps the committed set and clears the package, the save writes the record and the package waits for the supply or goes Off; temperature
readings, the hold supply, and the pins and clocks that reset and release the package.
Model choices: log entries 2, 6, 109, 123. -/
def Obligations.SagSupplyAndTemperature : Prop :=
  ∀ (cycles ms dt : Nat) (temps : List Int) (die : Fin 5) (rail : BitVec 8) (r : SagS) (s : State),
    let d := die.val
    let top := temps.foldl max 0
    let hot := temps.any (fun t => decide (((s.reg R.PWR_THERM_HOT_C : Nat) : Int) ≤ t)) || (List.range 4).any (fun d => (List.range 16).any (fun c => s.bit R.DMC_CH_STATUS_OVER_TEMP d c))
    let saves := fun (thermal : Bool) (t : State) => Wiped trigSag t ∧ ∃ r, t.pwr.sag = some r ∧ r.since = t.t ∧ r.thermal = thermal
    (s.bit R.PWR_SAG_CFG_EN = true → s.reg R.PWR_SAG_CFG_FILTER ≤ cycles → s.pkg.held = false → s.pwr.sag = none → s.pwr.off = none →
      Gives (.sagTrip cycles) s fun t => saves false t ∧ ∃ r, t.pwr.sag = some r ∧ r.entries = (s.committed.take 4778).map s.sagEntry ∧ r.head = s.sagHead false) ∧
    (s.pwr.sag = some r →
      (r.thermal = false → Gives .sagSaveComplete s fun t => t.pwr.sag = none ∧ t.pwr.tripped = true ∧ t.dram = s.dram ∧ t.spad = s.spad ∧
        (r.keep = false → r.entries.length ≤ 4778 →
          let head := r.head + t.reg R.LOG_HEAD_COUNT * 2 ^ 448
          memRead t.aon sagAt 4 = 0x53474152 ∧ memRead t.aon (sagAt + 4) 100 = head / 2 ^ 32 % 2 ^ 800 ∧ memRead t.aon (sagAt + 0x68) 4 = sagCrc head r.entries % 2 ^ 32 ∧
          ∀ i, i < r.entries.length → memRead t.aon (sagEntAt + 24 * i) 24 = r.entries.getD i 0 % 2 ^ 192)) ∧
      (r.thermal = true → Gives .sagSaveComplete s fun t => Wiped trigOff t ∧ t.pwr.off = some s.t ∧ t.pwr.sag = none)) ∧
    (s.pwr.tripped = true → s.reg R.PWR_SAG_CFG_RECOVER_MS ≤ ms → Gives (.sagRecover ms) s fun t => t.pwr.tripped = false ∧
      (MayRelease s → s.pkg.pwrgd = true → s.pkg.perst = true → s.pkg.refclk = true → Released s t)) ∧
    (s.pkg.held = false →
      (temps.all (fun x => decide (x < 105)) = true → Gives (.thermalRead temps dt) s fun t =>
        t.reg R.PWR_THERM_TEMP_C = min 255 top.toNat ∧ t.reg R.PWR_THERM_HOT = b2n hot ∧ MemSame s t) ∧
      (temps.any (fun x => decide (105 ≤ x)) = true → Gives (.thermalRead temps dt) s (saves true))) ∧
    (s.bit R.PWR_SAG_STATUS_HOLD_OK = true → Gives .holdVinDrop s fun t => t.reg R.PWR_SAG_STATUS_HOLD_OK = 0 ∧ t.bit R.PWR_EVENT_HOLD_LOW = true ∧ MemSame s t) ∧
    (Gives .holdVinRecover s fun t => t.reg R.PWR_SAG_STATUS_HOLD_OK = 1 ∧ RegsBut [R.PWR_SAG_STATUS_HOLD_OK] s t ∧ MemSame s t) ∧
    (s.pkg.vaon = false → Gives .aonPowerUp s fun t => t.pkg = { s.pkg with vaon := true, sysPwr := true, trig := trigPwrgd } ∧ t.t = s.t + 3000000 ∧
      t.out = s.out ++ [.pin 0 1] ∧ t.regs = s.regs ∧ MemSame s t) ∧
    (s.pkg.vaon = true → s.pkg.sysPwr = true → Gives .packageResetRelease s fun t => t.pkg.pwrgd = true ∧ t.pkg.perst = true ∧
      (MayRelease s → s.pwr.tripped = false → s.pkg.refclk = true → Released s t) ∧ (s.pkg.held = false → t.regs = s.regs ∧ MemSame s t)) ∧
    (s.pkg.pwrgd = true →
      (s.pwr.sag = none → s.pkg.held = false → Gives .pwrgdFall s fun t => Wiped trigPwrgd t ∧ t.pkg.pwrgd = false ∧ Out.pin 4 0 ∈ t.out.drop s.out.length) ∧
      (s.pwr.sag = some r → s.t < r.since + 60000 → Gives .pwrgdFall s fun t => t.pwr.sag = none ∧ t.pwr.tripped = !r.thermal ∧ t.pkg.pwrgd = false ∧ MemSame s t) ∧
      (s.pwr.sag = some r → r.since + 60000 ≤ s.t → Gives .pwrgdFall s fun t => t.pwr = s.pwr ∧ t.pkg.pwrgd = false ∧ MemSame s t) ∧
      (s.pkg.held = false → Gives .pcieFundamentalReset s fun t => Wiped trigPcie t ∧ t.pkg.perst = false) ∧
      (s.pwr.sag = none → s.pkg.held = false → (d = 4 → Gives (.railUndervoltage die rail) s (Wiped trigRail)) ∧
        (d ≠ 4 → Gives (.railUndervoltage die rail) s fun t => t.inReset 2 d = true))) ∧
    (s.pkg.refclk = true → s.pkg.held = false → Gives .refclkLoss s fun t => Wiped trigRefclk t ∧ t.pkg.refclk = false ∧ t.log.held = some ⟨s.count 4, 4, srcPwr, 0x90B, 0⟩) ∧
    (s.pkg.refclk = false → Gives (.refclkReturn dt) s fun t => t.pkg.refclk = true ∧ t.log.held = none ∧ t.t = s.t + dt ∧
      (1500000 ≤ dt → MayRelease s → s.pwr.tripped = false → s.pkg.pwrgd = true → s.pkg.perst = true → Released s t))

/-- R467–R478: a core that stalls is declared hung and its suspects are cleared and probed, or its clause ends where probes are not allowed; the outcomes of
the probes end the guilty; cycles of waits are found, confirmed and broken; what does not end escalates to a reset, and so does a Hub block without progress.
Model choices: log entries 2, 103. -/
def Obligations.HangRecovery : Prop :=
  ∀ (core block : BitVec 6) (dt : Nat) (k : ClauseS) (r : RecS) (s : State),
    let c := core.toNat
    let u := later dt s
    let id := (s.core c).clause
    let cand := r.cands.getD r.cur 0
    let up := fun (f : Fld) (t : State) => t.reg f = min (s.reg f + 1) (2 ^ 32 - 1)
    let hang := fun (kind x : Nat) (t : State) => up R.HUB_RCV_HANGS_COUNT t ∧ t.reg R.HUB_RCV_LAST_CORE = x % 64 ∧ t.reg R.HUB_RCV_LAST_KIND = kind ∧
      t.reg R.HUB_RCV_LAST_VALID = 1 ∧ t.bit (if kind = 2 then R.HUB_RCV_EVENT_CYCLE else R.HUB_RCV_EVENT_HANG) = true ∧ MemSame s t
    let noted := fun (o : Nat) (t : State) => mget none t.sch.recs c = some { r with outc := lset r.outc r.cur o, probing := false, cleared := false, since := u.coreTick c } ∧
      (t.core c).halted = true ∧ MemSame s t
    let escalated := fun (t : State) => up R.HUB_RCV_ESCALATE_COUNT t ∧ t.bit R.HUB_RCV_EVENT_ESCALATED = true
    let cleared := r.probing = false ∧ r.cleared = true ∧ s.die.xfers.any (fun e => match e.2 with
      | some v => v.ofClause cand && !s.imaged e.1
      | none => false) = false
    let next := findUp (fun i => ((r.cands[i]?).bind s.clause).isSome) (if r.first then 0 else r.cur + 1) 5
    (u.stalled c = true →
      (mget none s.sch.recs c = none → s.running c = some k → k.core = c →
        (bitOf (s.reg R.HUB_RCV_PART_REPLAY_EN) k.part = true → k.streams = [] → Gives (.stallDetect core dt) s fun t => hang 1 c t ∧
          mget none t.sch.recs c = some { cands := id :: s.suspects c, wasSus := false :: (s.suspects c).map (fun _ => true), outc := List.replicate ((s.suspects c).length + 1) 0, cur := 0, probing := false, since := u.coreTick c, cleared := false, first := true } ∧
          (t.core c).halted = true ∧ (t.core c).wait = .none) ∧
        (bitOf (s.reg R.HUB_RCV_PART_REPLAY_EN) k.part = false ∨ k.streams ≠ [] → k.queue ≠ 32768 → Gives (.stallDetect core dt) s fun t => hang 1 c t ∧
          t.clause id = none ∧ (t.core c).inClause = false)) ∧
      (mget none s.sch.recs c = some r → r.probing = true → Gives (.stallDetect core dt) s (noted 1))) ∧
    (mget none s.sch.recs c = some r →
      (r.probing = false → r.cleared = false → s.clause cand = some k → Gives (.coreClear core) s fun t => mget none t.sch.recs c = some { r with cleared := true } ∧
        (t.core c).inClause = false ∧ (t.core c).halted = false ∧ (t.core c).wait = .none ∧ (t.core c).mq = [] ∧ (t.core c).vq = [] ∧ (t.core c).cq = [] ∧
        (t.clause cand).map (fun x => x.st) = some (if r.wasSus.getD r.cur false then .suspended else .waiting) ∧ MemSame s t) ∧
      (cleared →
        (∀ i j, next = some i → r.cands[i]? = some j → s.clause j = some k → Gives (.clearDone core) s fun t =>
          mget none t.sch.recs c = some { r with cur := i, probing := true, since := s.coreTick c, cleared := false, first := false } ∧
          (t.clause j).map (fun x => x.st) = some (if k.code = 0 then .chosen else .loading) ∧ MemSame s t) ∧
        (next = none → r.outc.any (fun o => decide (o = 1) || decide (o = 2)) = false → Gives (.clearDone core) s fun t =>
          mget none t.sch.recs c = none ∧ up R.HUB_RCV_UNREPRO_COUNT t ∧ t.bit R.HUB_RCV_EVENT_NOT_REPRODUCED = true) ∧
        (∀ j b, next = none → r.cands = [j] → r.outc = [1] → r.wasSus = [b] → s.clause j = some k → k.queue ≠ 32768 → Gives (.clearDone core) s fun t =>
          mget none t.sch.recs c = none ∧ t.clause j = none ∧ up R.HUB_RCV_GUILTY_COUNT t ∧ t.bit R.HUB_RCV_EVENT_GUILTY = true ∧ MemSame s t)) ∧
      (r.probing = true → r.since + s.reg R.HUB_RCV_CFG_PROBE ≤ u.coreTick c → Gives (.probeTimeout core dt) s (noted 4)) ∧
      (r.probing = false → r.since + 2500 ≤ u.coreTick c → Gives (.clearTimeout core dt) s fun t => escalated t ∧ t.inReset 1 c = true ∧
        (s.inReset 1 c = false → mget none t.sch.recs c = none))) ∧
    (s.pkg.held = false → mget 0 s.pkg.rst (rstKey 1 c) ≠ 0 → mget 0 s.pkg.since (rstKey 1 c) + 15000 ≤ s.t + dt → Gives (.coreResetTimeout core dt) s fun t =>
      escalated t ∧ t.reg R.HUB_RESET_STATUS_FAILED = 1 ∧ t.inReset 2 (dieOf c) = true) ∧
    (s.bit R.HUB_RCV_CTL_CYCLE_EN = true → s.ready = true → s.sch.scan.at_ + 2500 ≤ u.count 4 →
      (u.cycles = [] → Gives (.waitForScan dt) s fun t => t = { u with sch := { s.sch with scan := ⟨u.count 4, []⟩ } }) ∧
      (∀ l, u.cycles = [l] →
        let starts := l.flatMap (fun c => (u.waitsOf c).map Prod.fst)
        let found := s.sch.scan.sets.find? (fun e => decide (e.1 = l) && decide (e.2.2 = starts))
        (found = none → 0 < s.reg R.HUB_RCV_CYCLE_CONFIRM → Gives (.waitForScan dt) s fun t =>
          t = { u with sch := { s.sch with scan := ⟨u.count 4, [(l, u.count 4, starts)]⟩ } }) ∧
        (∀ e v, found = some e → e.2.1 + s.reg R.HUB_RCV_CYCLE_CONFIRM ≤ u.count 4 → u.victimOf l = some v → v.2.core = v.1 → v.2.queue ≠ 32768 →
          Gives (.waitForScan dt) s fun t => hang 2 v.1 t ∧ t.clause (s.core v.1).clause = none ∧ up R.HUB_RCV_GUILTY_COUNT t ∧
            t.bit R.HUB_RCV_EVENT_GUILTY = true ∧ t.sch.scan = ⟨u.count 4, []⟩))) ∧
    (block.toNat < 6 → s.pkg.held = false → u.hubWork block.toNat = true → 1500000 ≤ dt → Gives (.blockWatchdog block dt) s fun t => t.inReset 3 block.toNat = true ∧
      (s.inReset 3 block.toNat = false → t.reg R.HUB_RESET_STATUS_BUSY = 1))

/-- R70, R478–R482, R487, R561, R31: a reset of a core, a die, a Hub block or the package is ignored while one runs; it returns the domain's registers but those that it
keeps; the release starts the domain's clocks and reports.
Model choices: log entries 2, 99, 100, 104. -/
def Obligations.Resets : Prop :=
  ∀ (port : Port) (core block : BitVec 6) (die : BitVec 2) (d5 : Fin 5) (ok : Bool) (dom idx : Nat) (s : State),
    let c := core.toNat
    let d := die.toNat
    let b := block.toNat
    let back := fun (l : List RegDef) (keep : List Fld) (inst : Nat → Prop) (t : State) => ∀ (f : Fld) (i j : Nat), f.id ∈ idsOf l → (∀ g ∈ keep, f.id ≠ g.id) → i < 64 → inst i →
      t.reg f i j = f.rst.value i j
    let left := fun (t : State) => t.reg R.HUB_RESET_STATUS_DONE = 1 ∧ t.bit R.HUB_RCV_EVENT_RESET_DONE = true ∧ MemSame s t ∧
      ((∀ e ∈ s.pkg.rst, e.1 = rstKey dom idx) → t.reg R.HUB_RESET_STATUS_BUSY = 0)
    let ignored := fun (i : Instr) => Gives i s fun t => t.pkg = s.pkg ∧ t.cores = s.cores ∧ t.die = s.die ∧ RegsBut [R.LOG_LOST_COUNT] s t ∧ MemSame s t
    let hub := [(regsIsp, []), (regsAud, [R.AUD_RING_CFG_RING_EN, R.AUD_RING_CFG_FREEZE, R.AUD_RING_SEG_SEG, R.AUD_RING_WAKE_SEG_SEG, R.AUD_STATUS_MUTE]), (regsInp, []),
      (regsSeq, streamFlds), (regsFab, []), (regsSbp, [R.SBP_CTL_WRITE_LOCK])].getD b ([], [])
    (Reaches port 0x80040 s →
      (s.bit R.HUB_RESET_STATUS_BUSY = true → ignored (.resetCore port core) ∧ ignored (.resetDie port die ok) ∧ ignored (.resetHubBlock port block) ∧ ignored (.resetPackage port)) ∧
      (s.bit R.HUB_RESET_STATUS_BUSY = false →
        (s.inReset 1 c = false → Gives (.resetCore port core) s fun t => t.inReset 1 c = true ∧ t.reg R.HUB_RESET_STATUS_BUSY = 1 ∧ t.reg R.HUB_RESET_CMD_INDEX = c ∧
          t.core c = CoreS.reset ∧ back regsCore coreKeep (fun i => i = c) t ∧ mget none t.sch.recs c = none ∧ t.spad = s.spad) ∧
        (s.inReset 2 d = false → Gives (.resetDie port die ok) s fun t => t.inReset 2 d = true ∧ t.reg R.HUB_RESET_STATUS_BUSY = 1 ∧ t.ticking d = false ∧
          (∀ k, k < 16 → t.core (16 * d + k) = CoreS.reset) ∧ back regsCore coreKeep (fun i => i / 16 = d) t ∧ back (regsDmc ++ regsQue ++ regsXlt) dieKeep (fun i => i = d) t ∧
          (∀ q, q / 8192 = d → t.queue q = QueS.none) ∧ (∀ h, h / 4096 = d → t.sem h = SemS.none) ∧ t.reg R.PWR_STATE_DIE 0 d = 0 ∧
          (s.fab.held = [] → t.dram = s.dram) ∧ (ok = false → t.reg R.HUB_RESET_STATUS_DRAM_LOST = 1) ∧
          (ok = true → t.reg R.HUB_RESET_STATUS_DRAM_LOST = s.reg R.HUB_RESET_STATUS_DRAM_LOST ∧ (s.fab.held = [] → t.die.sealed = s.die.sealed))) ∧
        (b < 6 → s.inReset 3 b = false → Gives (.resetHubBlock port block) s fun t => t.inReset 3 b = true ∧ t.reg R.HUB_RESET_STATUS_BUSY = 1 ∧
          back hub.1 hub.2 (fun _ => True) t) ∧
        (6 ≤ b → ignored (.resetHubBlock port block)) ∧
        Gives (.resetPackage port) s (Wiped 0))) ∧
    (MayRelease s → s.pwr.tripped = false → s.pkg.pwrgd = true → s.pkg.perst = true → s.pkg.refclk = true → Gives (.resetRelease 4 idx) s (Released s)) ∧
    (s.pkg.held = false → mget 0 s.pkg.rst (rstKey dom idx) ≠ 0 →
      (dom = 1 → s.inReset 2 (dieOf idx) = false → Gives (.resetRelease dom idx) s fun t => t.inReset 1 idx = false ∧ t.cyc idx = 0 ∧ left t) ∧
      (dom = 2 → s.ready = true → bitOf (s.reg R.HUB_BOOT_DIE_OK) idx = true → Gives (.resetRelease dom idx) s fun t => t.inReset 2 idx = false ∧ t.ticking idx = true ∧
        t.count idx = s.count 4 % 2 ^ 64 ∧ (∀ k, k < 16 → t.cyc (16 * idx + k) = 0) ∧ (s.reg R.DMC_STATUS_FIT idx ≠ 0 → t.reg R.DMC_STATUS_READY idx = 1) ∧ left t) ∧
      (dom = 3 → Gives (.resetRelease dom idx) s fun t => t.inReset 3 idx = false ∧ left t)) ∧
    (s.pkg.held = false → (d5.val = 4 → Gives (.pllLockLoss d5) s (Wiped trigPll)) ∧ (d5.val ≠ 4 → Gives (.pllLockLoss d5) s fun t => t.inReset 2 d5.val = true))

/-- R490–R499: cores change hands through a scrub, a way through a clear; key slots are loaded, generated and erased with the code that says why not; a kill takes
what a context has and owes scrubs of its partition's cores, and cuts what stays there too long.
Model choices: log entries 2, 111, 112, 114. -/
def Obligations.PartitionsKeysKill : Prop :=
  ∀ (port : Port) (part way : BitVec 4) (cores : BitVec 64) (v : BitVec 32) (dt : Nat) (kk : KillS) (s : State),
    let p := part.toNat
    let w := way.toNat
    let x := v.toNat
    let slot := bits x 2 6
    let ctx := bits x 0 12
    let old := s.reg R.SEC_PART_CORES_CORES 0 p
    let mine := ∀ n, port = .vf n → (s.vfPart n.toNat).isSome = true ∧ s.ctxPart hubXlt ctx = s.vfPart n.toNat
    let wayIs := fun (t : State) (a b c : Nat) => t.reg R.HUB_WAY_MODE 0 w = a ∧ t.reg R.HUB_WAY_PART 0 w = b ∧ t.reg R.HUB_WAY_PART_VALID 0 w = c
    let ended := fun (code : Nat) (t : State) => t.reg R.SEC_KEY_STATUS_CODE = code ∧ t.reg R.SEC_KEY_STATUS_DONE = 1 ∧ (∀ i, i < 10 → t.reg R.SEC_KEY_DATA_DATA 0 i = 0) ∧ MemSame s t
    let kept := fun (t : State) => t.sec = s.sec ∧ t.reg R.SEC_KEY_SLOT_STATE 0 slot = s.reg R.SEC_KEY_SLOT_STATE 0 slot ∧ t.reg R.SEC_KEY_SLOT_OWNER 0 slot = s.reg R.SEC_KEY_SLOT_OWNER 0 slot
    let holds := fun (st owner gen : Nat) (t : State) => t.reg R.SEC_KEY_SLOT_STATE 0 slot = st ∧ t.reg R.SEC_KEY_SLOT_OWNER 0 slot = owner ∧ t.reg R.SEC_KEY_SLOT_GEN 0 slot = gen
    let key := fun (t : State) => mget 0 t.sec.keys slot
    (Reaches port (secOff (0x200 + 0x10 * p)) s →
      (s.coresBad p cores.toNat = false → Gives (.partitionCoreChange port part cores) s fun t => t.reg R.SEC_PART_CORES_CORES 0 p = cores.toNat ∧ MemSame s t ∧
        ∀ c, c < 64 → (bitOf old c ≠ bitOf cores.toNat c → t.reg R.CORE_STATUS_PART_VALID c = 0 ∧
            mget none t.sec.scrubs c = some ⟨none, if bitOf cores.toNat c then some p else none⟩) ∧
          (bitOf old c = bitOf cores.toNat c → t.reg R.CORE_STATUS_PART_VALID c = s.reg R.CORE_STATUS_PART_VALID c ∧ mget none t.sec.scrubs c = mget none s.sec.scrubs c)) ∧
      (s.coresBad p cores.toNat = true → Gives (.partitionCoreChange port part cores) s fun t => RegsBut [R.LOG_LOST_COUNT] s t ∧ t.sec = s.sec ∧ MemSame s t)) ∧
    (Reaches port (0x90000 + 4 * w) s →
      (s.bit R.HUB_WAY_BUSY 0 w = true → Gives (.wayChange port way v) s fun t => RegsBut [R.LOG_LOST_COUNT] s t ∧ MemSame s t) ∧
      (s.bit R.HUB_WAY_BUSY 0 w = false →
        (wayIs s (bits x 0 1) (bits x 1 4) (bits x 5 1) → Gives (.wayChange port way v) s fun t => t = s) ∧
        (¬ wayIs s (bits x 0 1) (bits x 1 4) (bits x 5 1) → Gives (.wayChange port way v) s fun t => wayIs t (bits x 0 1) (bits x 1 4) (bits x 5 1) ∧
          t.reg R.HUB_WAY_BUSY 0 w = 1 ∧ (∀ a, mget 0 t.hubMem a = if a / 2 ^ 21 = w then 0 else mget 0 s.hubMem a) ∧ t.dram = s.dram ∧ t.spad = s.spad))) ∧
    (Gives (.wayClearDone way) s fun t => t.reg R.HUB_WAY_BUSY 0 w = 0 ∧ t = { s with regs := t.regs }) ∧
    (Reaches port (secOff 4) s →
      (s.bit R.SEC_DBG_STATUS_OPEN = true → ∀ i ∈ [Instr.keyLoad port v, .keyGenerate port v, .keyErase port v], Gives i s fun t => ended 4 t ∧ kept t) ∧
      (s.bit R.SEC_DBG_STATUS_OPEN = false →
        (s.reg R.SEC_KEY_SLOT_STATE 0 slot ≠ 0 → ∀ i ∈ [Instr.keyLoad port v, .keyGenerate port v], Gives i s fun t => ended 3 t ∧ kept t) ∧
        (s.reg R.SEC_KEY_SLOT_STATE 0 slot = 0 →
          (Gives (.keyLoad port v) s fun t => match keyUnwrap (bytesOf 32 Config.provisioningKek) ((List.range 10).flatMap (fun i => bytesOf 4 (s.reg R.SEC_KEY_DATA_DATA 0 i))) with
            | some k => ended 0 t ∧ holds 1 (bits x 8 4) 0 t ∧ key t = ofBytes k
            | none => ended 1 t ∧ kept t) ∧
          (Gives (.keyGenerate port v) s fun t => ended 0 t ∧ holds 1 (bits x 8 4) 1 t ∧ key t < 2 ^ 256)) ∧
        (s.slotInUse slot = true → Gives (.keyErase port v) s fun t => ended 2 t ∧ kept t) ∧
        (s.slotInUse slot = false → Gives (.keyErase port v) s fun t => ended 0 t ∧ holds 0 0 0 t ∧ key t = 0))) ∧
    (Reaches port (secOff 0x400) s →
      (mine → bitOf x 12 = true → s.bit R.SEC_KILL_STATUS_BUSY = false → Gives (.kill port v) s fun t =>
        t.reg R.SEC_KILL_STATUS_BUSY = 1 ∧ t.reg R.SEC_KILL_STATUS_CTX = ctx ∧
        (let cs := s.ownCores (s.ctxPart hubXlt ctx)
         t.sec.kill = some ⟨ctx, s.ctxPart hubXlt ctx, s.t, cs, cs.isEmpty⟩ ∧ ∀ c ∈ cs, ∃ o, mget none t.sec.scrubs c = some o ∧ o.since = none) ∧
        ((∀ n k, s.clause n = some k → k.queue ≠ 32768) → ∀ n k, s.clause n = some k → k.ctx = ctx → t.clause n = none)) ∧
      (mine → bitOf x 12 = true → s.bit R.SEC_KILL_STATUS_BUSY = true → Gives (.kill port v) s fun t =>
        t.sec = s.sec ∧ RegsBut [R.SEC_KILL_CMD_CTX, R.LOG_LOST_COUNT] s t ∧ MemSame s t) ∧
      (mine → bitOf x 12 = false → Gives (.kill port v) s fun t => t.reg R.SEC_KILL_CMD_CTX = ctx ∧ RegsBut [R.SEC_KILL_CMD_CTX] s t ∧ t = { s with regs := t.regs }) ∧
      (¬ mine → Gives (.kill port v) s fun t => t.sec = s.sec ∧ RegsBut [R.LOG_LOST_COUNT] s t ∧ MemSame s t)) ∧
    (∀ n k, s.sec.kill = some kk → kk.since + 3 * s.reg R.SEC_KILL_CFG_WAIT ≤ s.t + dt → s.clause n = some k → k.core ∈ kk.cores →
      k.st = .running ∨ k.st = .chosen ∨ k.st = .loading → (∀ m k, s.clause m = some k → k.queue ≠ 32768) → Gives (.killWaitTimeout dt) s fun t =>
        t.clause n = none ∧ t.reg R.SEC_KILL_STATUS_CUT = 1)

/-- R70, R498, R503–R507: a scrub leaves nothing of a core's contents and then joins the core to its partition; one that does not end escalates; a debug session is asked for by
challenge or password, refused with a code or granted, and closed.
Model choices: log entries 2, 110, 113. -/
def Obligations.ScrubAndDebug : Prop :=
  ∀ (port : Port) (core : BitVec 6) (dt : Nat) (o : ScrubS) (s : State),
    let c := core.toNat
    let u := later dt s
    let owed := fun (t : State) => ∀ k, k < 64 → ∃ o, mget none t.sec.scrubs k = some o ∧ o.since = none
    let refused := fun (code : Nat) (t : State) => t.reg R.SEC_DBG_STATUS_CODE = code ∧ t.reg R.SEC_DBG_STATUS_DONE = 1 ∧
      t.reg R.SEC_DBG_FAILS_TOTAL = min (s.reg R.SEC_DBG_FAILS_TOTAL + 1) 65535 ∧ t.reg R.SEC_DBG_STATUS_OPEN = s.reg R.SEC_DBG_STATUS_OPEN ∧ t.sec.keys = s.sec.keys ∧ MemSame s t
    let granted := fun (scope minutes : Nat) (t : State) => t.reg R.SEC_DBG_STATUS_OPEN = 1 ∧ t.reg R.SEC_DBG_STATUS_GRANTED = scope % 8 ∧ t.reg R.SEC_DBG_STATUS_CODE = 0 ∧
      t.reg R.SEC_DBG_STATUS_DONE = 1 ∧ t.reg R.SEC_DBG_STATUS_MINUTES_LEFT = minutes % 256 ∧ t.sec.sessAt = s.t ∧ MemSame s t ∧
      (2 ≤ scope → owed t ∧ ∀ k, k < 64 → t.reg R.SEC_KEY_SLOT_STATE 0 k = 0 ∧ mget 0 t.sec.keys k = 0)
    let closed := fun (t : State) => t.reg R.SEC_DBG_STATUS_OPEN = 0 ∧ t.reg R.SEC_DBG_STATUS_GRANTED = 0 ∧ t.reg R.SEC_DBG_STATUS_MINUTES_LEFT = 0 ∧ MemSame s t ∧
      (s.invasive = true → owed t)
    let scope := s.reg R.SEC_DBG_CTL_SCOPE
    let chal := s.reg R.SEC_DBG_CHAL_DATA 0 0 / 2 ^ 16
    let pwd := ((List.range 16).flatMap (fun i => bytesOf 4 (s.reg R.SEC_DBG_PWD_DATA 0 i))).take (s.reg R.SEC_DBG_CTL_PWD_LEN)
    let n := s.reg R.SEC_DBG_FAILS_RUN + 1
    (mget none s.sec.scrubs c = some o →
      (o.since = none → s.mayScrub c = true → Gives (.scrubStart core) s fun t => t.reg R.CORE_STATUS_SCRUB c = 1 ∧ mget none t.sec.scrubs c = some ⟨some s.t, o.join⟩ ∧
        (∀ k, mget 0 t.spad k = if k / 8192 = c then 0 else mget 0 s.spad k) ∧
        (∀ k, mget 0 t.acc k = if k / 1024 = c then 0 else mget 0 s.acc k) ∧ (t.core c).tags = [] ∧ (t.core c).g = [] ∧ (t.core c).a = [] ∧ (t.core c).p = [] ∧ (t.core c).pc = 0 ∧
        (∀ f ∈ flagFlds ++ [R.CORE_SR_SEED_SEED, R.CORE_SR_CTR_COUNT, R.CORE_FAULT_CODE_VALID], t.reg f c = f.rst.value c 0) ∧ (∀ x, x ≠ c → t.core x = s.core x) ∧
        t.dram = s.dram ∧ t.hubMem = s.hubMem) ∧
      (o.since.isSome = true → Gives (.scrubDone core) s fun t => mget none t.sec.scrubs c = none ∧ t.reg R.CORE_STATUS_SCRUB c = 0 ∧ MemSame s t ∧
        (∀ p, o.join = some p → t.reg R.CORE_STATUS_PART_VALID c = 1 ∧ t.reg R.CORE_STATUS_PARTITION c = p % 16) ∧
        (o.join = none → t.reg R.CORE_STATUS_PART_VALID c = s.reg R.CORE_STATUS_PART_VALID c) ∧
        (∀ k, s.sec.kill = some k → k.inv = false → let l := k.cores.filter (fun d => decide (d ≠ c))
          t.sec.kill = some { k with cores := l, inv := l.isEmpty } ∧ (l = [] → t.die.invs = s.die.invs ++ [⟨4, 2, k.ctx, 0, 0⟩]))) ∧
      (∀ t0, o.since = some t0 → t0 + 15000 ≤ s.t + dt → s.inReset 1 c = false → Gives (.scrubTimeout core dt) s fun t => t.inReset 1 c = true ∧
        mget none t.sec.scrubs c = some ⟨none, o.join⟩ ∧ t.reg R.HUB_RCV_ESCALATE_COUNT = min (s.reg R.HUB_RCV_ESCALATE_COUNT + 1) (2 ^ 32 - 1))) ∧
    (Reaches port (secOff 0x500) s →
      (scope < 2 ^ 16 → s.reg R.SEC_DBG_CTL_MINUTES < 2 ^ 16 → Gives (.debugChallenge port) s fun t => t.sec.chalAt = some s.t ∧ t.sec.chalCtr = s.sec.chalCtr + 1 ∧
        t.reg R.SEC_DBG_CHAL_DATA 0 0 = (1 + scope * 2 ^ 16) % 2 ^ 32 ∧ t.reg R.SEC_DBG_CHAL_DATA 0 1 = s.reg R.SEC_DBG_CTL_MINUTES * 60 ∧
        t.reg R.SEC_DBG_CHAL_DATA 0 14 = (s.sec.chalCtr + 1) % 2 ^ 32 ∧ MemSame s t) ∧
      (Gives (.debugSubmit port) s fun t => match s.dbgFail with
        | some code => refused code t
        | none => granted chal (s.reg R.SEC_DBG_CHAL_DATA 0 1 / 60) t) ∧
      (s.sec.pwdAt.isSome = true → Gives (.debugPassword port) s fun t => t = s) ∧
      (s.sec.pwdAt = none → Gives (.debugPassword port) s fun t => (∀ i, i < 16 → t.reg R.SEC_DBG_PWD_DATA 0 i = 0) ∧
        (if s.reg R.SEC_STATUS_LIFE = 0 then refused 8 t
         else if s.bit R.SEC_DBG_STATUS_LOCKOUT then refused 7 t
         else if sha256 (bytesOf 16 Config.fusedSalt ++ pwd) ≠ bytesOf 32 Config.fusedPwdHash then
           refused 6 t ∧ t.reg R.SEC_DBG_FAILS_RUN = min 8 n ∧ (8 ≤ n → t.reg R.SEC_DBG_STATUS_LOCKOUT = 1) ∧ t.sec.pwdAt = some s.t
         else t.reg R.SEC_DBG_FAILS_RUN = 0 ∧
           (if bitOf scope 2 then refused 4 t else if 2 ≤ scope ∧ s.tenants = true then refused 5 t else granted scope (s.reg R.SEC_DBG_CTL_MINUTES) t))) ∧
      (s.bit R.SEC_DBG_STATUS_OPEN = true → Gives (.debugEnd port) s closed) ∧
      (s.bit R.SEC_DBG_STATUS_OPEN = false → Gives (.debugEnd port) s fun t => t = s)) ∧
    (s.bit R.SEC_DBG_STATUS_OPEN = true →
      (u.minutesLeft = 0 → Gives (.sessionExpiry dt) s closed) ∧ (u.minutesLeft ≠ 0 → Gives (.sessionExpiry dt) s fun t => t = u)) ∧
    (∀ t0, s.sec.pwdAt = some t0 →
      (t0 + 1500000000 ≤ s.t + dt → Gives (.passwordDelayEnd dt) s fun t => t = { u with sec := { s.sec with pwdAt := none } }) ∧
      (s.t + dt < t0 + 1500000000 → Gives (.passwordDelayEnd dt) s fun t => t = u))

/-- R383–R385, R513–R524: a function's mirror and aperture, its reset and its messages; frames are dropped, forwarded, put in the receive ring or entered as requests; a
transmit buffer leaves with its stamp latched; a host read that migration waits for too long is lost.
Model choices: log entries 2, 116, 117, 118. -/
def Obligations.HostInterface : Prop :=
  ∀ (v : BitVec 4) (off29 : BitVec 29) (off : BitVec 32) (isRead : Bool) (n x dt i : Nat) (kind die : BitVec 2) (fn : Fin 17) (entry : BitVec 11) (port : BitVec 1)
    (bytes : List (BitVec 8)) (fcsOk : Bool) (m : Mig) (s : State),
    let vn := v.toNat
    let s1 := { s with host := { s.host with vfOff := mset true s.host.vfOff vn false } }
    let ctx := s.reg R.HUB_VF_MEM_CTX 0 vn
    let da := (s.reg R.HUB_VF_MEM_BASE_ADDR 0 vn * 2 ^ 16 + off.toNat) % 2 ^ 48
    let key := fn.val * 2048 + entry.toNat
    let p := port.toNat
    let l := bytes.map BitVec.toNat
    let size := 60 ≤ l.length ∧ l.length ≤ 2016
    let ty := frameF l (etherAt l) 2
    let tc := s.bit R.TIME_PTP_CTL_TC 0 p = true ∧ s.bit R.TIME_PTP_CTL_TC 0 (1 - p) = true
    let ptp := s.bit R.HUB_ETH_CTL_PTP 0 p = true ∧ (ptpOf l).isSome = true
    let req := s.bit R.HUB_ETH_CTL_REQ_EN 0 p = true ∧ ty = s.reg R.HUB_ETH_REQ_ETYPE 0 p
    let mgmt := ty ≠ 0 ∧ ty = s.reg R.HUB_ETH_CTL_MGMT_ETYPE 0 p
    let q := s.reg R.HUB_ETH_REQ_QUEUE 0 p
    let tail := s.qf R.QUE_TAIL_TAIL q
    let head := s.reg R.HUB_ETH_RX_PTR_HEAD 0 p
    let th := s.reg R.HUB_ETH_TX_PTR_HEAD 0 p
    let drops := fun (t : State) => t.reg R.HUB_ETH_DROP_COUNT 0 p = min (s.reg R.HUB_ETH_DROP_COUNT 0 p + 1) (2 ^ 32 - 1) ∧ MemSame s t
    let sends := fun (n : Nat) (b : List Nat) (t : State) => ∃ st, Out.eth n b st ∈ t.out.drop s.out.length
    let rx : Instr := .ethFrameReceive port bytes fcsOk
    let tx : Instr := .ethTransmit port x
    let len := bits x 0 16
    (Gives (.vfRegisterAccess v off29 isRead n x) s fun t =>
      if isRead then exec (.rcRegisterRead (.vf v) off29 n) s1 = .next t else exec (.registerWrite (.vf v) off29 n x) s1 = .next t) ∧
    (∀ ev, s.gate (.vf v) off29.toNat isRead = .log ev → Gives (.vfRegisterAccess v off29 isRead 1 x) s fun t => t.host = s1.host ∧ RegsBut [R.LOG_LOST_COUNT] s t ∧ MemSame s t ∧
      (isRead = true → t.bus.data = 0)) ∧
    (s.ready = false ∨ s.bit R.HUB_VF_MEM_EN 0 vn = false → Gives (.vfMemoryAccess v off isRead n x) s fun t =>
      t = if isRead then { s1 with bus := { s.bus with data := 0 } } else s1) ∧
    (s.ready = true → s.bit R.HUB_VF_MEM_EN 0 vn = true →
      (s.apertureFault ctx da n true = none → ∀ y, s.daRead hubXlt ctx da n = .ok y → Gives (.vfMemoryAccess v off true n x) s fun t => t.bus.data = y ∧ t.hubMem = s.hubMem ∧ t.spad = s.spad) ∧
      (s.apertureFault ctx da n false = none →
        (∀ o, s.translate hubXlt ctx da true none = .hub o → Gives (.vfMemoryAccess v off false n x) s fun t => t = { s1 with hubMem := memWrite s.hubMem o n (x % 2 ^ (8 * n)) }) ∧
        (∀ pa a b, s.translate hubXlt ctx da true none = .dram pa a b → (∀ u ∈ unitsOf pa n, mget 0 s.die.errs u = 0) → Gives (.vfMemoryAccess v off false n x) s fun t =>
          t.dramGet pa n = x % 2 ^ (8 * n) ∧ t.hubMem = s.hubMem ∧ t.spad = s.spad)) ∧
      (∀ c, s.apertureFault ctx da n isRead = some c → c = 1 ∨ c = 6 → Gives (.vfMemoryAccess v off isRead n x) s fun t => MemSame s t ∧ (isRead = true → t.bus.data = 0))) ∧
    (Gives (.vfFlr v) s fun t => mget true t.host.vfOff vn = true ∧ t = { s with host := t.host } ∧
      ∀ k, (k / 2048 = vn + 1 → mget false t.host.unmask k = false ∧ mget false t.host.pend k = false) ∧
        (k / 2048 ≠ vn + 1 → mget false t.host.unmask k = mget false s.host.unmask k ∧ mget false t.host.pend k = mget false s.host.pend k)) ∧
    (s.pkg.held = false →
      (kind ≠ 3 → Gives (.pfReset kind) s (Wiped trigPcie)) ∧
      (Gives (.msixUnmask fn entry) s fun t => mget false t.host.unmask key = true ∧ mget false t.host.pend key = false ∧ t = { s with host := t.host, out := t.out } ∧
        t.out = s.out ++ (if mget false s.host.pend key then [.msix fn.val entry.toNat] else []))) ∧
    (s.pkg.held = true ∨ s.bit R.HUB_ETH_CTL_EN 0 p = false → Gives rx s (fun t => t = s) ∧ Gives tx s (fun t => t = s)) ∧
    (s.pkg.held = false → s.bit R.HUB_ETH_CTL_EN 0 p = true →
      (fcsOk = false ∨ ¬ size → Gives rx s fun t => drops t ∧ t.out = s.out) ∧
      (fcsOk = true → size →
        (tc → eventOf l = none → Gives rx s fun t => sends (1 - p) l t ∧ t.regs = s.regs ∧ MemSame s t) ∧
        (¬ tc → ptp ∨ (¬ req ∧ mgmt) →
          (head ≠ s.reg R.HUB_ETH_RX_PTR_TAIL 0 p → Gives rx s fun t => t.reg R.HUB_ETH_RX_PTR_HEAD 0 p = (head + 1) % 256 ∧ MemSame s t ∧
            ∃ y, Out.hostWrite ((s.reg R.HUB_ETH_RX_BASE_ADDR 0 p + head) * 2 ^ 11) (32 + l.length) y ∈ t.out.drop s.out.length ∧ y % 2 ^ 16 = l.length ∧ y / 2 ^ 256 = ofBytes l) ∧
          (head = s.reg R.HUB_ETH_RX_PTR_TAIL 0 p → Gives rx s drops)) ∧
        (¬ tc → ¬ ptp → req →
          (s.entryOk q 2 = true → s.doorbellOk q ((tail + 1) % 2 ^ 32) = true → Gives rx s fun t => t.qf R.QUE_TAIL_TAIL q = (tail + 1) % 2 ^ 32 ∧ t.spad = s.spad) ∧
          (s.entryOk q 2 = false → Gives rx s drops)) ∧
        (¬ tc → ¬ ptp → ¬ req → ¬ mgmt → Gives rx s drops)) ∧
      (th = s.reg R.HUB_ETH_TX_PTR_TAIL 0 p → Gives tx s fun t => t = s) ∧
      (th ≠ s.reg R.HUB_ETH_TX_PTR_TAIL 0 p →
        (len < 60 ∨ 2016 < len → Gives tx s fun t => drops t ∧ t.reg R.HUB_ETH_TX_PTR_HEAD 0 p = (th + 1) % 256 ∧ t.out = s.out) ∧
        (60 ≤ len → len ≤ 2016 → s.bit R.TIME_PTP_CTL_EN 0 p = false ∨ s.bit R.TIME_PTP_CTL_ONESTEP 0 p = false → Gives tx s fun t =>
          sends p (bytesOf len (x / 2 ^ 256)) t ∧ t.reg R.HUB_ETH_TX_PTR_HEAD 0 p = (th + 1) % 256 ∧ MemSame s t ∧
          (∀ e, bitOf x 17 = true → eventOf (bytesOf len (x / 2 ^ 256)) = some e → t.reg R.TIME_PTP_TXSEQ_VALID 0 p = 1 ∧ t.reg R.TIME_PTP_TXSEQ_MSGTYPE 0 p = e.2.2.2 % 16)))) ∧
    (s.mig die.toNat i = some m → s.isNvme die.toNat m = false → s.die.migQ = [] → s.fab.held = [] → s.die.xfers = [] → m.since + 75000000 ≤ s.t + dt →
      Gives (.pcieCompletionTimeout die i dt) s fun t => t.mig die.toNat i = none ∧
        t.reg R.XLT_MIG_FAIL_COUNT die.toNat = min (s.reg R.XLT_MIG_FAIL_COUNT die.toNat + 1) (2 ^ 32 - 1))

/-- R528–R532: indirect sideband accesses, the management UART and the I²C/I³C controllers.
Model choices: log entries 2, 119. -/
def Obligations.ManagementPorts : Prop :=
  ∀ (port : Port) (startHigh stopHigh nack hasByte : Bool) (b : BitVec 8) (samples dt w : Nat) (m : BitVec 1) (v : BitVec 32) (rx : List (BitVec 8)) (devs : List (BitVec 64))
    (addr : BitVec 7) (g : RegAt) (s : State),
    let i := m.toNat
    let k := s.i2c i
    let ua := s.host.uart
    let off := s.reg R.SBP_IND_ADDR_OFFSET * 4
    let busy := fun (op : Nat) => { s with host := { s.host with ind := op } }
    let en := s.bit R.HUB_UART_CFG_EN = true
    let one := fun (f : Fld) (t : State) => t.reg f = min (s.reg f + 1) 1023 ∧ t.host.uart.rx = ua.rx ∧ MemSame s t
    let ended := fun (t : State) => (t.i2c i).cmd = none ∧ t.reg R.HUB_I2C_STATUS_BUSY 0 i = 0 ∧ t.reg R.HUB_I2C_STATUS_DONE 0 i = 1 ∧ MemSame s t
    let daa := bits w 17 2 = 2 ∧ bits w 19 8 = 7
    let cmds := [(Instr.i2cCmd port m v, 0), (.i3cPrivateCmd port m v, 1), (.i3cCccCmd port m v, 2)]
    (Reaches port (sbpOff 0xC) s →
      (s.host.ind ≠ 0 → ∀ c ∈ [Instr.sbpIndRead port, .sbpIndWrite port], Gives c s fun t => t.host = s.host ∧ RegsBut [R.LOG_LOST_COUNT] s t ∧ MemSame s t) ∧
      (s.host.ind = 0 →
        (s.gate .sbp off true ≠ .open → Gives (.sbpIndRead port) s fun t => t.host.ind = 1 ∧ t.reg R.SBP_IND_DATA_DATA = 0 ∧ t.bus.data = s.bus.data ∧ MemSame s t) ∧
        (s.gate .sbp off true = .open → s.apAt off = none → regAt off = some g → g.w = 0 → Gives (.sbpIndRead port) s fun t =>
          t.host.ind = 1 ∧ t.reg R.SBP_IND_DATA_DATA = bits ((busy 1).regRead .sbp g) 0 32 ∧ t.bus.data = s.bus.data) ∧
        (∀ a, s.gate .sbp off false = .open → s.apAt off = some (.hub a) → Gives (.sbpIndWrite port) s fun t =>
          t = { busy 2 with hubMem := memWrite s.hubMem a 4 (s.reg R.SBP_IND_DATA_DATA) }))) ∧
    (s.host.ind ≠ 0 → Gives .sbpIndDone s fun t => t.host = { s.host with ind := 0 } ∧ t.reg R.SBP_IND_STATUS_DONE = 1 ∧ MemSame s t) ∧
    (s.pkg.held = false → en → ua.wait = false →
      (startHigh = true → Gives (.uartRxFrame startHigh b stopHigh) s (one R.HUB_UART_ERRS_NOISE)) ∧
      (startHigh = false → stopHigh = false → Gives (.uartRxFrame startHigh b stopHigh) s fun t => one R.HUB_UART_ERRS_FRAMING t ∧ t.host.uart.wait = true) ∧
      (startHigh = false → stopHigh = true → 64 ≤ ua.rx.length → Gives (.uartRxFrame startHigh b stopHigh) s (one R.HUB_UART_ERRS_OVERRUN)) ∧
      (startHigh = false → stopHigh = true → ua.rx.length < 64 → Gives (.uartRxFrame startHigh b stopHigh) s fun t => t.host.uart.rx = ua.rx ++ [b.toNat] ∧
        t.reg R.HUB_UART_STATUS_RX_LEVEL = ua.rx.length + 1 ∧ MemSame s t)) ∧
    (s.pkg.held = true ∨ ¬ en ∨ ua.wait = true → Gives (.uartRxFrame startHigh b stopHigh) s fun t => t = s) ∧
    (32 ≤ samples → Gives (.uartRxRearm samples) s fun t => t = { s with host := { s.host with uart := { ua with wait := false } } }) ∧
    (Reaches port 0xA0008 s →
      (en → ua.sending = none → ua.tx = [] → Gives (.uartDataWrite port b) s fun t => t.host.uart = { ua with sending := some b.toNat } ∧ t.out = s.out ++ [.uart b.toNat] ∧
        t.reg R.HUB_UART_STATUS_TX_BUSY = 1) ∧
      (∀ y, ua.sending = some y → ua.tx.length < 64 → Gives (.uartDataWrite port b) s fun t => t.host.uart = { ua with tx := ua.tx ++ [b.toNat] } ∧
        t.reg R.HUB_UART_STATUS_TX_LEVEL = ua.tx.length + 1 ∧ t.out = s.out) ∧
      (∀ y, ua.sending = some y → 64 ≤ ua.tx.length → Gives (.uartDataWrite port b) s fun t => t.host = s.host ∧ t.out = s.out)) ∧
    (s.gate port 0xA0008 true = .open → Gives (.uartDataRead port) s fun t => t.bus.data = fifoHead ua.rx ∧ t.host.uart = { ua with rx := ua.rx.drop 1 } ∧
      t.reg R.HUB_UART_STATUS_RX_LEVEL = (ua.rx.length - 1) % 128) ∧
    ((∀ y r, en → ua.tx = y :: r → Gives .uartTxFrameEnd s fun t => t.host.uart = { ua with tx := r, sending := some y } ∧ t.out = s.out ++ [.uart y]) ∧
      (ua.tx = [] → Gives .uartTxFrameEnd s fun t => t.host.uart = { ua with sending := none } ∧ t.reg R.HUB_UART_STATUS_TX_BUSY = 0 ∧ t.out = s.out)) ∧
    (Reaches port (i2cOff i 4) s → ∀ c ∈ cmds,
      let cw := setBits v.toNat 17 2 c.2
      (k.cmd.isSome = true ∨ bits v.toNat 8 8 = 0 → Gives c.1 s fun t => t.host = s.host ∧ RegsBut [R.LOG_LOST_COUNT] s t ∧ MemSame s t) ∧
      (k.cmd = none → bits v.toNat 8 8 ≠ 0 → s.bit R.HUB_I2C_CFG_EN 0 i = false → Gives c.1 s fun t => t = s) ∧
      (k.cmd = none → bits v.toNat 8 8 ≠ 0 → s.bit R.HUB_I2C_CFG_EN 0 i = true → Gives c.1 s fun t => t.reg R.HUB_I2C_STATUS_BUSY 0 i = 1 ∧ (t.i2c i).cmd = some (cw % 2 ^ 27) ∧
        Out.i2c i c.2 (bits v.toNat 0 7) (if c.2 = 2 then [bits v.toNat 19 8] else []) ∈ t.out.drop s.out.length ∧ MemSame s t ∧
        (bitOf v.toNat 7 = false → ¬ (c.2 = 2 ∧ bits v.toNat 19 8 = 7) → (t.i2c i).left = bits v.toNat 8 8 - min (bits v.toNat 8 8) k.tx.length ∧ (t.i2c i).tx = k.tx.drop (bits v.toNat 8 8)))) ∧
    (k.cmd = some w →
      (nack = true → Gives (.i2cTransferDone m nack rx devs) s fun t => ended t ∧ t.reg R.HUB_I2C_STATUS_NACK 0 i = 1 ∧ (t.i2c i).tx = []) ∧
      (nack = false → daa → Gives (.i2cTransferDone m nack rx devs) s fun t => ended t ∧
        (t.i2c i).rx = k.rx ++ (devs.take k.tx.length).flatMap (fun d => bytesOf 8 d.toNat) ∧ (t.i2c i).tx = k.tx.drop devs.length) ∧
      (nack = false → ¬ daa → bitOf w 7 = true → Gives (.i2cTransferDone m nack rx devs) s fun t => ended t ∧
        (t.i2c i).rx = k.rx ++ (rx.take (bits w 8 8)).map BitVec.toNat ∧ (t.i2c i).tx = k.tx) ∧
      (nack = false → ¬ daa → bitOf w 7 = false → k.left = 0 → Gives (.i2cTransferDone m nack rx devs) s fun t => ended t ∧ (t.i2c i).rx = k.rx ∧ (t.i2c i).tx = k.tx)) ∧
    (s.gate port (i2cOff i 8) true = .open → Gives (.i2cDataRead port m) s fun t => t.bus.data = fifoHead k.rx ∧ (t.i2c i).rx = k.rx.drop 1 ∧
      t.reg R.HUB_I2C_STATUS_RX_LEVEL 0 i = min 64 (k.rx.length - 1)) ∧
    (s.bit R.HUB_I2C_CFG_EN 0 i = true →
      (s.reg R.HUB_I2C_CFG_SPEED 0 i = 3 → Gives (.ibi m addr b hasByte) s fun t => t.reg R.HUB_I2C_STATUS_IBI 0 i = 1 ∧ t.reg R.HUB_I2C_STATUS_IBI_ADDR 0 i = addr.toNat ∧
        (t.i2c i).rx = k.rx ++ (if hasByte then [b.toNat] else []) ∧ MemSame s t) ∧
      (s.reg R.HUB_I2C_CFG_STUCK_MS 0 i * 1500000 ≤ dt → Gives (.stuckBus m dt) s fun t => t.reg R.HUB_I2C_STATUS_STUCK 0 i = 1 ∧ MemSame s t))

/-- R501, R502, R533–R537: the boot's stages end in the next one or in failure with its code, images are verified and measured, the release frees the dies; training
operations start and end, and COMMIT makes a die ready.
Model choices: log entries 2, 121, 122. -/
def Obligations.BootAndTraining : Prop :=
  ∀ (port : Port) (die : BitVec 2) (v : BitVec 32) (bytes : List (BitVec 8)) (version : Nat) (pkx pky r sg : BitVec 256) (ok : Bool) (bad : BitVec 64)
    (density : List Nat) (errs : List (Nat × Nat)) (s : State),
    let d := die.toNat
    let x := v.toNat
    let st := s.reg R.HUB_BOOT_STAGE
    let image := BootIn.image bytes version pkx pky r sg
    let l := bytes.map BitVec.toNat
    let at_ := fun (n : Nat) (t : State) => t.reg R.HUB_BOOT_STAGE = n
    let failed := fun (err : Nat) (t : State) => at_ 15 t ∧ t.reg R.HUB_BOOT_ERR = err ∧ t.pkg = s.pkg ∧ MemSame s t
    let measured := fun (t : State) => t.reg R.SEC_STATUS_BOOT = 1 ∧ ∀ i, i < 8 →
      t.reg R.SEC_MEASURE_BYTES 0 i = ofBytes (((sha256 ((List.range 8).flatMap (fun j => bytesOf 4 (s.reg R.SEC_MEASURE_BYTES 0 j)) ++ sha256 l)).drop (4 * i)).take 4)
    let loads := fun (next : Nat) => Gives (.bootStageEnd image) s fun t => match s.imageFail l version pkx.toNat pky.toNat r.toNat sg.toNat with
      | some c => failed 1 t ∧ t.reg R.SEC_STATUS_BOOT = c
      | none => measured t ∧ at_ next t ∧ MemSame s t
    let rates := (List.range 4).map (fun d => mget 0 s.host.rates d)
    let fit := s.reg R.DMC_STATUS_FIT 0
    let frees := fun (bad : Nat) (t : State) => at_ 6 t ∧ t.reg R.PWR_SAG_STATUS_LOADED = 1 ∧
      ∀ d, d < 4 → (bits bad (16 * d) 16 = 0 → t.inReset 2 d = false ∧ bitOf (t.reg R.HUB_BOOT_DIE_OK) d = true ∧
          ∀ c, c < 16 → t.cyc (16 * d + c) = 0 ∧ (t.core (16 * d + c)).tags = [] ∧ ∀ k, k / 8192 = 16 * d + c → mget 0 t.spad k = 0) ∧
        (bits bad (16 * d) 16 ≠ 0 → t.inReset 2 d = s.inReset 2 d ∧ bitOf (t.reg R.HUB_BOOT_DIE_OK) d = false)
    let ops := [(Instr.trainZq port die v, 1), (.trainCa port die v, 2), (.trainWck2ck port die v, 3), (.trainReadDq port die v, 4), (.trainWriteRead port die v, 5), (.trainSetRate port die v, 6)]
    let newRate := if R.DMC_TRAIN_CTL_RATE.enc.ok (bits x 20 2) then bits x 20 2 else s.reg R.DMC_TRAIN_CTL_RATE d
    let fields := fun (t : State) => t.reg R.DMC_TRAIN_CTL_CHMASK d = bits x 0 16 ∧ t.reg R.DMC_TRAIN_CTL_RATE d = newRate
    let clash := (List.range 4).any (fun e => decide (mget 0 s.host.rates e ≠ 0) && decide (mget 0 s.host.rates e ≠ newRate))
    let full := bits x 0 16 = 0xFFFF ∧ (∀ c, c < 16 → density.getD c 0 = density.getD 0 0) ∧ (density.getD 0 0 = 1 ∨ density.getD 0 0 = 2)
    (s.pkg.held = false →
      (st = 1 → Gives (.bootStageEnd (.plain true)) s fun t => at_ 2 t ∧ RegsBut [R.HUB_BOOT_STAGE] s t ∧ t = { s with regs := t.regs }) ∧
      (st = 2 → loads 3 ∧ Gives (.bootStageEnd (.plain false)) s fun t => failed 1 t ∧ t.reg R.SEC_STATUS_BOOT = 5) ∧
      (st = 3 → s.linksTried = true → Gives (.bootStageEnd (.plain ok)) s fun t => at_ 4 t ∧ MemSame s t ∧
        t.reg R.HUB_BOOT_ERR = if (List.range 8).all (fun l => decide (s.linkSt l = 1)) then s.reg R.HUB_BOOT_ERR else 2) ∧
      (st = 4 → loads 4 ∧ Gives (.bootStageEnd (.plain false)) s (failed 3) ∧ (rates.all (fun r => decide (r ≠ 0)) = true →
        ((∀ d, d < 4 → s.reg R.DMC_STATUS_FIT d = fit) → fit ≠ 0 → Gives (.bootStageEnd (.plain true)) s fun t => at_ 5 t ∧ t.reg R.HUB_BOOT_RATE = rates.headD 0 % 4 ∧ MemSame s t) ∧
        (∀ d, d < 4 → s.reg R.DMC_STATUS_FIT d ≠ fit ∨ fit = 0 → Gives (.bootStageEnd (.plain true)) s (failed 4)))) ∧
      (st = 5 → loads 5 ∧ (Gives (.bootStageEnd (.plain ok)) s fun t => frees 0 t ∧ ((∀ e ∈ s.pkg.rst, e.1 / 64 = 2) → t.reg R.HUB_RESET_STATUS_BUSY = 0)) ∧
        Gives (.bootStageEnd (.release bad)) s fun t => frees bad.toNat t ∧ (bad ≠ 0 → t.reg R.HUB_BOOT_ERR = 5))) ∧
    (Reaches port (trainOff d 0) s →
      (∀ o ∈ ops,
        (s.bit R.DMC_STATUS_READY d = false → s.bit R.DMC_TRAIN_STATUS_BUSY d = false → Gives o.1 s fun t => fields t ∧ t.reg R.DMC_TRAIN_CTL_OP d = o.2 ∧ t.reg R.DMC_TRAIN_STATUS_BUSY d = 1 ∧
          (o.2 = 6 → mget 0 t.host.phy d = newRate) ∧ (o.2 ≠ 6 → t.host = s.host) ∧ MemSame s t) ∧
        (s.bit R.DMC_STATUS_READY d = true ∨ s.bit R.DMC_TRAIN_STATUS_BUSY d = true → Gives o.1 s fun t => fields t ∧ t.reg R.DMC_TRAIN_CTL_OP d = o.2 ∧
          t.reg R.DMC_TRAIN_STATUS_BUSY d = s.reg R.DMC_TRAIN_STATUS_BUSY d ∧ t.host = s.host ∧ MemSame s t)) ∧
      (clash = true → Gives (.trainCommit port die v density) s fun t => fields t ∧ t.host = s.host ∧ t.reg R.DMC_STATUS_READY d = s.reg R.DMC_STATUS_READY d) ∧
      (clash = false → Gives (.trainCommit port die v density) s fun t => fields t ∧ mget 0 t.host.rates d = newRate ∧
        (∀ c ∈ maskBits (bits x 0 16), t.reg R.DMC_CH_STATUS_PRESENT d c = 1) ∧
        (full → t.reg R.DMC_STATUS_READY d = 1 ∧ t.reg R.DMC_STATUS_FIT d = density.getD 0 0) ∧ (¬ full → t.reg R.DMC_STATUS_READY d = s.reg R.DMC_STATUS_READY d) ∧ MemSame s t)) ∧
    (Reaches port (trainOff d 8) s → bits x 4 5 ≤ 17 → bits x 9 2 ≤ 2 → bits x 9 2 ≠ 2 ∨ bits x 11 8 ≤ 127 → Gives (.trainApply port die v) s fun t =>
      t.reg R.DMC_TRAIN_SET_CHANNEL d = bits x 0 4 ∧ t.reg R.DMC_TRAIN_SET_LANE d = bits x 4 5 ∧ t.reg R.DMC_TRAIN_SET_KIND d = bits x 9 2 ∧ t.reg R.DMC_TRAIN_SET_VALUE d = bits x 11 8 ∧
      mget 0 t.host.taps (((d * 16 + bits x 0 4) * 32 + bits x 4 5) * 4 + bits x 9 2) = bits x 11 8 + 1 ∧ MemSame s t) ∧
    (s.bit R.DMC_TRAIN_STATUS_BUSY d = true → Gives (.trainOpDone die errs) s fun t => t.reg R.DMC_TRAIN_STATUS_BUSY d = 0 ∧ t.reg R.DMC_TRAIN_STATUS_DONE d = 1 ∧ MemSame s t ∧
      ∀ c ∈ maskBits (s.reg R.DMC_TRAIN_CTL_CHMASK d), let e := errs.getD c (0, 0)
        t.reg R.DMC_TRAIN_ERR_BITS d c = e.1 % 65536 ∧ t.reg R.DMC_TRAIN_ERR_COUNT d c = min 65535 e.2 ∧
        (e.1 % 65536 ≠ 0 ∨ e.2 ≠ 0 → t.reg R.DMC_TRAIN_STATUS_FAIL d = 1))

/-- R7–R13: a register's fields take, keep, clear or ignore what is written by their access types; words of a wide register are staged and act with the highest; a read returns the register, clears what a read
clears and latches the other words; an address where nothing is reads 0, ignores a write and is logged.
Model choices: log entries 12, 124, 125. -/
def Obligations.BusAccess : Prop :=
  ∀ (port : Port) (off : BitVec 29) (v : BitVec 32) (x : Nat) (isRead : Bool) (g : RegAt) (q : Place) (s : State),
    let o := off.toNat
    let entry : LogEnt := ⟨s.count 4, 4, srcHub, 0x102, o + (if isRead then 0 else v.toNat) * 2 ^ 32 + portCode port * 2 ^ 64 + b2n isRead * 2 ^ 72⟩
    let f := q.f
    let new := fun (w : Nat) => bits w q.lo f.w
    let fld := fun (t : State) => t.reg f g.i (q.idx g.x)
    let alone := q ∈ g.r.places ∧ (∀ e ∈ g.r.places, e ≠ q → e.f.key g.i (e.idx g.x) ≠ f.key g.i (q.idx g.x)) ∧ (∀ e ∈ g.r.places, (lateOf e.f).isNone = true) ∧
      (∀ e ∈ g.r.places, storeAt e.f g.i = [g.i]) ∧ f.id ≠ R.FAB_DIGEST_CTL_DIRTY.id ∧ f.id ≠ R.LOG_LOST_COUNT.id
    let wf := fun (w : Nat) (e : Fld) => match g.r.places.find? (fun q => decide (q.f.id = e.id)) with | some q => bits w q.lo q.f.w | none => 0
    let takes := fun (w : Nat) (t : State) =>
      (f.acc = .rw → s.fieldBad f g.i (q.idx g.x) (new w) (wf w) = false → fld t = new w) ∧ (f.acc = .rw → s.fieldBad f g.i (q.idx g.x) (new w) (wf w) = true → fld t = fld s) ∧
      (f.acc = .w1c → fld t = (fld s &&& (2 ^ f.w - 1 - new w)) % 2 ^ f.w) ∧ (f.acc = .ro ∨ f.acc = .rc → fld t = fld s) ∧ MemSame s t
    (Reaches port o s → s.apAt o = none → regAt o = some g → (∀ w, cmdOf indCmd port g w = none) →
      (g.r.words = 1 → g.w = 0 → q.lo < 32 → 0 < f.w → alone → Gives (.registerWrite port off 1 x) s (takes (bits x 0 32))) ∧
      (g.r.words = 1 → g.w = 0 → q.lo < 32 → 0 < f.w → alone → Gives (.stagedWordWrite port off v) s (takes v.toNat)) ∧
      (g.w + 1 < g.r.words → Gives (.stagedWordWrite port off v) s fun t =>
        t = { s with bus := { s.bus with stage := mset none s.bus.stage (wordKey port o) (some v.toNat) } }) ∧
      (∀ lo, g.r.words = 2 → g.w = 1 → mget none s.bus.stage (wordKey port g.base) = some lo → lo < 2 ^ 32 → keyOff (wordKey port g.base) = g.base → q.lo < 64 → 0 < f.w → alone →
        Gives (.stagedWordWrite port off v) s fun t => takes (lo + v.toNat * 2 ^ 32) t ∧ mget none t.bus.stage (wordKey port g.base) = none)) ∧
    (s.gate port o true = .open → s.apAt o = none → regAt o = some g →
      (g.w = 0 → Gives (.rcRegisterRead port off 1) s (fun t => t.bus.data = bits (s.regRead port g) 0 32 ∧ MemSame s t ∧
        (readTakes g = .nop → q ∈ g.r.places → f.acc = .rc → q.lo < 32 * g.r.words → s.shaded port g f (q.idx g.x) = false → fld t = 0) ∧
        (readTakes g = .nop → (∀ e ∈ g.r.places, e.f.acc ≠ .rc) → t.regs = s.regs)) ∧
        Gives (.wideRegisterLowRead port off) s (fun t => t.bus.data = bits (s.regRead port g) 0 32 ∧
          ∀ w, 0 < w → w < g.r.words → mget none t.bus.latch (wordKey port (g.base + 4 * w)) = some (bits (s.regRead port g) (32 * w) 32))) ∧
      (∀ y, g.w ≠ 0 → mget none s.bus.latch (wordKey port (g.base + 4 * g.w)) = some y → Gives (.wideRegisterLowRead port off) s fun t =>
        t = { s with bus := { s.bus with data := y } })) ∧
    (s.gate port o isRead = .open → (s.apAt o = none ∧ regAt o = none) ∨ s.apAt o = some .gap → Gives (.unoccupiedAddressAccess port off isRead v) s fun t =>
      (isRead = true → t.bus.data = 0) ∧ RegsBut [R.LOG_LOST_COUNT] s t ∧ MemSame s t ∧ (s.log.fifo.length < 64 → t.log.fifo = s.log.fifo ++ [entry]))

/-- A step takes the command at the front of the queue and carries it out with the rest of the queue, which no command touches; with an empty queue one period passes.
Model choices: log entry 1. -/
def Obligations.StepRunsFrontCommand : Prop :=
  ∀ (c : Instr) (rest : List Instr) (s : State), (s.pending = c :: rest → step s = exec c { s with pending := rest }) ∧
    (s.pending = [] → step s = .next { s with t := s.t + 1 }) ∧ (∀ t, exec c s = .next t → t.pending = s.pending)

/-- Every step keeps the canonical form of the memories and of the lists, and the 64 places of the trouble log's input (R393).
Model choices: log entries 7, 8. -/
def Obligations.StepKeepsWf : Prop := ∀ s t : State, s.wf = true → step s = .next t → t.wf = true

/-- R7, R70, R376, R478, R533, R542: after power-up of the always-on supply every register field reads its reset value, the package is held in reset, no core runs a clause, no counter runs, nothing is pending, and the
invariant holds.
Model choices: log entries 6, 7. -/
def Obligations.ResetState : Prop :=
  (∀ (f : Fld) (i j : Nat), State.reset.reg f i j = f.rst.value i j) ∧ State.reset.pending = [] ∧ State.reset.pkg.held = true ∧ State.reset.ready = false ∧
    (∀ d, State.reset.ticking d = false) ∧ (∀ c, State.reset.core c = CoreS.reset) ∧ State.reset.wf = true
end

