-- ==== Sys2Proof/Laws/Maps.lean ====
section
/-! SUPPORT. The laws of sparse maps and of byte strings in memory: a read after a write gives the value written, every
other place reads as before, and every operation keeps the canonical form. -/

namespace Sys2Proof.Machine

variable {α : Type}

/-! ### Read after write -/

@[simp] theorem mget_nil (d : α) (q : Nat) : mget d [] q = d := rfl

@[simp] theorem mget_mdel_self (d : α) (m : SMap α) (k : Nat) : mget d (mdel m k) k = d := by
  induction m with
  | nil => rfl
  | cons e r ih =>
    obtain ⟨k', v⟩ := e
    by_cases h : k = k'
    · simp [mdel, h]; rw [← h]; exact ih
    · simp [mdel, mget, h, ih]

theorem mget_mdel_ne (d : α) (m : SMap α) {k q : Nat} (h : q ≠ k) : mget d (mdel m k) q = mget d m q := by
  induction m with
  | nil => rfl
  | cons e r ih =>
    obtain ⟨k', v⟩ := e
    by_cases h1 : k = k'
    · subst h1; simp [mdel, mget, h, ih]
    · by_cases h2 : q = k'
      · simp [mdel, mget, h1, h2]
      · simp [mdel, mget, h1, h2, ih]

@[simp] theorem mget_mins_self (d : α) (m : SMap α) (k : Nat) (v : α) : mget d (mins m k v) k = v := by
  induction m with
  | nil => simp [mins, mget]
  | cons e r ih =>
    obtain ⟨k', w⟩ := e
    rcases Nat.lt_trichotomy k k' with h | h | h
    · simp [mins, mget, h]
    · simp [mins, mget, h]
    · have h1 : ¬ k < k' := by omega
      have h2 : k ≠ k' := by omega
      simp [mins, mget, h1, h2, ih]

theorem mget_mins_ne (d : α) (m : SMap α) {k q : Nat} (v : α) (h : q ≠ k) : mget d (mins m k v) q = mget d m q := by
  induction m with
  | nil => simp [mins, mget, h]
  | cons e r ih =>
    obtain ⟨k', w⟩ := e
    rcases Nat.lt_trichotomy k k' with h1 | h1 | h1
    · simp [mins, mget, h1, h]
    · subst h1; simp [mins, mget, h]
    · have h2 : ¬ k < k' := by omega
      have h3 : k ≠ k' := by omega
      by_cases h4 : q = k'
      · subst h4; simp [mins, mget, h2, h3]
      · simp [mins, mget, h2, h3, h4, ih]

@[simp] theorem mget_mset_self [DecidableEq α] (d : α) (m : SMap α) (k : Nat) (v : α) : mget d (mset d m k v) k = v := by
  unfold mset; split
  · next h => simp [h]
  · simp

theorem mget_mset_ne [DecidableEq α] {d : α} (d' : α) (m : SMap α) {k q : Nat} (v : α) (h : q ≠ k) :
    mget d' (mset d m k v) q = mget d' m q := by
  unfold mset; split
  · exact mget_mdel_ne d' m h
  · exact mget_mins_ne d' m v h

theorem mget_mset [DecidableEq α] (d : α) (m : SMap α) (k q : Nat) (v : α) :
    mget d (mset d m k v) q = if q = k then v else mget d m q := by
  split
  · next h => rw [h, mget_mset_self]
  · next h => exact mget_mset_ne d m v h

@[simp] theorem mget_mupd_self [DecidableEq α] (d : α) (m : SMap α) (k : Nat) (f : α → α) :
    mget d (mupd d m k f) k = f (mget d m k) := mget_mset_self ..

theorem mget_mupd_ne [DecidableEq α] (d : α) (m : SMap α) {k q : Nat} (f : α → α) (h : q ≠ k) :
    mget d (mupd d m k f) q = mget d m q := mget_mset_ne _ _ _ h

theorem mget_mupd [DecidableEq α] (d : α) (m : SMap α) (k q : Nat) (f : α → α) :
    mget d (mupd d m k f) q = if q = k then f (mget d m k) else mget d m q := mget_mset ..

/-! ### The canonical form: keys strictly rising -/

/-- Every key of a map is above a bound. -/
def Above (b : Nat) (m : SMap α) : Prop := ∀ e ∈ m, b < e.1

theorem mrising_cons {k : Nat} {v : α} {r : SMap α} : mrising ((k, v) :: r) = true ↔ Above k r ∧ mrising r = true := by
  induction r generalizing k v with
  | nil => simp [mrising, Above]
  | cons e r ih =>
    obtain ⟨k', v'⟩ := e
    simp only [mrising, Bool.and_eq_true, decide_eq_true_eq]
    constructor
    · rintro ⟨h1, h2⟩
      refine ⟨?_, h2⟩
      intro e he
      rcases List.mem_cons.1 he with rfl | he
      · exact h1
      · exact Nat.lt_trans h1 ((ih.1 h2).1 e he)
    · rintro ⟨h1, h2⟩
      exact ⟨h1 _ (List.mem_cons_self ..), h2⟩

theorem above_mdel {b : Nat} {m : SMap α} (k : Nat) (h : Above b m) : Above b (mdel m k) := by
  induction m with
  | nil => exact h
  | cons e r ih =>
    obtain ⟨k', v⟩ := e
    have hr : Above b r := fun e he => h e (List.mem_cons_of_mem _ he)
    unfold mdel; split
    · exact ih hr
    · intro e he
      rcases List.mem_cons.1 he with rfl | he
      · exact h _ (List.mem_cons_self ..)
      · exact ih hr e he

theorem above_mins {b : Nat} {m : SMap α} {k : Nat} (v : α) (hk : b < k) (h : Above b m) : Above b (mins m k v) := by
  induction m with
  | nil => intro e he; simp [mins] at he; subst he; exact hk
  | cons e r ih =>
    obtain ⟨k', w⟩ := e
    have hr : Above b r := fun e he => h e (List.mem_cons_of_mem _ he)
    unfold mins; split
    · intro e he
      rcases List.mem_cons.1 he with rfl | he
      · exact hk
      · exact h e he
    · split
      · intro e he
        rcases List.mem_cons.1 he with rfl | he
        · exact hk
        · exact hr e he
      · intro e he
        rcases List.mem_cons.1 he with rfl | he
        · exact h _ (List.mem_cons_self ..)
        · exact ih hr e he

theorem mrising_mdel {m : SMap α} (k : Nat) (h : mrising m = true) : mrising (mdel m k) = true := by
  induction m with
  | nil => rfl
  | cons e r ih =>
    obtain ⟨k', v⟩ := e
    have h' := mrising_cons.1 h
    unfold mdel; split
    · exact ih h'.2
    · exact mrising_cons.2 ⟨above_mdel k h'.1, ih h'.2⟩

theorem mrising_mins {m : SMap α} (k : Nat) (v : α) (h : mrising m = true) : mrising (mins m k v) = true := by
  induction m with
  | nil => rfl
  | cons e r ih =>
    obtain ⟨k', w⟩ := e
    have h' := mrising_cons.1 h
    unfold mins; split
    · next hk =>
      refine mrising_cons.2 ⟨?_, h⟩
      intro e he
      rcases List.mem_cons.1 he with rfl | he
      · exact hk
      · exact Nat.lt_trans hk (h'.1 e he)
    · split
      · next hk => subst hk; exact mrising_cons.2 h'
      · next h1 h2 => exact mrising_cons.2 ⟨above_mins v (by omega) h'.1, ih h'.2⟩

theorem mrising_mset [DecidableEq α] (d : α) {m : SMap α} (k : Nat) (v : α) (h : mrising m = true) :
    mrising (mset d m k v) = true := by
  unfold mset; split
  · exact mrising_mdel k h
  · exact mrising_mins k v h

theorem mrising_mupd [DecidableEq α] (d : α) {m : SMap α} (k : Nat) (f : α → α) (h : mrising m = true) :
    mrising (mupd d m k f) = true := mrising_mset d k _ h

theorem mrising_mkeep {m : SMap α} (p : Nat → Bool) (h : mrising m = true) : mrising (mkeep p m) = true := by
  induction m with
  | nil => rfl
  | cons e r ih =>
    obtain ⟨k, v⟩ := e
    have h' := mrising_cons.1 h
    have ih' := ih h'.2
    unfold mkeep at ih' ⊢
    rw [List.filter_cons]; split
    · exact mrising_cons.2 ⟨fun e he => h'.1 e (List.mem_filter.1 he).1, ih'⟩
    · exact ih'

/-! ### The canonical form: no entry equal to the default -/

theorem mem_mdel {m : SMap α} {k : Nat} {e : Nat × α} (h : e ∈ mdel m k) : e ∈ m := by
  induction m with
  | nil => exact h
  | cons x r ih =>
    obtain ⟨k', v⟩ := x
    unfold mdel at h; split at h
    · exact List.mem_cons_of_mem _ (ih h)
    · rcases List.mem_cons.1 h with rfl | h
      · exact List.mem_cons_self ..
      · exact List.mem_cons_of_mem _ (ih h)

theorem mem_mins {m : SMap α} {k : Nat} {v : α} {e : Nat × α} (h : e ∈ mins m k v) : e = (k, v) ∨ e ∈ m := by
  induction m with
  | nil => simp [mins] at h; exact .inl h
  | cons x r ih =>
    obtain ⟨k', w⟩ := x
    unfold mins at h; split at h
    · rcases List.mem_cons.1 h with rfl | h
      · exact .inl rfl
      · exact .inr h
    · split at h
      · rcases List.mem_cons.1 h with rfl | h
        · exact .inl rfl
        · exact .inr (List.mem_cons_of_mem _ h)
      · rcases List.mem_cons.1 h with rfl | h
        · exact .inr (List.mem_cons_self ..)
        · rcases ih h with h | h
          · exact .inl h
          · exact .inr (List.mem_cons_of_mem _ h)

theorem mwf_iff [DecidableEq α] {d : α} {m : SMap α} : mwf d m = true ↔ mrising m = true ∧ ∀ e ∈ m, e.2 ≠ d := by
  simp [mwf]

theorem mwf_mset [DecidableEq α] {d : α} {m : SMap α} (k : Nat) (v : α) (h : mwf d m = true) : mwf d (mset d m k v) = true := by
  rw [mwf_iff] at h ⊢
  refine ⟨mrising_mset d k v h.1, ?_⟩
  unfold mset; split
  · exact fun e he => h.2 e (mem_mdel he)
  · next hv =>
    intro e he
    rcases mem_mins he with rfl | he
    · exact hv
    · exact h.2 e he

theorem mwf_mkeep [DecidableEq α] {d : α} {m : SMap α} (p : Nat → Bool) (h : mwf d m = true) : mwf d (mkeep p m) = true := by
  rw [mwf_iff] at h ⊢
  exact ⟨mrising_mkeep p h.1, fun e he => h.2 e (List.mem_filter.1 he).1⟩

/-! ### Bytes in memory -/

theorem mwf_memWrite {m : SMap Byte} (a n v : Nat) (h : mwf (0 : Byte) m = true) : mwf (0 : Byte) (memWrite m a n v) = true := by
  induction n generalizing m a v with
  | zero => exact h
  | succ n ih => exact ih _ _ (mwf_mset a _ h)

/-- A store leaves every byte outside its place as it was. -/
theorem mget_memWrite_out {m : SMap Byte} {a n v q : Nat} (h : q < a ∨ a + n ≤ q) :
    mget (0 : Byte) (memWrite m a n v) q = mget (0 : Byte) m q := by
  induction n generalizing m a v with
  | zero => rfl
  | succ n ih =>
    have h1 : q ≠ a := by omega
    rw [memWrite, ih (by omega), mget_mset_ne _ _ _ h1]

theorem memRead_congr {m m' : SMap Byte} {a n : Nat} (h : ∀ q, a ≤ q → q < a + n → mget (0 : Byte) m q = mget (0 : Byte) m' q) :
    memRead m a n = memRead m' a n := by
  induction n generalizing a with
  | zero => rfl
  | succ n ih =>
    rw [memRead, memRead, h a (Nat.le_refl _) (by omega), ih (fun q h1 h2 => h q (by omega) (by omega))]

/-- A read of `n` bytes after a store of `n` bytes at the same place gives the low `n` bytes stored. -/
theorem memRead_memWrite (m : SMap Byte) (a n v : Nat) : memRead (memWrite m a n v) a n = v % 256 ^ n := by
  induction n generalizing m a v with
  | zero => simp [memRead, Nat.mod_one]
  | succ n ih =>
    have h : 256 ^ (n + 1) = 256 * 256 ^ n := by rw [Nat.pow_succ, Nat.mul_comm]
    rw [memRead, memWrite, ih, mget_memWrite_out (.inl (Nat.lt_succ_self a)), mget_mset_self, BitVec.toNat_ofNat, h, Nat.mod_mul]

end Sys2Proof.Machine
end

