-- ==== Sys2Proof/Laws/State.lean ====
section
/-! SUPPORT. What each primitive change leaves of each field of State: one lemma for a field and a change, true by
unfolding, so that no later proof unfolds a record update. What a change does to its own field stands in Laws/Act.lean. -/

namespace Sys2Proof.Machine

variable {s : State}

/-! ### tick -/
@[simp] theorem tick_pending n : (Prim.apply (.tick n) s).pending = s.pending := rfl
@[simp] theorem tick_regs n : (Prim.apply (.tick n) s).regs = s.regs := rfl
@[simp] theorem tick_freeCtr n : (Prim.apply (.tick n) s).freeCtr = s.freeCtr := rfl
@[simp] theorem tick_cores n : (Prim.apply (.tick n) s).cores = s.cores := rfl
@[simp] theorem tick_spad n : (Prim.apply (.tick n) s).spad = s.spad := rfl
@[simp] theorem tick_acc n : (Prim.apply (.tick n) s).acc = s.acc := rfl
@[simp] theorem tick_dram n : (Prim.apply (.tick n) s).dram = s.dram := rfl
@[simp] theorem tick_hubMem n : (Prim.apply (.tick n) s).hubMem = s.hubMem := rfl
@[simp] theorem tick_aon n : (Prim.apply (.tick n) s).aon = s.aon := rfl
@[simp] theorem tick_die n : (Prim.apply (.tick n) s).die = s.die := rfl
@[simp] theorem tick_sch n : (Prim.apply (.tick n) s).sch = s.sch := rfl
@[simp] theorem tick_clk n : (Prim.apply (.tick n) s).clk = s.clk := rfl
@[simp] theorem tick_log n : (Prim.apply (.tick n) s).log = s.log := rfl
@[simp] theorem tick_time n : (Prim.apply (.tick n) s).time = s.time := rfl
@[simp] theorem tick_bus n : (Prim.apply (.tick n) s).bus = s.bus := rfl
@[simp] theorem tick_host n : (Prim.apply (.tick n) s).host = s.host := rfl
@[simp] theorem tick_sec n : (Prim.apply (.tick n) s).sec = s.sec := rfl
@[simp] theorem tick_pkg n : (Prim.apply (.tick n) s).pkg = s.pkg := rfl
@[simp] theorem tick_fab n : (Prim.apply (.tick n) s).fab = s.fab := rfl
@[simp] theorem tick_chr n : (Prim.apply (.tick n) s).chr = s.chr := rfl
@[simp] theorem tick_isp n : (Prim.apply (.tick n) s).isp = s.isp := rfl
@[simp] theorem tick_aud n : (Prim.apply (.tick n) s).aud = s.aud := rfl
@[simp] theorem tick_inp n : (Prim.apply (.tick n) s).inp = s.inp := rfl
@[simp] theorem tick_pwr n : (Prim.apply (.tick n) s).pwr = s.pwr := rfl
@[simp] theorem tick_out n : (Prim.apply (.tick n) s).out = s.out := rfl
@[simp] theorem tick_reg_acc n (g : Fld) (x y : Nat) : (Prim.apply (.tick n) s).reg g x y = s.reg g x y := rfl
@[simp] theorem tick_bit_acc n (g : Fld) (x y : Nat) : (Prim.apply (.tick n) s).bit g x y = s.bit g x y := rfl
@[simp] theorem tick_core_acc n (x : Nat) : (Prim.apply (.tick n) s).core x = s.core x := rfl

/-! ### fresh -/
@[simp] theorem fresh_t : (Prim.apply .fresh s).t = s.t := rfl
@[simp] theorem fresh_pending : (Prim.apply .fresh s).pending = s.pending := rfl
@[simp] theorem fresh_regs : (Prim.apply .fresh s).regs = s.regs := rfl
@[simp] theorem fresh_cores : (Prim.apply .fresh s).cores = s.cores := rfl
@[simp] theorem fresh_spad : (Prim.apply .fresh s).spad = s.spad := rfl
@[simp] theorem fresh_acc : (Prim.apply .fresh s).acc = s.acc := rfl
@[simp] theorem fresh_dram : (Prim.apply .fresh s).dram = s.dram := rfl
@[simp] theorem fresh_hubMem : (Prim.apply .fresh s).hubMem = s.hubMem := rfl
@[simp] theorem fresh_aon : (Prim.apply .fresh s).aon = s.aon := rfl
@[simp] theorem fresh_die : (Prim.apply .fresh s).die = s.die := rfl
@[simp] theorem fresh_sch : (Prim.apply .fresh s).sch = s.sch := rfl
@[simp] theorem fresh_clk : (Prim.apply .fresh s).clk = s.clk := rfl
@[simp] theorem fresh_log : (Prim.apply .fresh s).log = s.log := rfl
@[simp] theorem fresh_time : (Prim.apply .fresh s).time = s.time := rfl
@[simp] theorem fresh_bus : (Prim.apply .fresh s).bus = s.bus := rfl
@[simp] theorem fresh_host : (Prim.apply .fresh s).host = s.host := rfl
@[simp] theorem fresh_sec : (Prim.apply .fresh s).sec = s.sec := rfl
@[simp] theorem fresh_pkg : (Prim.apply .fresh s).pkg = s.pkg := rfl
@[simp] theorem fresh_fab : (Prim.apply .fresh s).fab = s.fab := rfl
@[simp] theorem fresh_chr : (Prim.apply .fresh s).chr = s.chr := rfl
@[simp] theorem fresh_isp : (Prim.apply .fresh s).isp = s.isp := rfl
@[simp] theorem fresh_aud : (Prim.apply .fresh s).aud = s.aud := rfl
@[simp] theorem fresh_inp : (Prim.apply .fresh s).inp = s.inp := rfl
@[simp] theorem fresh_pwr : (Prim.apply .fresh s).pwr = s.pwr := rfl
@[simp] theorem fresh_out : (Prim.apply .fresh s).out = s.out := rfl
@[simp] theorem fresh_reg_acc (g : Fld) (x y : Nat) : (Prim.apply .fresh s).reg g x y = s.reg g x y := rfl
@[simp] theorem fresh_bit_acc (g : Fld) (x y : Nat) : (Prim.apply .fresh s).bit g x y = s.bit g x y := rfl
@[simp] theorem fresh_core_acc (x : Nat) : (Prim.apply .fresh s).core x = s.core x := rfl

/-! ### reg -/
@[simp] theorem reg_t f i j v : (Prim.apply (.reg f i j v) s).t = s.t := rfl
@[simp] theorem reg_pending f i j v : (Prim.apply (.reg f i j v) s).pending = s.pending := rfl
@[simp] theorem reg_freeCtr f i j v : (Prim.apply (.reg f i j v) s).freeCtr = s.freeCtr := rfl
@[simp] theorem reg_cores f i j v : (Prim.apply (.reg f i j v) s).cores = s.cores := rfl
@[simp] theorem reg_spad f i j v : (Prim.apply (.reg f i j v) s).spad = s.spad := rfl
@[simp] theorem reg_acc f i j v : (Prim.apply (.reg f i j v) s).acc = s.acc := rfl
@[simp] theorem reg_dram f i j v : (Prim.apply (.reg f i j v) s).dram = s.dram := rfl
@[simp] theorem reg_hubMem f i j v : (Prim.apply (.reg f i j v) s).hubMem = s.hubMem := rfl
@[simp] theorem reg_aon f i j v : (Prim.apply (.reg f i j v) s).aon = s.aon := rfl
@[simp] theorem reg_die f i j v : (Prim.apply (.reg f i j v) s).die = s.die := rfl
@[simp] theorem reg_sch f i j v : (Prim.apply (.reg f i j v) s).sch = s.sch := rfl
@[simp] theorem reg_clk f i j v : (Prim.apply (.reg f i j v) s).clk = s.clk := rfl
@[simp] theorem reg_log f i j v : (Prim.apply (.reg f i j v) s).log = s.log := rfl
@[simp] theorem reg_time f i j v : (Prim.apply (.reg f i j v) s).time = s.time := rfl
@[simp] theorem reg_bus f i j v : (Prim.apply (.reg f i j v) s).bus = s.bus := rfl
@[simp] theorem reg_host f i j v : (Prim.apply (.reg f i j v) s).host = s.host := rfl
@[simp] theorem reg_sec f i j v : (Prim.apply (.reg f i j v) s).sec = s.sec := rfl
@[simp] theorem reg_pkg f i j v : (Prim.apply (.reg f i j v) s).pkg = s.pkg := rfl
@[simp] theorem reg_fab f i j v : (Prim.apply (.reg f i j v) s).fab = s.fab := rfl
@[simp] theorem reg_chr f i j v : (Prim.apply (.reg f i j v) s).chr = s.chr := rfl
@[simp] theorem reg_isp f i j v : (Prim.apply (.reg f i j v) s).isp = s.isp := rfl
@[simp] theorem reg_aud f i j v : (Prim.apply (.reg f i j v) s).aud = s.aud := rfl
@[simp] theorem reg_inp f i j v : (Prim.apply (.reg f i j v) s).inp = s.inp := rfl
@[simp] theorem reg_pwr f i j v : (Prim.apply (.reg f i j v) s).pwr = s.pwr := rfl
@[simp] theorem reg_out f i j v : (Prim.apply (.reg f i j v) s).out = s.out := rfl
@[simp] theorem reg_core_acc f i j v (x : Nat) : (Prim.apply (.reg f i j v) s).core x = s.core x := rfl

/-! ### regsKeep -/
@[simp] theorem regsKeep_t p : (Prim.apply (.regsKeep p) s).t = s.t := rfl
@[simp] theorem regsKeep_pending p : (Prim.apply (.regsKeep p) s).pending = s.pending := rfl
@[simp] theorem regsKeep_freeCtr p : (Prim.apply (.regsKeep p) s).freeCtr = s.freeCtr := rfl
@[simp] theorem regsKeep_cores p : (Prim.apply (.regsKeep p) s).cores = s.cores := rfl
@[simp] theorem regsKeep_spad p : (Prim.apply (.regsKeep p) s).spad = s.spad := rfl
@[simp] theorem regsKeep_acc p : (Prim.apply (.regsKeep p) s).acc = s.acc := rfl
@[simp] theorem regsKeep_dram p : (Prim.apply (.regsKeep p) s).dram = s.dram := rfl
@[simp] theorem regsKeep_hubMem p : (Prim.apply (.regsKeep p) s).hubMem = s.hubMem := rfl
@[simp] theorem regsKeep_aon p : (Prim.apply (.regsKeep p) s).aon = s.aon := rfl
@[simp] theorem regsKeep_die p : (Prim.apply (.regsKeep p) s).die = s.die := rfl
@[simp] theorem regsKeep_sch p : (Prim.apply (.regsKeep p) s).sch = s.sch := rfl
@[simp] theorem regsKeep_clk p : (Prim.apply (.regsKeep p) s).clk = s.clk := rfl
@[simp] theorem regsKeep_log p : (Prim.apply (.regsKeep p) s).log = s.log := rfl
@[simp] theorem regsKeep_time p : (Prim.apply (.regsKeep p) s).time = s.time := rfl
@[simp] theorem regsKeep_bus p : (Prim.apply (.regsKeep p) s).bus = s.bus := rfl
@[simp] theorem regsKeep_host p : (Prim.apply (.regsKeep p) s).host = s.host := rfl
@[simp] theorem regsKeep_sec p : (Prim.apply (.regsKeep p) s).sec = s.sec := rfl
@[simp] theorem regsKeep_pkg p : (Prim.apply (.regsKeep p) s).pkg = s.pkg := rfl
@[simp] theorem regsKeep_fab p : (Prim.apply (.regsKeep p) s).fab = s.fab := rfl
@[simp] theorem regsKeep_chr p : (Prim.apply (.regsKeep p) s).chr = s.chr := rfl
@[simp] theorem regsKeep_isp p : (Prim.apply (.regsKeep p) s).isp = s.isp := rfl
@[simp] theorem regsKeep_aud p : (Prim.apply (.regsKeep p) s).aud = s.aud := rfl
@[simp] theorem regsKeep_inp p : (Prim.apply (.regsKeep p) s).inp = s.inp := rfl
@[simp] theorem regsKeep_pwr p : (Prim.apply (.regsKeep p) s).pwr = s.pwr := rfl
@[simp] theorem regsKeep_out p : (Prim.apply (.regsKeep p) s).out = s.out := rfl
@[simp] theorem regsKeep_core_acc p (x : Nat) : (Prim.apply (.regsKeep p) s).core x = s.core x := rfl

/-! ### regRaw -/
@[simp] theorem regRaw_t k v : (Prim.apply (.regRaw k v) s).t = s.t := rfl
@[simp] theorem regRaw_pending k v : (Prim.apply (.regRaw k v) s).pending = s.pending := rfl
@[simp] theorem regRaw_freeCtr k v : (Prim.apply (.regRaw k v) s).freeCtr = s.freeCtr := rfl
@[simp] theorem regRaw_cores k v : (Prim.apply (.regRaw k v) s).cores = s.cores := rfl
@[simp] theorem regRaw_spad k v : (Prim.apply (.regRaw k v) s).spad = s.spad := rfl
@[simp] theorem regRaw_acc k v : (Prim.apply (.regRaw k v) s).acc = s.acc := rfl
@[simp] theorem regRaw_dram k v : (Prim.apply (.regRaw k v) s).dram = s.dram := rfl
@[simp] theorem regRaw_hubMem k v : (Prim.apply (.regRaw k v) s).hubMem = s.hubMem := rfl
@[simp] theorem regRaw_aon k v : (Prim.apply (.regRaw k v) s).aon = s.aon := rfl
@[simp] theorem regRaw_die k v : (Prim.apply (.regRaw k v) s).die = s.die := rfl
@[simp] theorem regRaw_sch k v : (Prim.apply (.regRaw k v) s).sch = s.sch := rfl
@[simp] theorem regRaw_clk k v : (Prim.apply (.regRaw k v) s).clk = s.clk := rfl
@[simp] theorem regRaw_log k v : (Prim.apply (.regRaw k v) s).log = s.log := rfl
@[simp] theorem regRaw_time k v : (Prim.apply (.regRaw k v) s).time = s.time := rfl
@[simp] theorem regRaw_bus k v : (Prim.apply (.regRaw k v) s).bus = s.bus := rfl
@[simp] theorem regRaw_host k v : (Prim.apply (.regRaw k v) s).host = s.host := rfl
@[simp] theorem regRaw_sec k v : (Prim.apply (.regRaw k v) s).sec = s.sec := rfl
@[simp] theorem regRaw_pkg k v : (Prim.apply (.regRaw k v) s).pkg = s.pkg := rfl
@[simp] theorem regRaw_fab k v : (Prim.apply (.regRaw k v) s).fab = s.fab := rfl
@[simp] theorem regRaw_chr k v : (Prim.apply (.regRaw k v) s).chr = s.chr := rfl
@[simp] theorem regRaw_isp k v : (Prim.apply (.regRaw k v) s).isp = s.isp := rfl
@[simp] theorem regRaw_aud k v : (Prim.apply (.regRaw k v) s).aud = s.aud := rfl
@[simp] theorem regRaw_inp k v : (Prim.apply (.regRaw k v) s).inp = s.inp := rfl
@[simp] theorem regRaw_pwr k v : (Prim.apply (.regRaw k v) s).pwr = s.pwr := rfl
@[simp] theorem regRaw_out k v : (Prim.apply (.regRaw k v) s).out = s.out := rfl
@[simp] theorem regRaw_core_acc k v (x : Nat) : (Prim.apply (.regRaw k v) s).core x = s.core x := rfl

/-! ### core -/
@[simp] theorem core_t c f : (Prim.apply (.core c f) s).t = s.t := rfl
@[simp] theorem core_pending c f : (Prim.apply (.core c f) s).pending = s.pending := rfl
@[simp] theorem core_regs c f : (Prim.apply (.core c f) s).regs = s.regs := rfl
@[simp] theorem core_freeCtr c f : (Prim.apply (.core c f) s).freeCtr = s.freeCtr := rfl
@[simp] theorem core_spad c f : (Prim.apply (.core c f) s).spad = s.spad := rfl
@[simp] theorem core_acc c f : (Prim.apply (.core c f) s).acc = s.acc := rfl
@[simp] theorem core_dram c f : (Prim.apply (.core c f) s).dram = s.dram := rfl
@[simp] theorem core_hubMem c f : (Prim.apply (.core c f) s).hubMem = s.hubMem := rfl
@[simp] theorem core_aon c f : (Prim.apply (.core c f) s).aon = s.aon := rfl
@[simp] theorem core_die c f : (Prim.apply (.core c f) s).die = s.die := rfl
@[simp] theorem core_sch c f : (Prim.apply (.core c f) s).sch = s.sch := rfl
@[simp] theorem core_clk c f : (Prim.apply (.core c f) s).clk = s.clk := rfl
@[simp] theorem core_log c f : (Prim.apply (.core c f) s).log = s.log := rfl
@[simp] theorem core_time c f : (Prim.apply (.core c f) s).time = s.time := rfl
@[simp] theorem core_bus c f : (Prim.apply (.core c f) s).bus = s.bus := rfl
@[simp] theorem core_host c f : (Prim.apply (.core c f) s).host = s.host := rfl
@[simp] theorem core_sec c f : (Prim.apply (.core c f) s).sec = s.sec := rfl
@[simp] theorem core_pkg c f : (Prim.apply (.core c f) s).pkg = s.pkg := rfl
@[simp] theorem core_fab c f : (Prim.apply (.core c f) s).fab = s.fab := rfl
@[simp] theorem core_chr c f : (Prim.apply (.core c f) s).chr = s.chr := rfl
@[simp] theorem core_isp c f : (Prim.apply (.core c f) s).isp = s.isp := rfl
@[simp] theorem core_aud c f : (Prim.apply (.core c f) s).aud = s.aud := rfl
@[simp] theorem core_inp c f : (Prim.apply (.core c f) s).inp = s.inp := rfl
@[simp] theorem core_pwr c f : (Prim.apply (.core c f) s).pwr = s.pwr := rfl
@[simp] theorem core_out c f : (Prim.apply (.core c f) s).out = s.out := rfl
@[simp] theorem core_reg_acc c f (g : Fld) (x y : Nat) : (Prim.apply (.core c f) s).reg g x y = s.reg g x y := rfl
@[simp] theorem core_bit_acc c f (g : Fld) (x y : Nat) : (Prim.apply (.core c f) s).bit g x y = s.bit g x y := rfl

/-! ### spad -/
@[simp] theorem spad_t k v : (Prim.apply (.spad k v) s).t = s.t := rfl
@[simp] theorem spad_pending k v : (Prim.apply (.spad k v) s).pending = s.pending := rfl
@[simp] theorem spad_regs k v : (Prim.apply (.spad k v) s).regs = s.regs := rfl
@[simp] theorem spad_freeCtr k v : (Prim.apply (.spad k v) s).freeCtr = s.freeCtr := rfl
@[simp] theorem spad_cores k v : (Prim.apply (.spad k v) s).cores = s.cores := rfl
@[simp] theorem spad_acc k v : (Prim.apply (.spad k v) s).acc = s.acc := rfl
@[simp] theorem spad_dram k v : (Prim.apply (.spad k v) s).dram = s.dram := rfl
@[simp] theorem spad_hubMem k v : (Prim.apply (.spad k v) s).hubMem = s.hubMem := rfl
@[simp] theorem spad_aon k v : (Prim.apply (.spad k v) s).aon = s.aon := rfl
@[simp] theorem spad_die k v : (Prim.apply (.spad k v) s).die = s.die := rfl
@[simp] theorem spad_sch k v : (Prim.apply (.spad k v) s).sch = s.sch := rfl
@[simp] theorem spad_clk k v : (Prim.apply (.spad k v) s).clk = s.clk := rfl
@[simp] theorem spad_log k v : (Prim.apply (.spad k v) s).log = s.log := rfl
@[simp] theorem spad_time k v : (Prim.apply (.spad k v) s).time = s.time := rfl
@[simp] theorem spad_bus k v : (Prim.apply (.spad k v) s).bus = s.bus := rfl
@[simp] theorem spad_host k v : (Prim.apply (.spad k v) s).host = s.host := rfl
@[simp] theorem spad_sec k v : (Prim.apply (.spad k v) s).sec = s.sec := rfl
@[simp] theorem spad_pkg k v : (Prim.apply (.spad k v) s).pkg = s.pkg := rfl
@[simp] theorem spad_fab k v : (Prim.apply (.spad k v) s).fab = s.fab := rfl
@[simp] theorem spad_chr k v : (Prim.apply (.spad k v) s).chr = s.chr := rfl
@[simp] theorem spad_isp k v : (Prim.apply (.spad k v) s).isp = s.isp := rfl
@[simp] theorem spad_aud k v : (Prim.apply (.spad k v) s).aud = s.aud := rfl
@[simp] theorem spad_inp k v : (Prim.apply (.spad k v) s).inp = s.inp := rfl
@[simp] theorem spad_pwr k v : (Prim.apply (.spad k v) s).pwr = s.pwr := rfl
@[simp] theorem spad_out k v : (Prim.apply (.spad k v) s).out = s.out := rfl
@[simp] theorem spad_reg_acc k v (g : Fld) (x y : Nat) : (Prim.apply (.spad k v) s).reg g x y = s.reg g x y := rfl
@[simp] theorem spad_bit_acc k v (g : Fld) (x y : Nat) : (Prim.apply (.spad k v) s).bit g x y = s.bit g x y := rfl
@[simp] theorem spad_core_acc k v (x : Nat) : (Prim.apply (.spad k v) s).core x = s.core x := rfl

/-! ### spadKeep -/
@[simp] theorem spadKeep_t p : (Prim.apply (.spadKeep p) s).t = s.t := rfl
@[simp] theorem spadKeep_pending p : (Prim.apply (.spadKeep p) s).pending = s.pending := rfl
@[simp] theorem spadKeep_regs p : (Prim.apply (.spadKeep p) s).regs = s.regs := rfl
@[simp] theorem spadKeep_freeCtr p : (Prim.apply (.spadKeep p) s).freeCtr = s.freeCtr := rfl
@[simp] theorem spadKeep_cores p : (Prim.apply (.spadKeep p) s).cores = s.cores := rfl
@[simp] theorem spadKeep_acc p : (Prim.apply (.spadKeep p) s).acc = s.acc := rfl
@[simp] theorem spadKeep_dram p : (Prim.apply (.spadKeep p) s).dram = s.dram := rfl
@[simp] theorem spadKeep_hubMem p : (Prim.apply (.spadKeep p) s).hubMem = s.hubMem := rfl
@[simp] theorem spadKeep_aon p : (Prim.apply (.spadKeep p) s).aon = s.aon := rfl
@[simp] theorem spadKeep_die p : (Prim.apply (.spadKeep p) s).die = s.die := rfl
@[simp] theorem spadKeep_sch p : (Prim.apply (.spadKeep p) s).sch = s.sch := rfl
@[simp] theorem spadKeep_clk p : (Prim.apply (.spadKeep p) s).clk = s.clk := rfl
@[simp] theorem spadKeep_log p : (Prim.apply (.spadKeep p) s).log = s.log := rfl
@[simp] theorem spadKeep_time p : (Prim.apply (.spadKeep p) s).time = s.time := rfl
@[simp] theorem spadKeep_bus p : (Prim.apply (.spadKeep p) s).bus = s.bus := rfl
@[simp] theorem spadKeep_host p : (Prim.apply (.spadKeep p) s).host = s.host := rfl
@[simp] theorem spadKeep_sec p : (Prim.apply (.spadKeep p) s).sec = s.sec := rfl
@[simp] theorem spadKeep_pkg p : (Prim.apply (.spadKeep p) s).pkg = s.pkg := rfl
@[simp] theorem spadKeep_fab p : (Prim.apply (.spadKeep p) s).fab = s.fab := rfl
@[simp] theorem spadKeep_chr p : (Prim.apply (.spadKeep p) s).chr = s.chr := rfl
@[simp] theorem spadKeep_isp p : (Prim.apply (.spadKeep p) s).isp = s.isp := rfl
@[simp] theorem spadKeep_aud p : (Prim.apply (.spadKeep p) s).aud = s.aud := rfl
@[simp] theorem spadKeep_inp p : (Prim.apply (.spadKeep p) s).inp = s.inp := rfl
@[simp] theorem spadKeep_pwr p : (Prim.apply (.spadKeep p) s).pwr = s.pwr := rfl
@[simp] theorem spadKeep_out p : (Prim.apply (.spadKeep p) s).out = s.out := rfl
@[simp] theorem spadKeep_reg_acc p (g : Fld) (x y : Nat) : (Prim.apply (.spadKeep p) s).reg g x y = s.reg g x y := rfl
@[simp] theorem spadKeep_bit_acc p (g : Fld) (x y : Nat) : (Prim.apply (.spadKeep p) s).bit g x y = s.bit g x y := rfl
@[simp] theorem spadKeep_core_acc p (x : Nat) : (Prim.apply (.spadKeep p) s).core x = s.core x := rfl

/-! ### acc -/
@[simp] theorem acc_t k v : (Prim.apply (.acc k v) s).t = s.t := rfl
@[simp] theorem acc_pending k v : (Prim.apply (.acc k v) s).pending = s.pending := rfl
@[simp] theorem acc_regs k v : (Prim.apply (.acc k v) s).regs = s.regs := rfl
@[simp] theorem acc_freeCtr k v : (Prim.apply (.acc k v) s).freeCtr = s.freeCtr := rfl
@[simp] theorem acc_cores k v : (Prim.apply (.acc k v) s).cores = s.cores := rfl
@[simp] theorem acc_spad k v : (Prim.apply (.acc k v) s).spad = s.spad := rfl
@[simp] theorem acc_dram k v : (Prim.apply (.acc k v) s).dram = s.dram := rfl
@[simp] theorem acc_hubMem k v : (Prim.apply (.acc k v) s).hubMem = s.hubMem := rfl
@[simp] theorem acc_aon k v : (Prim.apply (.acc k v) s).aon = s.aon := rfl
@[simp] theorem acc_die k v : (Prim.apply (.acc k v) s).die = s.die := rfl
@[simp] theorem acc_sch k v : (Prim.apply (.acc k v) s).sch = s.sch := rfl
@[simp] theorem acc_clk k v : (Prim.apply (.acc k v) s).clk = s.clk := rfl
@[simp] theorem acc_log k v : (Prim.apply (.acc k v) s).log = s.log := rfl
@[simp] theorem acc_time k v : (Prim.apply (.acc k v) s).time = s.time := rfl
@[simp] theorem acc_bus k v : (Prim.apply (.acc k v) s).bus = s.bus := rfl
@[simp] theorem acc_host k v : (Prim.apply (.acc k v) s).host = s.host := rfl
@[simp] theorem acc_sec k v : (Prim.apply (.acc k v) s).sec = s.sec := rfl
@[simp] theorem acc_pkg k v : (Prim.apply (.acc k v) s).pkg = s.pkg := rfl
@[simp] theorem acc_fab k v : (Prim.apply (.acc k v) s).fab = s.fab := rfl
@[simp] theorem acc_chr k v : (Prim.apply (.acc k v) s).chr = s.chr := rfl
@[simp] theorem acc_isp k v : (Prim.apply (.acc k v) s).isp = s.isp := rfl
@[simp] theorem acc_aud k v : (Prim.apply (.acc k v) s).aud = s.aud := rfl
@[simp] theorem acc_inp k v : (Prim.apply (.acc k v) s).inp = s.inp := rfl
@[simp] theorem acc_pwr k v : (Prim.apply (.acc k v) s).pwr = s.pwr := rfl
@[simp] theorem acc_out k v : (Prim.apply (.acc k v) s).out = s.out := rfl
@[simp] theorem acc_reg_acc k v (g : Fld) (x y : Nat) : (Prim.apply (.acc k v) s).reg g x y = s.reg g x y := rfl
@[simp] theorem acc_bit_acc k v (g : Fld) (x y : Nat) : (Prim.apply (.acc k v) s).bit g x y = s.bit g x y := rfl
@[simp] theorem acc_core_acc k v (x : Nat) : (Prim.apply (.acc k v) s).core x = s.core x := rfl

/-! ### accKeep -/
@[simp] theorem accKeep_t p : (Prim.apply (.accKeep p) s).t = s.t := rfl
@[simp] theorem accKeep_pending p : (Prim.apply (.accKeep p) s).pending = s.pending := rfl
@[simp] theorem accKeep_regs p : (Prim.apply (.accKeep p) s).regs = s.regs := rfl
@[simp] theorem accKeep_freeCtr p : (Prim.apply (.accKeep p) s).freeCtr = s.freeCtr := rfl
@[simp] theorem accKeep_cores p : (Prim.apply (.accKeep p) s).cores = s.cores := rfl
@[simp] theorem accKeep_spad p : (Prim.apply (.accKeep p) s).spad = s.spad := rfl
@[simp] theorem accKeep_dram p : (Prim.apply (.accKeep p) s).dram = s.dram := rfl
@[simp] theorem accKeep_hubMem p : (Prim.apply (.accKeep p) s).hubMem = s.hubMem := rfl
@[simp] theorem accKeep_aon p : (Prim.apply (.accKeep p) s).aon = s.aon := rfl
@[simp] theorem accKeep_die p : (Prim.apply (.accKeep p) s).die = s.die := rfl
@[simp] theorem accKeep_sch p : (Prim.apply (.accKeep p) s).sch = s.sch := rfl
@[simp] theorem accKeep_clk p : (Prim.apply (.accKeep p) s).clk = s.clk := rfl
@[simp] theorem accKeep_log p : (Prim.apply (.accKeep p) s).log = s.log := rfl
@[simp] theorem accKeep_time p : (Prim.apply (.accKeep p) s).time = s.time := rfl
@[simp] theorem accKeep_bus p : (Prim.apply (.accKeep p) s).bus = s.bus := rfl
@[simp] theorem accKeep_host p : (Prim.apply (.accKeep p) s).host = s.host := rfl
@[simp] theorem accKeep_sec p : (Prim.apply (.accKeep p) s).sec = s.sec := rfl
@[simp] theorem accKeep_pkg p : (Prim.apply (.accKeep p) s).pkg = s.pkg := rfl
@[simp] theorem accKeep_fab p : (Prim.apply (.accKeep p) s).fab = s.fab := rfl
@[simp] theorem accKeep_chr p : (Prim.apply (.accKeep p) s).chr = s.chr := rfl
@[simp] theorem accKeep_isp p : (Prim.apply (.accKeep p) s).isp = s.isp := rfl
@[simp] theorem accKeep_aud p : (Prim.apply (.accKeep p) s).aud = s.aud := rfl
@[simp] theorem accKeep_inp p : (Prim.apply (.accKeep p) s).inp = s.inp := rfl
@[simp] theorem accKeep_pwr p : (Prim.apply (.accKeep p) s).pwr = s.pwr := rfl
@[simp] theorem accKeep_out p : (Prim.apply (.accKeep p) s).out = s.out := rfl
@[simp] theorem accKeep_reg_acc p (g : Fld) (x y : Nat) : (Prim.apply (.accKeep p) s).reg g x y = s.reg g x y := rfl
@[simp] theorem accKeep_bit_acc p (g : Fld) (x y : Nat) : (Prim.apply (.accKeep p) s).bit g x y = s.bit g x y := rfl
@[simp] theorem accKeep_core_acc p (x : Nat) : (Prim.apply (.accKeep p) s).core x = s.core x := rfl

/-! ### dram -/
@[simp] theorem dram_t a n v : (Prim.apply (.dram a n v) s).t = s.t := rfl
@[simp] theorem dram_pending a n v : (Prim.apply (.dram a n v) s).pending = s.pending := rfl
@[simp] theorem dram_regs a n v : (Prim.apply (.dram a n v) s).regs = s.regs := rfl
@[simp] theorem dram_freeCtr a n v : (Prim.apply (.dram a n v) s).freeCtr = s.freeCtr := rfl
@[simp] theorem dram_cores a n v : (Prim.apply (.dram a n v) s).cores = s.cores := rfl
@[simp] theorem dram_spad a n v : (Prim.apply (.dram a n v) s).spad = s.spad := rfl
@[simp] theorem dram_acc a n v : (Prim.apply (.dram a n v) s).acc = s.acc := rfl
@[simp] theorem dram_hubMem a n v : (Prim.apply (.dram a n v) s).hubMem = s.hubMem := rfl
@[simp] theorem dram_aon a n v : (Prim.apply (.dram a n v) s).aon = s.aon := rfl
@[simp] theorem dram_die a n v : (Prim.apply (.dram a n v) s).die = s.die := rfl
@[simp] theorem dram_sch a n v : (Prim.apply (.dram a n v) s).sch = s.sch := rfl
@[simp] theorem dram_clk a n v : (Prim.apply (.dram a n v) s).clk = s.clk := rfl
@[simp] theorem dram_log a n v : (Prim.apply (.dram a n v) s).log = s.log := rfl
@[simp] theorem dram_time a n v : (Prim.apply (.dram a n v) s).time = s.time := rfl
@[simp] theorem dram_bus a n v : (Prim.apply (.dram a n v) s).bus = s.bus := rfl
@[simp] theorem dram_host a n v : (Prim.apply (.dram a n v) s).host = s.host := rfl
@[simp] theorem dram_sec a n v : (Prim.apply (.dram a n v) s).sec = s.sec := rfl
@[simp] theorem dram_pkg a n v : (Prim.apply (.dram a n v) s).pkg = s.pkg := rfl
@[simp] theorem dram_fab a n v : (Prim.apply (.dram a n v) s).fab = s.fab := rfl
@[simp] theorem dram_chr a n v : (Prim.apply (.dram a n v) s).chr = s.chr := rfl
@[simp] theorem dram_isp a n v : (Prim.apply (.dram a n v) s).isp = s.isp := rfl
@[simp] theorem dram_aud a n v : (Prim.apply (.dram a n v) s).aud = s.aud := rfl
@[simp] theorem dram_inp a n v : (Prim.apply (.dram a n v) s).inp = s.inp := rfl
@[simp] theorem dram_pwr a n v : (Prim.apply (.dram a n v) s).pwr = s.pwr := rfl
@[simp] theorem dram_out a n v : (Prim.apply (.dram a n v) s).out = s.out := rfl
@[simp] theorem dram_reg_acc a n v (g : Fld) (x y : Nat) : (Prim.apply (.dram a n v) s).reg g x y = s.reg g x y := rfl
@[simp] theorem dram_bit_acc a n v (g : Fld) (x y : Nat) : (Prim.apply (.dram a n v) s).bit g x y = s.bit g x y := rfl
@[simp] theorem dram_core_acc a n v (x : Nat) : (Prim.apply (.dram a n v) s).core x = s.core x := rfl

/-! ### dramKeep -/
@[simp] theorem dramKeep_t p : (Prim.apply (.dramKeep p) s).t = s.t := rfl
@[simp] theorem dramKeep_pending p : (Prim.apply (.dramKeep p) s).pending = s.pending := rfl
@[simp] theorem dramKeep_regs p : (Prim.apply (.dramKeep p) s).regs = s.regs := rfl
@[simp] theorem dramKeep_freeCtr p : (Prim.apply (.dramKeep p) s).freeCtr = s.freeCtr := rfl
@[simp] theorem dramKeep_cores p : (Prim.apply (.dramKeep p) s).cores = s.cores := rfl
@[simp] theorem dramKeep_spad p : (Prim.apply (.dramKeep p) s).spad = s.spad := rfl
@[simp] theorem dramKeep_acc p : (Prim.apply (.dramKeep p) s).acc = s.acc := rfl
@[simp] theorem dramKeep_hubMem p : (Prim.apply (.dramKeep p) s).hubMem = s.hubMem := rfl
@[simp] theorem dramKeep_aon p : (Prim.apply (.dramKeep p) s).aon = s.aon := rfl
@[simp] theorem dramKeep_die p : (Prim.apply (.dramKeep p) s).die = s.die := rfl
@[simp] theorem dramKeep_sch p : (Prim.apply (.dramKeep p) s).sch = s.sch := rfl
@[simp] theorem dramKeep_clk p : (Prim.apply (.dramKeep p) s).clk = s.clk := rfl
@[simp] theorem dramKeep_log p : (Prim.apply (.dramKeep p) s).log = s.log := rfl
@[simp] theorem dramKeep_time p : (Prim.apply (.dramKeep p) s).time = s.time := rfl
@[simp] theorem dramKeep_bus p : (Prim.apply (.dramKeep p) s).bus = s.bus := rfl
@[simp] theorem dramKeep_host p : (Prim.apply (.dramKeep p) s).host = s.host := rfl
@[simp] theorem dramKeep_sec p : (Prim.apply (.dramKeep p) s).sec = s.sec := rfl
@[simp] theorem dramKeep_pkg p : (Prim.apply (.dramKeep p) s).pkg = s.pkg := rfl
@[simp] theorem dramKeep_fab p : (Prim.apply (.dramKeep p) s).fab = s.fab := rfl
@[simp] theorem dramKeep_chr p : (Prim.apply (.dramKeep p) s).chr = s.chr := rfl
@[simp] theorem dramKeep_isp p : (Prim.apply (.dramKeep p) s).isp = s.isp := rfl
@[simp] theorem dramKeep_aud p : (Prim.apply (.dramKeep p) s).aud = s.aud := rfl
@[simp] theorem dramKeep_inp p : (Prim.apply (.dramKeep p) s).inp = s.inp := rfl
@[simp] theorem dramKeep_pwr p : (Prim.apply (.dramKeep p) s).pwr = s.pwr := rfl
@[simp] theorem dramKeep_out p : (Prim.apply (.dramKeep p) s).out = s.out := rfl
@[simp] theorem dramKeep_reg_acc p (g : Fld) (x y : Nat) : (Prim.apply (.dramKeep p) s).reg g x y = s.reg g x y := rfl
@[simp] theorem dramKeep_bit_acc p (g : Fld) (x y : Nat) : (Prim.apply (.dramKeep p) s).bit g x y = s.bit g x y := rfl
@[simp] theorem dramKeep_core_acc p (x : Nat) : (Prim.apply (.dramKeep p) s).core x = s.core x := rfl

/-! ### hubMem -/
@[simp] theorem hubMem_t a n v : (Prim.apply (.hubMem a n v) s).t = s.t := rfl
@[simp] theorem hubMem_pending a n v : (Prim.apply (.hubMem a n v) s).pending = s.pending := rfl
@[simp] theorem hubMem_regs a n v : (Prim.apply (.hubMem a n v) s).regs = s.regs := rfl
@[simp] theorem hubMem_freeCtr a n v : (Prim.apply (.hubMem a n v) s).freeCtr = s.freeCtr := rfl
@[simp] theorem hubMem_cores a n v : (Prim.apply (.hubMem a n v) s).cores = s.cores := rfl
@[simp] theorem hubMem_spad a n v : (Prim.apply (.hubMem a n v) s).spad = s.spad := rfl
@[simp] theorem hubMem_acc a n v : (Prim.apply (.hubMem a n v) s).acc = s.acc := rfl
@[simp] theorem hubMem_dram a n v : (Prim.apply (.hubMem a n v) s).dram = s.dram := rfl
@[simp] theorem hubMem_aon a n v : (Prim.apply (.hubMem a n v) s).aon = s.aon := rfl
@[simp] theorem hubMem_die a n v : (Prim.apply (.hubMem a n v) s).die = s.die := rfl
@[simp] theorem hubMem_sch a n v : (Prim.apply (.hubMem a n v) s).sch = s.sch := rfl
@[simp] theorem hubMem_clk a n v : (Prim.apply (.hubMem a n v) s).clk = s.clk := rfl
@[simp] theorem hubMem_log a n v : (Prim.apply (.hubMem a n v) s).log = s.log := rfl
@[simp] theorem hubMem_time a n v : (Prim.apply (.hubMem a n v) s).time = s.time := rfl
@[simp] theorem hubMem_bus a n v : (Prim.apply (.hubMem a n v) s).bus = s.bus := rfl
@[simp] theorem hubMem_host a n v : (Prim.apply (.hubMem a n v) s).host = s.host := rfl
@[simp] theorem hubMem_sec a n v : (Prim.apply (.hubMem a n v) s).sec = s.sec := rfl
@[simp] theorem hubMem_pkg a n v : (Prim.apply (.hubMem a n v) s).pkg = s.pkg := rfl
@[simp] theorem hubMem_fab a n v : (Prim.apply (.hubMem a n v) s).fab = s.fab := rfl
@[simp] theorem hubMem_chr a n v : (Prim.apply (.hubMem a n v) s).chr = s.chr := rfl
@[simp] theorem hubMem_isp a n v : (Prim.apply (.hubMem a n v) s).isp = s.isp := rfl
@[simp] theorem hubMem_aud a n v : (Prim.apply (.hubMem a n v) s).aud = s.aud := rfl
@[simp] theorem hubMem_inp a n v : (Prim.apply (.hubMem a n v) s).inp = s.inp := rfl
@[simp] theorem hubMem_pwr a n v : (Prim.apply (.hubMem a n v) s).pwr = s.pwr := rfl
@[simp] theorem hubMem_out a n v : (Prim.apply (.hubMem a n v) s).out = s.out := rfl
@[simp] theorem hubMem_reg_acc a n v (g : Fld) (x y : Nat) : (Prim.apply (.hubMem a n v) s).reg g x y = s.reg g x y := rfl
@[simp] theorem hubMem_bit_acc a n v (g : Fld) (x y : Nat) : (Prim.apply (.hubMem a n v) s).bit g x y = s.bit g x y := rfl
@[simp] theorem hubMem_core_acc a n v (x : Nat) : (Prim.apply (.hubMem a n v) s).core x = s.core x := rfl

/-! ### hubKeep -/
@[simp] theorem hubKeep_t p : (Prim.apply (.hubKeep p) s).t = s.t := rfl
@[simp] theorem hubKeep_pending p : (Prim.apply (.hubKeep p) s).pending = s.pending := rfl
@[simp] theorem hubKeep_regs p : (Prim.apply (.hubKeep p) s).regs = s.regs := rfl
@[simp] theorem hubKeep_freeCtr p : (Prim.apply (.hubKeep p) s).freeCtr = s.freeCtr := rfl
@[simp] theorem hubKeep_cores p : (Prim.apply (.hubKeep p) s).cores = s.cores := rfl
@[simp] theorem hubKeep_spad p : (Prim.apply (.hubKeep p) s).spad = s.spad := rfl
@[simp] theorem hubKeep_acc p : (Prim.apply (.hubKeep p) s).acc = s.acc := rfl
@[simp] theorem hubKeep_dram p : (Prim.apply (.hubKeep p) s).dram = s.dram := rfl
@[simp] theorem hubKeep_aon p : (Prim.apply (.hubKeep p) s).aon = s.aon := rfl
@[simp] theorem hubKeep_die p : (Prim.apply (.hubKeep p) s).die = s.die := rfl
@[simp] theorem hubKeep_sch p : (Prim.apply (.hubKeep p) s).sch = s.sch := rfl
@[simp] theorem hubKeep_clk p : (Prim.apply (.hubKeep p) s).clk = s.clk := rfl
@[simp] theorem hubKeep_log p : (Prim.apply (.hubKeep p) s).log = s.log := rfl
@[simp] theorem hubKeep_time p : (Prim.apply (.hubKeep p) s).time = s.time := rfl
@[simp] theorem hubKeep_bus p : (Prim.apply (.hubKeep p) s).bus = s.bus := rfl
@[simp] theorem hubKeep_host p : (Prim.apply (.hubKeep p) s).host = s.host := rfl
@[simp] theorem hubKeep_sec p : (Prim.apply (.hubKeep p) s).sec = s.sec := rfl
@[simp] theorem hubKeep_pkg p : (Prim.apply (.hubKeep p) s).pkg = s.pkg := rfl
@[simp] theorem hubKeep_fab p : (Prim.apply (.hubKeep p) s).fab = s.fab := rfl
@[simp] theorem hubKeep_chr p : (Prim.apply (.hubKeep p) s).chr = s.chr := rfl
@[simp] theorem hubKeep_isp p : (Prim.apply (.hubKeep p) s).isp = s.isp := rfl
@[simp] theorem hubKeep_aud p : (Prim.apply (.hubKeep p) s).aud = s.aud := rfl
@[simp] theorem hubKeep_inp p : (Prim.apply (.hubKeep p) s).inp = s.inp := rfl
@[simp] theorem hubKeep_pwr p : (Prim.apply (.hubKeep p) s).pwr = s.pwr := rfl
@[simp] theorem hubKeep_out p : (Prim.apply (.hubKeep p) s).out = s.out := rfl
@[simp] theorem hubKeep_reg_acc p (g : Fld) (x y : Nat) : (Prim.apply (.hubKeep p) s).reg g x y = s.reg g x y := rfl
@[simp] theorem hubKeep_bit_acc p (g : Fld) (x y : Nat) : (Prim.apply (.hubKeep p) s).bit g x y = s.bit g x y := rfl
@[simp] theorem hubKeep_core_acc p (x : Nat) : (Prim.apply (.hubKeep p) s).core x = s.core x := rfl

/-! ### aon -/
@[simp] theorem aon_t a n v : (Prim.apply (.aon a n v) s).t = s.t := rfl
@[simp] theorem aon_pending a n v : (Prim.apply (.aon a n v) s).pending = s.pending := rfl
@[simp] theorem aon_regs a n v : (Prim.apply (.aon a n v) s).regs = s.regs := rfl
@[simp] theorem aon_freeCtr a n v : (Prim.apply (.aon a n v) s).freeCtr = s.freeCtr := rfl
@[simp] theorem aon_cores a n v : (Prim.apply (.aon a n v) s).cores = s.cores := rfl
@[simp] theorem aon_spad a n v : (Prim.apply (.aon a n v) s).spad = s.spad := rfl
@[simp] theorem aon_acc a n v : (Prim.apply (.aon a n v) s).acc = s.acc := rfl
@[simp] theorem aon_dram a n v : (Prim.apply (.aon a n v) s).dram = s.dram := rfl
@[simp] theorem aon_hubMem a n v : (Prim.apply (.aon a n v) s).hubMem = s.hubMem := rfl
@[simp] theorem aon_die a n v : (Prim.apply (.aon a n v) s).die = s.die := rfl
@[simp] theorem aon_sch a n v : (Prim.apply (.aon a n v) s).sch = s.sch := rfl
@[simp] theorem aon_clk a n v : (Prim.apply (.aon a n v) s).clk = s.clk := rfl
@[simp] theorem aon_log a n v : (Prim.apply (.aon a n v) s).log = s.log := rfl
@[simp] theorem aon_time a n v : (Prim.apply (.aon a n v) s).time = s.time := rfl
@[simp] theorem aon_bus a n v : (Prim.apply (.aon a n v) s).bus = s.bus := rfl
@[simp] theorem aon_host a n v : (Prim.apply (.aon a n v) s).host = s.host := rfl
@[simp] theorem aon_sec a n v : (Prim.apply (.aon a n v) s).sec = s.sec := rfl
@[simp] theorem aon_pkg a n v : (Prim.apply (.aon a n v) s).pkg = s.pkg := rfl
@[simp] theorem aon_fab a n v : (Prim.apply (.aon a n v) s).fab = s.fab := rfl
@[simp] theorem aon_chr a n v : (Prim.apply (.aon a n v) s).chr = s.chr := rfl
@[simp] theorem aon_isp a n v : (Prim.apply (.aon a n v) s).isp = s.isp := rfl
@[simp] theorem aon_aud a n v : (Prim.apply (.aon a n v) s).aud = s.aud := rfl
@[simp] theorem aon_inp a n v : (Prim.apply (.aon a n v) s).inp = s.inp := rfl
@[simp] theorem aon_pwr a n v : (Prim.apply (.aon a n v) s).pwr = s.pwr := rfl
@[simp] theorem aon_out a n v : (Prim.apply (.aon a n v) s).out = s.out := rfl
@[simp] theorem aon_reg_acc a n v (g : Fld) (x y : Nat) : (Prim.apply (.aon a n v) s).reg g x y = s.reg g x y := rfl
@[simp] theorem aon_bit_acc a n v (g : Fld) (x y : Nat) : (Prim.apply (.aon a n v) s).bit g x y = s.bit g x y := rfl
@[simp] theorem aon_core_acc a n v (x : Nat) : (Prim.apply (.aon a n v) s).core x = s.core x := rfl

/-! ### aonKeep -/
@[simp] theorem aonKeep_t p : (Prim.apply (.aonKeep p) s).t = s.t := rfl
@[simp] theorem aonKeep_pending p : (Prim.apply (.aonKeep p) s).pending = s.pending := rfl
@[simp] theorem aonKeep_regs p : (Prim.apply (.aonKeep p) s).regs = s.regs := rfl
@[simp] theorem aonKeep_freeCtr p : (Prim.apply (.aonKeep p) s).freeCtr = s.freeCtr := rfl
@[simp] theorem aonKeep_cores p : (Prim.apply (.aonKeep p) s).cores = s.cores := rfl
@[simp] theorem aonKeep_spad p : (Prim.apply (.aonKeep p) s).spad = s.spad := rfl
@[simp] theorem aonKeep_acc p : (Prim.apply (.aonKeep p) s).acc = s.acc := rfl
@[simp] theorem aonKeep_dram p : (Prim.apply (.aonKeep p) s).dram = s.dram := rfl
@[simp] theorem aonKeep_hubMem p : (Prim.apply (.aonKeep p) s).hubMem = s.hubMem := rfl
@[simp] theorem aonKeep_die p : (Prim.apply (.aonKeep p) s).die = s.die := rfl
@[simp] theorem aonKeep_sch p : (Prim.apply (.aonKeep p) s).sch = s.sch := rfl
@[simp] theorem aonKeep_clk p : (Prim.apply (.aonKeep p) s).clk = s.clk := rfl
@[simp] theorem aonKeep_log p : (Prim.apply (.aonKeep p) s).log = s.log := rfl
@[simp] theorem aonKeep_time p : (Prim.apply (.aonKeep p) s).time = s.time := rfl
@[simp] theorem aonKeep_bus p : (Prim.apply (.aonKeep p) s).bus = s.bus := rfl
@[simp] theorem aonKeep_host p : (Prim.apply (.aonKeep p) s).host = s.host := rfl
@[simp] theorem aonKeep_sec p : (Prim.apply (.aonKeep p) s).sec = s.sec := rfl
@[simp] theorem aonKeep_pkg p : (Prim.apply (.aonKeep p) s).pkg = s.pkg := rfl
@[simp] theorem aonKeep_fab p : (Prim.apply (.aonKeep p) s).fab = s.fab := rfl
@[simp] theorem aonKeep_chr p : (Prim.apply (.aonKeep p) s).chr = s.chr := rfl
@[simp] theorem aonKeep_isp p : (Prim.apply (.aonKeep p) s).isp = s.isp := rfl
@[simp] theorem aonKeep_aud p : (Prim.apply (.aonKeep p) s).aud = s.aud := rfl
@[simp] theorem aonKeep_inp p : (Prim.apply (.aonKeep p) s).inp = s.inp := rfl
@[simp] theorem aonKeep_pwr p : (Prim.apply (.aonKeep p) s).pwr = s.pwr := rfl
@[simp] theorem aonKeep_out p : (Prim.apply (.aonKeep p) s).out = s.out := rfl
@[simp] theorem aonKeep_reg_acc p (g : Fld) (x y : Nat) : (Prim.apply (.aonKeep p) s).reg g x y = s.reg g x y := rfl
@[simp] theorem aonKeep_bit_acc p (g : Fld) (x y : Nat) : (Prim.apply (.aonKeep p) s).bit g x y = s.bit g x y := rfl
@[simp] theorem aonKeep_core_acc p (x : Nat) : (Prim.apply (.aonKeep p) s).core x = s.core x := rfl

/-! ### die -/
@[simp] theorem die_t f : (Prim.apply (.die f) s).t = s.t := rfl
@[simp] theorem die_pending f : (Prim.apply (.die f) s).pending = s.pending := rfl
@[simp] theorem die_regs f : (Prim.apply (.die f) s).regs = s.regs := rfl
@[simp] theorem die_freeCtr f : (Prim.apply (.die f) s).freeCtr = s.freeCtr := rfl
@[simp] theorem die_cores f : (Prim.apply (.die f) s).cores = s.cores := rfl
@[simp] theorem die_spad f : (Prim.apply (.die f) s).spad = s.spad := rfl
@[simp] theorem die_acc f : (Prim.apply (.die f) s).acc = s.acc := rfl
@[simp] theorem die_dram f : (Prim.apply (.die f) s).dram = s.dram := rfl
@[simp] theorem die_hubMem f : (Prim.apply (.die f) s).hubMem = s.hubMem := rfl
@[simp] theorem die_aon f : (Prim.apply (.die f) s).aon = s.aon := rfl
@[simp] theorem die_sch f : (Prim.apply (.die f) s).sch = s.sch := rfl
@[simp] theorem die_clk f : (Prim.apply (.die f) s).clk = s.clk := rfl
@[simp] theorem die_log f : (Prim.apply (.die f) s).log = s.log := rfl
@[simp] theorem die_time f : (Prim.apply (.die f) s).time = s.time := rfl
@[simp] theorem die_bus f : (Prim.apply (.die f) s).bus = s.bus := rfl
@[simp] theorem die_host f : (Prim.apply (.die f) s).host = s.host := rfl
@[simp] theorem die_sec f : (Prim.apply (.die f) s).sec = s.sec := rfl
@[simp] theorem die_pkg f : (Prim.apply (.die f) s).pkg = s.pkg := rfl
@[simp] theorem die_fab f : (Prim.apply (.die f) s).fab = s.fab := rfl
@[simp] theorem die_chr f : (Prim.apply (.die f) s).chr = s.chr := rfl
@[simp] theorem die_isp f : (Prim.apply (.die f) s).isp = s.isp := rfl
@[simp] theorem die_aud f : (Prim.apply (.die f) s).aud = s.aud := rfl
@[simp] theorem die_inp f : (Prim.apply (.die f) s).inp = s.inp := rfl
@[simp] theorem die_pwr f : (Prim.apply (.die f) s).pwr = s.pwr := rfl
@[simp] theorem die_out f : (Prim.apply (.die f) s).out = s.out := rfl
@[simp] theorem die_reg_acc f (g : Fld) (x y : Nat) : (Prim.apply (.die f) s).reg g x y = s.reg g x y := rfl
@[simp] theorem die_bit_acc f (g : Fld) (x y : Nat) : (Prim.apply (.die f) s).bit g x y = s.bit g x y := rfl
@[simp] theorem die_core_acc f (x : Nat) : (Prim.apply (.die f) s).core x = s.core x := rfl

/-! ### sch -/
@[simp] theorem sch_t f : (Prim.apply (.sch f) s).t = s.t := rfl
@[simp] theorem sch_pending f : (Prim.apply (.sch f) s).pending = s.pending := rfl
@[simp] theorem sch_regs f : (Prim.apply (.sch f) s).regs = s.regs := rfl
@[simp] theorem sch_freeCtr f : (Prim.apply (.sch f) s).freeCtr = s.freeCtr := rfl
@[simp] theorem sch_cores f : (Prim.apply (.sch f) s).cores = s.cores := rfl
@[simp] theorem sch_spad f : (Prim.apply (.sch f) s).spad = s.spad := rfl
@[simp] theorem sch_acc f : (Prim.apply (.sch f) s).acc = s.acc := rfl
@[simp] theorem sch_dram f : (Prim.apply (.sch f) s).dram = s.dram := rfl
@[simp] theorem sch_hubMem f : (Prim.apply (.sch f) s).hubMem = s.hubMem := rfl
@[simp] theorem sch_aon f : (Prim.apply (.sch f) s).aon = s.aon := rfl
@[simp] theorem sch_die f : (Prim.apply (.sch f) s).die = s.die := rfl
@[simp] theorem sch_clk f : (Prim.apply (.sch f) s).clk = s.clk := rfl
@[simp] theorem sch_log f : (Prim.apply (.sch f) s).log = s.log := rfl
@[simp] theorem sch_time f : (Prim.apply (.sch f) s).time = s.time := rfl
@[simp] theorem sch_bus f : (Prim.apply (.sch f) s).bus = s.bus := rfl
@[simp] theorem sch_host f : (Prim.apply (.sch f) s).host = s.host := rfl
@[simp] theorem sch_sec f : (Prim.apply (.sch f) s).sec = s.sec := rfl
@[simp] theorem sch_pkg f : (Prim.apply (.sch f) s).pkg = s.pkg := rfl
@[simp] theorem sch_fab f : (Prim.apply (.sch f) s).fab = s.fab := rfl
@[simp] theorem sch_chr f : (Prim.apply (.sch f) s).chr = s.chr := rfl
@[simp] theorem sch_isp f : (Prim.apply (.sch f) s).isp = s.isp := rfl
@[simp] theorem sch_aud f : (Prim.apply (.sch f) s).aud = s.aud := rfl
@[simp] theorem sch_inp f : (Prim.apply (.sch f) s).inp = s.inp := rfl
@[simp] theorem sch_pwr f : (Prim.apply (.sch f) s).pwr = s.pwr := rfl
@[simp] theorem sch_out f : (Prim.apply (.sch f) s).out = s.out := rfl
@[simp] theorem sch_reg_acc f (g : Fld) (x y : Nat) : (Prim.apply (.sch f) s).reg g x y = s.reg g x y := rfl
@[simp] theorem sch_bit_acc f (g : Fld) (x y : Nat) : (Prim.apply (.sch f) s).bit g x y = s.bit g x y := rfl
@[simp] theorem sch_core_acc f (x : Nat) : (Prim.apply (.sch f) s).core x = s.core x := rfl

/-! ### clk -/
@[simp] theorem clk_t d f : (Prim.apply (.clk d f) s).t = s.t := rfl
@[simp] theorem clk_pending d f : (Prim.apply (.clk d f) s).pending = s.pending := rfl
@[simp] theorem clk_regs d f : (Prim.apply (.clk d f) s).regs = s.regs := rfl
@[simp] theorem clk_freeCtr d f : (Prim.apply (.clk d f) s).freeCtr = s.freeCtr := rfl
@[simp] theorem clk_cores d f : (Prim.apply (.clk d f) s).cores = s.cores := rfl
@[simp] theorem clk_spad d f : (Prim.apply (.clk d f) s).spad = s.spad := rfl
@[simp] theorem clk_acc d f : (Prim.apply (.clk d f) s).acc = s.acc := rfl
@[simp] theorem clk_dram d f : (Prim.apply (.clk d f) s).dram = s.dram := rfl
@[simp] theorem clk_hubMem d f : (Prim.apply (.clk d f) s).hubMem = s.hubMem := rfl
@[simp] theorem clk_aon d f : (Prim.apply (.clk d f) s).aon = s.aon := rfl
@[simp] theorem clk_die d f : (Prim.apply (.clk d f) s).die = s.die := rfl
@[simp] theorem clk_sch d f : (Prim.apply (.clk d f) s).sch = s.sch := rfl
@[simp] theorem clk_log d f : (Prim.apply (.clk d f) s).log = s.log := rfl
@[simp] theorem clk_time d f : (Prim.apply (.clk d f) s).time = s.time := rfl
@[simp] theorem clk_bus d f : (Prim.apply (.clk d f) s).bus = s.bus := rfl
@[simp] theorem clk_host d f : (Prim.apply (.clk d f) s).host = s.host := rfl
@[simp] theorem clk_sec d f : (Prim.apply (.clk d f) s).sec = s.sec := rfl
@[simp] theorem clk_pkg d f : (Prim.apply (.clk d f) s).pkg = s.pkg := rfl
@[simp] theorem clk_fab d f : (Prim.apply (.clk d f) s).fab = s.fab := rfl
@[simp] theorem clk_chr d f : (Prim.apply (.clk d f) s).chr = s.chr := rfl
@[simp] theorem clk_isp d f : (Prim.apply (.clk d f) s).isp = s.isp := rfl
@[simp] theorem clk_aud d f : (Prim.apply (.clk d f) s).aud = s.aud := rfl
@[simp] theorem clk_inp d f : (Prim.apply (.clk d f) s).inp = s.inp := rfl
@[simp] theorem clk_pwr d f : (Prim.apply (.clk d f) s).pwr = s.pwr := rfl
@[simp] theorem clk_out d f : (Prim.apply (.clk d f) s).out = s.out := rfl
@[simp] theorem clk_reg_acc d f (g : Fld) (x y : Nat) : (Prim.apply (.clk d f) s).reg g x y = s.reg g x y := rfl
@[simp] theorem clk_bit_acc d f (g : Fld) (x y : Nat) : (Prim.apply (.clk d f) s).bit g x y = s.bit g x y := rfl
@[simp] theorem clk_core_acc d f (x : Nat) : (Prim.apply (.clk d f) s).core x = s.core x := rfl

/-! ### log -/
@[simp] theorem log_t f : (Prim.apply (.log f) s).t = s.t := rfl
@[simp] theorem log_pending f : (Prim.apply (.log f) s).pending = s.pending := rfl
@[simp] theorem log_regs f : (Prim.apply (.log f) s).regs = s.regs := rfl
@[simp] theorem log_freeCtr f : (Prim.apply (.log f) s).freeCtr = s.freeCtr := rfl
@[simp] theorem log_cores f : (Prim.apply (.log f) s).cores = s.cores := rfl
@[simp] theorem log_spad f : (Prim.apply (.log f) s).spad = s.spad := rfl
@[simp] theorem log_acc f : (Prim.apply (.log f) s).acc = s.acc := rfl
@[simp] theorem log_dram f : (Prim.apply (.log f) s).dram = s.dram := rfl
@[simp] theorem log_hubMem f : (Prim.apply (.log f) s).hubMem = s.hubMem := rfl
@[simp] theorem log_aon f : (Prim.apply (.log f) s).aon = s.aon := rfl
@[simp] theorem log_die f : (Prim.apply (.log f) s).die = s.die := rfl
@[simp] theorem log_sch f : (Prim.apply (.log f) s).sch = s.sch := rfl
@[simp] theorem log_clk f : (Prim.apply (.log f) s).clk = s.clk := rfl
@[simp] theorem log_time f : (Prim.apply (.log f) s).time = s.time := rfl
@[simp] theorem log_bus f : (Prim.apply (.log f) s).bus = s.bus := rfl
@[simp] theorem log_host f : (Prim.apply (.log f) s).host = s.host := rfl
@[simp] theorem log_sec f : (Prim.apply (.log f) s).sec = s.sec := rfl
@[simp] theorem log_pkg f : (Prim.apply (.log f) s).pkg = s.pkg := rfl
@[simp] theorem log_fab f : (Prim.apply (.log f) s).fab = s.fab := rfl
@[simp] theorem log_chr f : (Prim.apply (.log f) s).chr = s.chr := rfl
@[simp] theorem log_isp f : (Prim.apply (.log f) s).isp = s.isp := rfl
@[simp] theorem log_aud f : (Prim.apply (.log f) s).aud = s.aud := rfl
@[simp] theorem log_inp f : (Prim.apply (.log f) s).inp = s.inp := rfl
@[simp] theorem log_pwr f : (Prim.apply (.log f) s).pwr = s.pwr := rfl
@[simp] theorem log_out f : (Prim.apply (.log f) s).out = s.out := rfl
@[simp] theorem log_reg_acc f (g : Fld) (x y : Nat) : (Prim.apply (.log f) s).reg g x y = s.reg g x y := rfl
@[simp] theorem log_bit_acc f (g : Fld) (x y : Nat) : (Prim.apply (.log f) s).bit g x y = s.bit g x y := rfl
@[simp] theorem log_core_acc f (x : Nat) : (Prim.apply (.log f) s).core x = s.core x := rfl

/-! ### time -/
@[simp] theorem time_t f : (Prim.apply (.time f) s).t = s.t := rfl
@[simp] theorem time_pending f : (Prim.apply (.time f) s).pending = s.pending := rfl
@[simp] theorem time_regs f : (Prim.apply (.time f) s).regs = s.regs := rfl
@[simp] theorem time_freeCtr f : (Prim.apply (.time f) s).freeCtr = s.freeCtr := rfl
@[simp] theorem time_cores f : (Prim.apply (.time f) s).cores = s.cores := rfl
@[simp] theorem time_spad f : (Prim.apply (.time f) s).spad = s.spad := rfl
@[simp] theorem time_acc f : (Prim.apply (.time f) s).acc = s.acc := rfl
@[simp] theorem time_dram f : (Prim.apply (.time f) s).dram = s.dram := rfl
@[simp] theorem time_hubMem f : (Prim.apply (.time f) s).hubMem = s.hubMem := rfl
@[simp] theorem time_aon f : (Prim.apply (.time f) s).aon = s.aon := rfl
@[simp] theorem time_die f : (Prim.apply (.time f) s).die = s.die := rfl
@[simp] theorem time_sch f : (Prim.apply (.time f) s).sch = s.sch := rfl
@[simp] theorem time_clk f : (Prim.apply (.time f) s).clk = s.clk := rfl
@[simp] theorem time_log f : (Prim.apply (.time f) s).log = s.log := rfl
@[simp] theorem time_bus f : (Prim.apply (.time f) s).bus = s.bus := rfl
@[simp] theorem time_host f : (Prim.apply (.time f) s).host = s.host := rfl
@[simp] theorem time_sec f : (Prim.apply (.time f) s).sec = s.sec := rfl
@[simp] theorem time_pkg f : (Prim.apply (.time f) s).pkg = s.pkg := rfl
@[simp] theorem time_fab f : (Prim.apply (.time f) s).fab = s.fab := rfl
@[simp] theorem time_chr f : (Prim.apply (.time f) s).chr = s.chr := rfl
@[simp] theorem time_isp f : (Prim.apply (.time f) s).isp = s.isp := rfl
@[simp] theorem time_aud f : (Prim.apply (.time f) s).aud = s.aud := rfl
@[simp] theorem time_inp f : (Prim.apply (.time f) s).inp = s.inp := rfl
@[simp] theorem time_pwr f : (Prim.apply (.time f) s).pwr = s.pwr := rfl
@[simp] theorem time_out f : (Prim.apply (.time f) s).out = s.out := rfl
@[simp] theorem time_reg_acc f (g : Fld) (x y : Nat) : (Prim.apply (.time f) s).reg g x y = s.reg g x y := rfl
@[simp] theorem time_bit_acc f (g : Fld) (x y : Nat) : (Prim.apply (.time f) s).bit g x y = s.bit g x y := rfl
@[simp] theorem time_core_acc f (x : Nat) : (Prim.apply (.time f) s).core x = s.core x := rfl

/-! ### bus -/
@[simp] theorem bus_t f : (Prim.apply (.bus f) s).t = s.t := rfl
@[simp] theorem bus_pending f : (Prim.apply (.bus f) s).pending = s.pending := rfl
@[simp] theorem bus_regs f : (Prim.apply (.bus f) s).regs = s.regs := rfl
@[simp] theorem bus_freeCtr f : (Prim.apply (.bus f) s).freeCtr = s.freeCtr := rfl
@[simp] theorem bus_cores f : (Prim.apply (.bus f) s).cores = s.cores := rfl
@[simp] theorem bus_spad f : (Prim.apply (.bus f) s).spad = s.spad := rfl
@[simp] theorem bus_acc f : (Prim.apply (.bus f) s).acc = s.acc := rfl
@[simp] theorem bus_dram f : (Prim.apply (.bus f) s).dram = s.dram := rfl
@[simp] theorem bus_hubMem f : (Prim.apply (.bus f) s).hubMem = s.hubMem := rfl
@[simp] theorem bus_aon f : (Prim.apply (.bus f) s).aon = s.aon := rfl
@[simp] theorem bus_die f : (Prim.apply (.bus f) s).die = s.die := rfl
@[simp] theorem bus_sch f : (Prim.apply (.bus f) s).sch = s.sch := rfl
@[simp] theorem bus_clk f : (Prim.apply (.bus f) s).clk = s.clk := rfl
@[simp] theorem bus_log f : (Prim.apply (.bus f) s).log = s.log := rfl
@[simp] theorem bus_time f : (Prim.apply (.bus f) s).time = s.time := rfl
@[simp] theorem bus_host f : (Prim.apply (.bus f) s).host = s.host := rfl
@[simp] theorem bus_sec f : (Prim.apply (.bus f) s).sec = s.sec := rfl
@[simp] theorem bus_pkg f : (Prim.apply (.bus f) s).pkg = s.pkg := rfl
@[simp] theorem bus_fab f : (Prim.apply (.bus f) s).fab = s.fab := rfl
@[simp] theorem bus_chr f : (Prim.apply (.bus f) s).chr = s.chr := rfl
@[simp] theorem bus_isp f : (Prim.apply (.bus f) s).isp = s.isp := rfl
@[simp] theorem bus_aud f : (Prim.apply (.bus f) s).aud = s.aud := rfl
@[simp] theorem bus_inp f : (Prim.apply (.bus f) s).inp = s.inp := rfl
@[simp] theorem bus_pwr f : (Prim.apply (.bus f) s).pwr = s.pwr := rfl
@[simp] theorem bus_out f : (Prim.apply (.bus f) s).out = s.out := rfl
@[simp] theorem bus_reg_acc f (g : Fld) (x y : Nat) : (Prim.apply (.bus f) s).reg g x y = s.reg g x y := rfl
@[simp] theorem bus_bit_acc f (g : Fld) (x y : Nat) : (Prim.apply (.bus f) s).bit g x y = s.bit g x y := rfl
@[simp] theorem bus_core_acc f (x : Nat) : (Prim.apply (.bus f) s).core x = s.core x := rfl

/-! ### host -/
@[simp] theorem host_t f : (Prim.apply (.host f) s).t = s.t := rfl
@[simp] theorem host_pending f : (Prim.apply (.host f) s).pending = s.pending := rfl
@[simp] theorem host_regs f : (Prim.apply (.host f) s).regs = s.regs := rfl
@[simp] theorem host_freeCtr f : (Prim.apply (.host f) s).freeCtr = s.freeCtr := rfl
@[simp] theorem host_cores f : (Prim.apply (.host f) s).cores = s.cores := rfl
@[simp] theorem host_spad f : (Prim.apply (.host f) s).spad = s.spad := rfl
@[simp] theorem host_acc f : (Prim.apply (.host f) s).acc = s.acc := rfl
@[simp] theorem host_dram f : (Prim.apply (.host f) s).dram = s.dram := rfl
@[simp] theorem host_hubMem f : (Prim.apply (.host f) s).hubMem = s.hubMem := rfl
@[simp] theorem host_aon f : (Prim.apply (.host f) s).aon = s.aon := rfl
@[simp] theorem host_die f : (Prim.apply (.host f) s).die = s.die := rfl
@[simp] theorem host_sch f : (Prim.apply (.host f) s).sch = s.sch := rfl
@[simp] theorem host_clk f : (Prim.apply (.host f) s).clk = s.clk := rfl
@[simp] theorem host_log f : (Prim.apply (.host f) s).log = s.log := rfl
@[simp] theorem host_time f : (Prim.apply (.host f) s).time = s.time := rfl
@[simp] theorem host_bus f : (Prim.apply (.host f) s).bus = s.bus := rfl
@[simp] theorem host_sec f : (Prim.apply (.host f) s).sec = s.sec := rfl
@[simp] theorem host_pkg f : (Prim.apply (.host f) s).pkg = s.pkg := rfl
@[simp] theorem host_fab f : (Prim.apply (.host f) s).fab = s.fab := rfl
@[simp] theorem host_chr f : (Prim.apply (.host f) s).chr = s.chr := rfl
@[simp] theorem host_isp f : (Prim.apply (.host f) s).isp = s.isp := rfl
@[simp] theorem host_aud f : (Prim.apply (.host f) s).aud = s.aud := rfl
@[simp] theorem host_inp f : (Prim.apply (.host f) s).inp = s.inp := rfl
@[simp] theorem host_pwr f : (Prim.apply (.host f) s).pwr = s.pwr := rfl
@[simp] theorem host_out f : (Prim.apply (.host f) s).out = s.out := rfl
@[simp] theorem host_reg_acc f (g : Fld) (x y : Nat) : (Prim.apply (.host f) s).reg g x y = s.reg g x y := rfl
@[simp] theorem host_bit_acc f (g : Fld) (x y : Nat) : (Prim.apply (.host f) s).bit g x y = s.bit g x y := rfl
@[simp] theorem host_core_acc f (x : Nat) : (Prim.apply (.host f) s).core x = s.core x := rfl

/-! ### sec -/
@[simp] theorem sec_t f : (Prim.apply (.sec f) s).t = s.t := rfl
@[simp] theorem sec_pending f : (Prim.apply (.sec f) s).pending = s.pending := rfl
@[simp] theorem sec_regs f : (Prim.apply (.sec f) s).regs = s.regs := rfl
@[simp] theorem sec_freeCtr f : (Prim.apply (.sec f) s).freeCtr = s.freeCtr := rfl
@[simp] theorem sec_cores f : (Prim.apply (.sec f) s).cores = s.cores := rfl
@[simp] theorem sec_spad f : (Prim.apply (.sec f) s).spad = s.spad := rfl
@[simp] theorem sec_acc f : (Prim.apply (.sec f) s).acc = s.acc := rfl
@[simp] theorem sec_dram f : (Prim.apply (.sec f) s).dram = s.dram := rfl
@[simp] theorem sec_hubMem f : (Prim.apply (.sec f) s).hubMem = s.hubMem := rfl
@[simp] theorem sec_aon f : (Prim.apply (.sec f) s).aon = s.aon := rfl
@[simp] theorem sec_die f : (Prim.apply (.sec f) s).die = s.die := rfl
@[simp] theorem sec_sch f : (Prim.apply (.sec f) s).sch = s.sch := rfl
@[simp] theorem sec_clk f : (Prim.apply (.sec f) s).clk = s.clk := rfl
@[simp] theorem sec_log f : (Prim.apply (.sec f) s).log = s.log := rfl
@[simp] theorem sec_time f : (Prim.apply (.sec f) s).time = s.time := rfl
@[simp] theorem sec_bus f : (Prim.apply (.sec f) s).bus = s.bus := rfl
@[simp] theorem sec_host f : (Prim.apply (.sec f) s).host = s.host := rfl
@[simp] theorem sec_pkg f : (Prim.apply (.sec f) s).pkg = s.pkg := rfl
@[simp] theorem sec_fab f : (Prim.apply (.sec f) s).fab = s.fab := rfl
@[simp] theorem sec_chr f : (Prim.apply (.sec f) s).chr = s.chr := rfl
@[simp] theorem sec_isp f : (Prim.apply (.sec f) s).isp = s.isp := rfl
@[simp] theorem sec_aud f : (Prim.apply (.sec f) s).aud = s.aud := rfl
@[simp] theorem sec_inp f : (Prim.apply (.sec f) s).inp = s.inp := rfl
@[simp] theorem sec_pwr f : (Prim.apply (.sec f) s).pwr = s.pwr := rfl
@[simp] theorem sec_out f : (Prim.apply (.sec f) s).out = s.out := rfl
@[simp] theorem sec_reg_acc f (g : Fld) (x y : Nat) : (Prim.apply (.sec f) s).reg g x y = s.reg g x y := rfl
@[simp] theorem sec_bit_acc f (g : Fld) (x y : Nat) : (Prim.apply (.sec f) s).bit g x y = s.bit g x y := rfl
@[simp] theorem sec_core_acc f (x : Nat) : (Prim.apply (.sec f) s).core x = s.core x := rfl

/-! ### pkg -/
@[simp] theorem pkg_t f : (Prim.apply (.pkg f) s).t = s.t := rfl
@[simp] theorem pkg_pending f : (Prim.apply (.pkg f) s).pending = s.pending := rfl
@[simp] theorem pkg_regs f : (Prim.apply (.pkg f) s).regs = s.regs := rfl
@[simp] theorem pkg_freeCtr f : (Prim.apply (.pkg f) s).freeCtr = s.freeCtr := rfl
@[simp] theorem pkg_cores f : (Prim.apply (.pkg f) s).cores = s.cores := rfl
@[simp] theorem pkg_spad f : (Prim.apply (.pkg f) s).spad = s.spad := rfl
@[simp] theorem pkg_acc f : (Prim.apply (.pkg f) s).acc = s.acc := rfl
@[simp] theorem pkg_dram f : (Prim.apply (.pkg f) s).dram = s.dram := rfl
@[simp] theorem pkg_hubMem f : (Prim.apply (.pkg f) s).hubMem = s.hubMem := rfl
@[simp] theorem pkg_aon f : (Prim.apply (.pkg f) s).aon = s.aon := rfl
@[simp] theorem pkg_die f : (Prim.apply (.pkg f) s).die = s.die := rfl
@[simp] theorem pkg_sch f : (Prim.apply (.pkg f) s).sch = s.sch := rfl
@[simp] theorem pkg_clk f : (Prim.apply (.pkg f) s).clk = s.clk := rfl
@[simp] theorem pkg_log f : (Prim.apply (.pkg f) s).log = s.log := rfl
@[simp] theorem pkg_time f : (Prim.apply (.pkg f) s).time = s.time := rfl
@[simp] theorem pkg_bus f : (Prim.apply (.pkg f) s).bus = s.bus := rfl
@[simp] theorem pkg_host f : (Prim.apply (.pkg f) s).host = s.host := rfl
@[simp] theorem pkg_sec f : (Prim.apply (.pkg f) s).sec = s.sec := rfl
@[simp] theorem pkg_fab f : (Prim.apply (.pkg f) s).fab = s.fab := rfl
@[simp] theorem pkg_chr f : (Prim.apply (.pkg f) s).chr = s.chr := rfl
@[simp] theorem pkg_isp f : (Prim.apply (.pkg f) s).isp = s.isp := rfl
@[simp] theorem pkg_aud f : (Prim.apply (.pkg f) s).aud = s.aud := rfl
@[simp] theorem pkg_inp f : (Prim.apply (.pkg f) s).inp = s.inp := rfl
@[simp] theorem pkg_pwr f : (Prim.apply (.pkg f) s).pwr = s.pwr := rfl
@[simp] theorem pkg_out f : (Prim.apply (.pkg f) s).out = s.out := rfl
@[simp] theorem pkg_reg_acc f (g : Fld) (x y : Nat) : (Prim.apply (.pkg f) s).reg g x y = s.reg g x y := rfl
@[simp] theorem pkg_bit_acc f (g : Fld) (x y : Nat) : (Prim.apply (.pkg f) s).bit g x y = s.bit g x y := rfl
@[simp] theorem pkg_core_acc f (x : Nat) : (Prim.apply (.pkg f) s).core x = s.core x := rfl

/-! ### fab -/
@[simp] theorem fab_t f : (Prim.apply (.fab f) s).t = s.t := rfl
@[simp] theorem fab_pending f : (Prim.apply (.fab f) s).pending = s.pending := rfl
@[simp] theorem fab_regs f : (Prim.apply (.fab f) s).regs = s.regs := rfl
@[simp] theorem fab_freeCtr f : (Prim.apply (.fab f) s).freeCtr = s.freeCtr := rfl
@[simp] theorem fab_cores f : (Prim.apply (.fab f) s).cores = s.cores := rfl
@[simp] theorem fab_spad f : (Prim.apply (.fab f) s).spad = s.spad := rfl
@[simp] theorem fab_acc f : (Prim.apply (.fab f) s).acc = s.acc := rfl
@[simp] theorem fab_dram f : (Prim.apply (.fab f) s).dram = s.dram := rfl
@[simp] theorem fab_hubMem f : (Prim.apply (.fab f) s).hubMem = s.hubMem := rfl
@[simp] theorem fab_aon f : (Prim.apply (.fab f) s).aon = s.aon := rfl
@[simp] theorem fab_die f : (Prim.apply (.fab f) s).die = s.die := rfl
@[simp] theorem fab_sch f : (Prim.apply (.fab f) s).sch = s.sch := rfl
@[simp] theorem fab_clk f : (Prim.apply (.fab f) s).clk = s.clk := rfl
@[simp] theorem fab_log f : (Prim.apply (.fab f) s).log = s.log := rfl
@[simp] theorem fab_time f : (Prim.apply (.fab f) s).time = s.time := rfl
@[simp] theorem fab_bus f : (Prim.apply (.fab f) s).bus = s.bus := rfl
@[simp] theorem fab_host f : (Prim.apply (.fab f) s).host = s.host := rfl
@[simp] theorem fab_sec f : (Prim.apply (.fab f) s).sec = s.sec := rfl
@[simp] theorem fab_pkg f : (Prim.apply (.fab f) s).pkg = s.pkg := rfl
@[simp] theorem fab_chr f : (Prim.apply (.fab f) s).chr = s.chr := rfl
@[simp] theorem fab_isp f : (Prim.apply (.fab f) s).isp = s.isp := rfl
@[simp] theorem fab_aud f : (Prim.apply (.fab f) s).aud = s.aud := rfl
@[simp] theorem fab_inp f : (Prim.apply (.fab f) s).inp = s.inp := rfl
@[simp] theorem fab_pwr f : (Prim.apply (.fab f) s).pwr = s.pwr := rfl
@[simp] theorem fab_out f : (Prim.apply (.fab f) s).out = s.out := rfl
@[simp] theorem fab_reg_acc f (g : Fld) (x y : Nat) : (Prim.apply (.fab f) s).reg g x y = s.reg g x y := rfl
@[simp] theorem fab_bit_acc f (g : Fld) (x y : Nat) : (Prim.apply (.fab f) s).bit g x y = s.bit g x y := rfl
@[simp] theorem fab_core_acc f (x : Nat) : (Prim.apply (.fab f) s).core x = s.core x := rfl

/-! ### chr -/
@[simp] theorem chr_t l f : (Prim.apply (.chr l f) s).t = s.t := rfl
@[simp] theorem chr_pending l f : (Prim.apply (.chr l f) s).pending = s.pending := rfl
@[simp] theorem chr_regs l f : (Prim.apply (.chr l f) s).regs = s.regs := rfl
@[simp] theorem chr_freeCtr l f : (Prim.apply (.chr l f) s).freeCtr = s.freeCtr := rfl
@[simp] theorem chr_cores l f : (Prim.apply (.chr l f) s).cores = s.cores := rfl
@[simp] theorem chr_spad l f : (Prim.apply (.chr l f) s).spad = s.spad := rfl
@[simp] theorem chr_acc l f : (Prim.apply (.chr l f) s).acc = s.acc := rfl
@[simp] theorem chr_dram l f : (Prim.apply (.chr l f) s).dram = s.dram := rfl
@[simp] theorem chr_hubMem l f : (Prim.apply (.chr l f) s).hubMem = s.hubMem := rfl
@[simp] theorem chr_aon l f : (Prim.apply (.chr l f) s).aon = s.aon := rfl
@[simp] theorem chr_die l f : (Prim.apply (.chr l f) s).die = s.die := rfl
@[simp] theorem chr_sch l f : (Prim.apply (.chr l f) s).sch = s.sch := rfl
@[simp] theorem chr_clk l f : (Prim.apply (.chr l f) s).clk = s.clk := rfl
@[simp] theorem chr_log l f : (Prim.apply (.chr l f) s).log = s.log := rfl
@[simp] theorem chr_time l f : (Prim.apply (.chr l f) s).time = s.time := rfl
@[simp] theorem chr_bus l f : (Prim.apply (.chr l f) s).bus = s.bus := rfl
@[simp] theorem chr_host l f : (Prim.apply (.chr l f) s).host = s.host := rfl
@[simp] theorem chr_sec l f : (Prim.apply (.chr l f) s).sec = s.sec := rfl
@[simp] theorem chr_pkg l f : (Prim.apply (.chr l f) s).pkg = s.pkg := rfl
@[simp] theorem chr_fab l f : (Prim.apply (.chr l f) s).fab = s.fab := rfl
@[simp] theorem chr_isp l f : (Prim.apply (.chr l f) s).isp = s.isp := rfl
@[simp] theorem chr_aud l f : (Prim.apply (.chr l f) s).aud = s.aud := rfl
@[simp] theorem chr_inp l f : (Prim.apply (.chr l f) s).inp = s.inp := rfl
@[simp] theorem chr_pwr l f : (Prim.apply (.chr l f) s).pwr = s.pwr := rfl
@[simp] theorem chr_out l f : (Prim.apply (.chr l f) s).out = s.out := rfl
@[simp] theorem chr_reg_acc l f (g : Fld) (x y : Nat) : (Prim.apply (.chr l f) s).reg g x y = s.reg g x y := rfl
@[simp] theorem chr_bit_acc l f (g : Fld) (x y : Nat) : (Prim.apply (.chr l f) s).bit g x y = s.bit g x y := rfl
@[simp] theorem chr_core_acc l f (x : Nat) : (Prim.apply (.chr l f) s).core x = s.core x := rfl

/-! ### isp -/
@[simp] theorem isp_t f : (Prim.apply (.isp f) s).t = s.t := rfl
@[simp] theorem isp_pending f : (Prim.apply (.isp f) s).pending = s.pending := rfl
@[simp] theorem isp_regs f : (Prim.apply (.isp f) s).regs = s.regs := rfl
@[simp] theorem isp_freeCtr f : (Prim.apply (.isp f) s).freeCtr = s.freeCtr := rfl
@[simp] theorem isp_cores f : (Prim.apply (.isp f) s).cores = s.cores := rfl
@[simp] theorem isp_spad f : (Prim.apply (.isp f) s).spad = s.spad := rfl
@[simp] theorem isp_acc f : (Prim.apply (.isp f) s).acc = s.acc := rfl
@[simp] theorem isp_dram f : (Prim.apply (.isp f) s).dram = s.dram := rfl
@[simp] theorem isp_hubMem f : (Prim.apply (.isp f) s).hubMem = s.hubMem := rfl
@[simp] theorem isp_aon f : (Prim.apply (.isp f) s).aon = s.aon := rfl
@[simp] theorem isp_die f : (Prim.apply (.isp f) s).die = s.die := rfl
@[simp] theorem isp_sch f : (Prim.apply (.isp f) s).sch = s.sch := rfl
@[simp] theorem isp_clk f : (Prim.apply (.isp f) s).clk = s.clk := rfl
@[simp] theorem isp_log f : (Prim.apply (.isp f) s).log = s.log := rfl
@[simp] theorem isp_time f : (Prim.apply (.isp f) s).time = s.time := rfl
@[simp] theorem isp_bus f : (Prim.apply (.isp f) s).bus = s.bus := rfl
@[simp] theorem isp_host f : (Prim.apply (.isp f) s).host = s.host := rfl
@[simp] theorem isp_sec f : (Prim.apply (.isp f) s).sec = s.sec := rfl
@[simp] theorem isp_pkg f : (Prim.apply (.isp f) s).pkg = s.pkg := rfl
@[simp] theorem isp_fab f : (Prim.apply (.isp f) s).fab = s.fab := rfl
@[simp] theorem isp_chr f : (Prim.apply (.isp f) s).chr = s.chr := rfl
@[simp] theorem isp_aud f : (Prim.apply (.isp f) s).aud = s.aud := rfl
@[simp] theorem isp_inp f : (Prim.apply (.isp f) s).inp = s.inp := rfl
@[simp] theorem isp_pwr f : (Prim.apply (.isp f) s).pwr = s.pwr := rfl
@[simp] theorem isp_out f : (Prim.apply (.isp f) s).out = s.out := rfl
@[simp] theorem isp_reg_acc f (g : Fld) (x y : Nat) : (Prim.apply (.isp f) s).reg g x y = s.reg g x y := rfl
@[simp] theorem isp_bit_acc f (g : Fld) (x y : Nat) : (Prim.apply (.isp f) s).bit g x y = s.bit g x y := rfl
@[simp] theorem isp_core_acc f (x : Nat) : (Prim.apply (.isp f) s).core x = s.core x := rfl

/-! ### aud -/
@[simp] theorem aud_t f : (Prim.apply (.aud f) s).t = s.t := rfl
@[simp] theorem aud_pending f : (Prim.apply (.aud f) s).pending = s.pending := rfl
@[simp] theorem aud_regs f : (Prim.apply (.aud f) s).regs = s.regs := rfl
@[simp] theorem aud_freeCtr f : (Prim.apply (.aud f) s).freeCtr = s.freeCtr := rfl
@[simp] theorem aud_cores f : (Prim.apply (.aud f) s).cores = s.cores := rfl
@[simp] theorem aud_spad f : (Prim.apply (.aud f) s).spad = s.spad := rfl
@[simp] theorem aud_acc f : (Prim.apply (.aud f) s).acc = s.acc := rfl
@[simp] theorem aud_dram f : (Prim.apply (.aud f) s).dram = s.dram := rfl
@[simp] theorem aud_hubMem f : (Prim.apply (.aud f) s).hubMem = s.hubMem := rfl
@[simp] theorem aud_aon f : (Prim.apply (.aud f) s).aon = s.aon := rfl
@[simp] theorem aud_die f : (Prim.apply (.aud f) s).die = s.die := rfl
@[simp] theorem aud_sch f : (Prim.apply (.aud f) s).sch = s.sch := rfl
@[simp] theorem aud_clk f : (Prim.apply (.aud f) s).clk = s.clk := rfl
@[simp] theorem aud_log f : (Prim.apply (.aud f) s).log = s.log := rfl
@[simp] theorem aud_time f : (Prim.apply (.aud f) s).time = s.time := rfl
@[simp] theorem aud_bus f : (Prim.apply (.aud f) s).bus = s.bus := rfl
@[simp] theorem aud_host f : (Prim.apply (.aud f) s).host = s.host := rfl
@[simp] theorem aud_sec f : (Prim.apply (.aud f) s).sec = s.sec := rfl
@[simp] theorem aud_pkg f : (Prim.apply (.aud f) s).pkg = s.pkg := rfl
@[simp] theorem aud_fab f : (Prim.apply (.aud f) s).fab = s.fab := rfl
@[simp] theorem aud_chr f : (Prim.apply (.aud f) s).chr = s.chr := rfl
@[simp] theorem aud_isp f : (Prim.apply (.aud f) s).isp = s.isp := rfl
@[simp] theorem aud_inp f : (Prim.apply (.aud f) s).inp = s.inp := rfl
@[simp] theorem aud_pwr f : (Prim.apply (.aud f) s).pwr = s.pwr := rfl
@[simp] theorem aud_out f : (Prim.apply (.aud f) s).out = s.out := rfl
@[simp] theorem aud_reg_acc f (g : Fld) (x y : Nat) : (Prim.apply (.aud f) s).reg g x y = s.reg g x y := rfl
@[simp] theorem aud_bit_acc f (g : Fld) (x y : Nat) : (Prim.apply (.aud f) s).bit g x y = s.bit g x y := rfl
@[simp] theorem aud_core_acc f (x : Nat) : (Prim.apply (.aud f) s).core x = s.core x := rfl

/-! ### inp -/
@[simp] theorem inp_t n f : (Prim.apply (.inp n f) s).t = s.t := rfl
@[simp] theorem inp_pending n f : (Prim.apply (.inp n f) s).pending = s.pending := rfl
@[simp] theorem inp_regs n f : (Prim.apply (.inp n f) s).regs = s.regs := rfl
@[simp] theorem inp_freeCtr n f : (Prim.apply (.inp n f) s).freeCtr = s.freeCtr := rfl
@[simp] theorem inp_cores n f : (Prim.apply (.inp n f) s).cores = s.cores := rfl
@[simp] theorem inp_spad n f : (Prim.apply (.inp n f) s).spad = s.spad := rfl
@[simp] theorem inp_acc n f : (Prim.apply (.inp n f) s).acc = s.acc := rfl
@[simp] theorem inp_dram n f : (Prim.apply (.inp n f) s).dram = s.dram := rfl
@[simp] theorem inp_hubMem n f : (Prim.apply (.inp n f) s).hubMem = s.hubMem := rfl
@[simp] theorem inp_aon n f : (Prim.apply (.inp n f) s).aon = s.aon := rfl
@[simp] theorem inp_die n f : (Prim.apply (.inp n f) s).die = s.die := rfl
@[simp] theorem inp_sch n f : (Prim.apply (.inp n f) s).sch = s.sch := rfl
@[simp] theorem inp_clk n f : (Prim.apply (.inp n f) s).clk = s.clk := rfl
@[simp] theorem inp_log n f : (Prim.apply (.inp n f) s).log = s.log := rfl
@[simp] theorem inp_time n f : (Prim.apply (.inp n f) s).time = s.time := rfl
@[simp] theorem inp_bus n f : (Prim.apply (.inp n f) s).bus = s.bus := rfl
@[simp] theorem inp_host n f : (Prim.apply (.inp n f) s).host = s.host := rfl
@[simp] theorem inp_sec n f : (Prim.apply (.inp n f) s).sec = s.sec := rfl
@[simp] theorem inp_pkg n f : (Prim.apply (.inp n f) s).pkg = s.pkg := rfl
@[simp] theorem inp_fab n f : (Prim.apply (.inp n f) s).fab = s.fab := rfl
@[simp] theorem inp_chr n f : (Prim.apply (.inp n f) s).chr = s.chr := rfl
@[simp] theorem inp_isp n f : (Prim.apply (.inp n f) s).isp = s.isp := rfl
@[simp] theorem inp_aud n f : (Prim.apply (.inp n f) s).aud = s.aud := rfl
@[simp] theorem inp_pwr n f : (Prim.apply (.inp n f) s).pwr = s.pwr := rfl
@[simp] theorem inp_out n f : (Prim.apply (.inp n f) s).out = s.out := rfl
@[simp] theorem inp_reg_acc n f (g : Fld) (x y : Nat) : (Prim.apply (.inp n f) s).reg g x y = s.reg g x y := rfl
@[simp] theorem inp_bit_acc n f (g : Fld) (x y : Nat) : (Prim.apply (.inp n f) s).bit g x y = s.bit g x y := rfl
@[simp] theorem inp_core_acc n f (x : Nat) : (Prim.apply (.inp n f) s).core x = s.core x := rfl

/-! ### pwr -/
@[simp] theorem pwr_t f : (Prim.apply (.pwr f) s).t = s.t := rfl
@[simp] theorem pwr_pending f : (Prim.apply (.pwr f) s).pending = s.pending := rfl
@[simp] theorem pwr_regs f : (Prim.apply (.pwr f) s).regs = s.regs := rfl
@[simp] theorem pwr_freeCtr f : (Prim.apply (.pwr f) s).freeCtr = s.freeCtr := rfl
@[simp] theorem pwr_cores f : (Prim.apply (.pwr f) s).cores = s.cores := rfl
@[simp] theorem pwr_spad f : (Prim.apply (.pwr f) s).spad = s.spad := rfl
@[simp] theorem pwr_acc f : (Prim.apply (.pwr f) s).acc = s.acc := rfl
@[simp] theorem pwr_dram f : (Prim.apply (.pwr f) s).dram = s.dram := rfl
@[simp] theorem pwr_hubMem f : (Prim.apply (.pwr f) s).hubMem = s.hubMem := rfl
@[simp] theorem pwr_aon f : (Prim.apply (.pwr f) s).aon = s.aon := rfl
@[simp] theorem pwr_die f : (Prim.apply (.pwr f) s).die = s.die := rfl
@[simp] theorem pwr_sch f : (Prim.apply (.pwr f) s).sch = s.sch := rfl
@[simp] theorem pwr_clk f : (Prim.apply (.pwr f) s).clk = s.clk := rfl
@[simp] theorem pwr_log f : (Prim.apply (.pwr f) s).log = s.log := rfl
@[simp] theorem pwr_time f : (Prim.apply (.pwr f) s).time = s.time := rfl
@[simp] theorem pwr_bus f : (Prim.apply (.pwr f) s).bus = s.bus := rfl
@[simp] theorem pwr_host f : (Prim.apply (.pwr f) s).host = s.host := rfl
@[simp] theorem pwr_sec f : (Prim.apply (.pwr f) s).sec = s.sec := rfl
@[simp] theorem pwr_pkg f : (Prim.apply (.pwr f) s).pkg = s.pkg := rfl
@[simp] theorem pwr_fab f : (Prim.apply (.pwr f) s).fab = s.fab := rfl
@[simp] theorem pwr_chr f : (Prim.apply (.pwr f) s).chr = s.chr := rfl
@[simp] theorem pwr_isp f : (Prim.apply (.pwr f) s).isp = s.isp := rfl
@[simp] theorem pwr_aud f : (Prim.apply (.pwr f) s).aud = s.aud := rfl
@[simp] theorem pwr_inp f : (Prim.apply (.pwr f) s).inp = s.inp := rfl
@[simp] theorem pwr_out f : (Prim.apply (.pwr f) s).out = s.out := rfl
@[simp] theorem pwr_reg_acc f (g : Fld) (x y : Nat) : (Prim.apply (.pwr f) s).reg g x y = s.reg g x y := rfl
@[simp] theorem pwr_bit_acc f (g : Fld) (x y : Nat) : (Prim.apply (.pwr f) s).bit g x y = s.bit g x y := rfl
@[simp] theorem pwr_core_acc f (x : Nat) : (Prim.apply (.pwr f) s).core x = s.core x := rfl

/-! ### out -/
@[simp] theorem out_t o : (Prim.apply (.out o) s).t = s.t := rfl
@[simp] theorem out_pending o : (Prim.apply (.out o) s).pending = s.pending := rfl
@[simp] theorem out_regs o : (Prim.apply (.out o) s).regs = s.regs := rfl
@[simp] theorem out_freeCtr o : (Prim.apply (.out o) s).freeCtr = s.freeCtr := rfl
@[simp] theorem out_cores o : (Prim.apply (.out o) s).cores = s.cores := rfl
@[simp] theorem out_spad o : (Prim.apply (.out o) s).spad = s.spad := rfl
@[simp] theorem out_acc o : (Prim.apply (.out o) s).acc = s.acc := rfl
@[simp] theorem out_dram o : (Prim.apply (.out o) s).dram = s.dram := rfl
@[simp] theorem out_hubMem o : (Prim.apply (.out o) s).hubMem = s.hubMem := rfl
@[simp] theorem out_aon o : (Prim.apply (.out o) s).aon = s.aon := rfl
@[simp] theorem out_die o : (Prim.apply (.out o) s).die = s.die := rfl
@[simp] theorem out_sch o : (Prim.apply (.out o) s).sch = s.sch := rfl
@[simp] theorem out_clk o : (Prim.apply (.out o) s).clk = s.clk := rfl
@[simp] theorem out_log o : (Prim.apply (.out o) s).log = s.log := rfl
@[simp] theorem out_time o : (Prim.apply (.out o) s).time = s.time := rfl
@[simp] theorem out_bus o : (Prim.apply (.out o) s).bus = s.bus := rfl
@[simp] theorem out_host o : (Prim.apply (.out o) s).host = s.host := rfl
@[simp] theorem out_sec o : (Prim.apply (.out o) s).sec = s.sec := rfl
@[simp] theorem out_pkg o : (Prim.apply (.out o) s).pkg = s.pkg := rfl
@[simp] theorem out_fab o : (Prim.apply (.out o) s).fab = s.fab := rfl
@[simp] theorem out_chr o : (Prim.apply (.out o) s).chr = s.chr := rfl
@[simp] theorem out_isp o : (Prim.apply (.out o) s).isp = s.isp := rfl
@[simp] theorem out_aud o : (Prim.apply (.out o) s).aud = s.aud := rfl
@[simp] theorem out_inp o : (Prim.apply (.out o) s).inp = s.inp := rfl
@[simp] theorem out_pwr o : (Prim.apply (.out o) s).pwr = s.pwr := rfl
@[simp] theorem out_reg_acc o (g : Fld) (x y : Nat) : (Prim.apply (.out o) s).reg g x y = s.reg g x y := rfl
@[simp] theorem out_bit_acc o (g : Fld) (x y : Nat) : (Prim.apply (.out o) s).bit g x y = s.bit g x y := rfl
@[simp] theorem out_core_acc o (x : Nat) : (Prim.apply (.out o) s).core x = s.core x := rfl

end Sys2Proof.Machine
end

