-- ==== Sys2Proof/Laws/Act.lean ====
section
/-! SUPPORT. What an act does: the laws of its combinators, the read of a register or a core after a change of it, the one
induction over acts that every whole-machine rule goes through, and the canonical form that every change keeps. -/

namespace Sys2Proof.Machine

variable {s : State}

/-! ### Combinators -/

@[simp] theorem run_nop : run .nop s = s := rfl
@[simp] theorem run_seq (a b : Act) : run (.seq a b) s = run b (run a s) := rfl
@[simp] theorem run_put (p : Prim) : run (.put p) s = p.apply s := rfl
@[simp] theorem run_get (k : State → Act) : run (.get k) s = run (k s) s := rfl
@[simp] theorem run_many_nil : run (many []) s = s := rfl
@[simp] theorem run_many_cons (a : Act) (r : List Act) : run (many (a :: r)) s = run (many r) (run a s) := rfl
@[simp] theorem run_whenA (b : Bool) (a : Act) : run (whenA b a) s = if b then run a s else s := by cases b <;> rfl
@[simp] theorem run_withA_none {α : Type} (f : α → Act) : run (withA none f) s = s := rfl
@[simp] theorem run_withA_some {α : Type} (x : α) (f : α → Act) : run (withA (some x) f) s = run (f x) s := rfl
@[simp] theorem run_forA_nil {α : Type} (f : α → Act) : run (forA [] f) s = s := rfl
@[simp] theorem run_forA_cons {α : Type} (x : α) (l : List α) (f : α → Act) :
    run (forA (x :: l) f) s = run (forA l f) (run (f x) s) := rfl
@[simp] theorem run_after (n : Nat) (a : Act) : run (after n a) s = run a ((Prim.tick n).apply s) := rfl
@[simp] theorem does_next (a : Act) : does a s = .next (run a s) := rfl

theorem run_many_append (l r : List Act) : run (many (l ++ r)) s = run (many r) (run (many l) s) := by
  induction l generalizing s with
  | nil => rfl
  | cons a l ih => simp [ih]

/-! ### A change and its own field -/

@[simp] theorem tick_t (n : Nat) : (Prim.apply (.tick n) s).t = s.t + n := rfl
@[simp] theorem fresh_freeCtr : (Prim.apply .fresh s).freeCtr = s.freeCtr + 1 := rfl
@[simp] theorem die_die (f : DieSide → DieSide) : (Prim.apply (.die f) s).die = f s.die := rfl
@[simp] theorem sch_sch (f : SchedSide → SchedSide) : (Prim.apply (.sch f) s).sch = f s.sch := rfl
@[simp] theorem log_log (f : LogS → LogS) : (Prim.apply (.log f) s).log = { f s.log with fifo := (f s.log).fifo.take 64 } := rfl
@[simp] theorem time_time (f : TimeS → TimeS) : (Prim.apply (.time f) s).time = f s.time := rfl
@[simp] theorem bus_bus (f : BusS → BusS) : (Prim.apply (.bus f) s).bus = f s.bus := rfl
@[simp] theorem host_host (f : HostS → HostS) : (Prim.apply (.host f) s).host = f s.host := rfl
@[simp] theorem sec_sec (f : SecS → SecS) : (Prim.apply (.sec f) s).sec = f s.sec := rfl
@[simp] theorem pkg_pkg (f : PkgS → PkgS) : (Prim.apply (.pkg f) s).pkg = f s.pkg := rfl
@[simp] theorem fab_fab (f : FabS → FabS) : (Prim.apply (.fab f) s).fab = f s.fab := rfl
@[simp] theorem isp_isp (f : IspS → IspS) : (Prim.apply (.isp f) s).isp = f s.isp := rfl
@[simp] theorem aud_aud (f : AudS → AudS) : (Prim.apply (.aud f) s).aud = f s.aud := rfl
@[simp] theorem pwr_pwr (f : PwrS → PwrS) : (Prim.apply (.pwr f) s).pwr = f s.pwr := rfl
@[simp] theorem out_out (o : Out) : (Prim.apply (.out o) s).out = s.out ++ [o] := rfl

/-- A register field read where it was written. -/
@[simp] theorem reg_reg_self (f : Fld) (i j v : Nat) : (Prim.apply (.reg f i j v) s).reg f i j = v % 2 ^ f.w :=
  mget_mset_self ..

/-- A register field read elsewhere. -/
theorem reg_reg_ne {f g : Fld} {i j x y : Nat} (v : Nat) (h : g.key x y ≠ f.key i j) :
    (Prim.apply (.reg f i j v) s).reg g x y = s.reg g x y :=
  mget_mset_ne _ _ _ h

/-- Two fields with different numbers share no place. -/
theorem key_ne_of_id {f g : Fld} (i j x y : Nat) (h : g.id ≠ f.id) : g.key x y ≠ f.key i j := by
  unfold Fld.key; omega

/-- Two instances of one field share no place. -/
theorem key_ne_of_inst {f : Fld} {i j x y : Nat} (h : x % 2 ^ 20 ≠ i % 2 ^ 20 ∨ y % 2 ^ 20 ≠ j % 2 ^ 20) :
    f.key x y ≠ f.key i j := by
  unfold Fld.key; omega

/-- A write of one field leaves every other field alone. -/
theorem reg_reg_other {f g : Fld} (i j x y v : Nat) (h : g.id ≠ f.id) :
    (Prim.apply (.reg f i j v) s).reg g x y = s.reg g x y :=
  reg_reg_ne v (key_ne_of_id i j x y h)

@[simp] theorem core_core_self (c : Nat) (f : CoreS → CoreS) : (Prim.apply (.core c f) s).core c = f (s.core c) :=
  mget_mupd_self ..

theorem core_core_ne {c x : Nat} (f : CoreS → CoreS) (h : x ≠ c) : (Prim.apply (.core c f) s).core x = s.core x :=
  mget_mupd_ne _ _ _ h

theorem core_core (c x : Nat) (f : CoreS → CoreS) : (Prim.apply (.core c f) s).core x = if x = c then f (s.core c) else s.core x :=
  mget_mupd ..

/-! ### Named operations -/

@[simp] theorem run_setR (f : Fld) (v i j : Nat) : run (setR f v i j) s = (Prim.reg f i j v).apply s := rfl
@[simp] theorem run_bump (f : Fld) (n i j : Nat) : run (bump f n i j) s = (Prim.reg f i j (satAdd f.w (s.reg f i j) n)).apply s := rfl
@[simp] theorem run_updCore (c : Nat) (f : CoreS → CoreS) : run (updCore c f) s = (Prim.core c f).apply s := rfl
@[simp] theorem run_updSem (h : Nat) (f : SemS → SemS) :
    run (updSem h f) s = (Prim.die fun d => { d with sems := mupd SemS.none d.sems h f }).apply s := rfl
@[simp] theorem run_updQueue (q : Nat) (f : QueS → QueS) :
    run (updQueue q f) s = (Prim.die fun d => { d with queues := mupd QueS.none d.queues q f }).apply s := rfl
@[simp] theorem run_setXfer (x : Nat) (v : Option Xfer) :
    run (setXfer x v) s = (Prim.die fun d => { d with xfers := mset none d.xfers x v }).apply s := rfl
@[simp] theorem run_setClause (c : Nat) (v : Option ClauseS) :
    run (setClause c v) s = (Prim.sch fun d => { d with clauses := mset none d.clauses c v }).apply s := rfl
@[simp] theorem run_updBatch (p : Nat) (f : BatchS → BatchS) :
    run (updBatch p f) s = (Prim.sch fun d => { d with batches := mupd BatchS.none d.batches p f }).apply s := rfl
@[simp] theorem run_freshV (k : Nat → Act) : run (freshV k) s = run (k (Config.freeValue s.freeCtr)) (Prim.fresh.apply s) := rfl

/-- An entry of the trouble log is queued where there is room. -/
theorem run_logPut_room (e : LogEnt) (h : s.log.fifo.length < 64) :
    run (logPut e) s = (Prim.log fun l => { l with fifo := l.fifo ++ [e] }).apply s := by
  simp [logPut, h]

/-- Where the FIFO is full the entry is lost, and counted. -/
theorem run_logPut_full (e : LogEnt) (h : 64 ≤ s.log.fifo.length) :
    (run (logPut e) s).log.fifo = s.log.fifo.take 64 ∧
    (run (logPut e) s).reg R.LOG_LOST_COUNT = satAdd R.LOG_LOST_COUNT.w (s.reg R.LOG_LOST_COUNT) 1 % 2 ^ R.LOG_LOST_COUNT.w := by
  have h1 : ¬ s.log.fifo.length < 64 := by omega
  constructor
  · simp [logPut, h1]
  · simp [logPut, h1]

/-! ### The one induction over acts -/

/-- Every primitive change an act can come to satisfies `P`. -/
def Act.Only (P : Prim → Prop) : Act → Prop
  | .nop => True
  | .seq a b => a.Only P ∧ b.Only P
  | .put p => P p
  | .get k => ∀ s, (k s).Only P

/-- A property that the changes of an act keep is kept by the act. -/
theorem run_keeps {P : Prim → Prop} {I : State → Prop} (hp : ∀ p : Prim, P p → ∀ s, I s → I (p.apply s)) :
    ∀ (a : Act), a.Only P → ∀ s, I s → I (run a s) := by
  intro a
  induction a with
  | nop => intro _ s h; exact h
  | seq a b iha ihb => intro ho s h; exact ihb ho.2 _ (iha ho.1 s h)
  | put p => intro ho s h; exact hp p ho s h
  | get k ih => intro ho s h; exact ih s (ho s) s h

theorem only_true : ∀ (a : Act), a.Only fun _ => True := by
  intro a
  induction a with
  | nop => trivial
  | seq a b iha ihb => exact ⟨iha, ihb⟩
  | put p => trivial
  | get k ih => exact fun s => ih s

/-- A property that every primitive change keeps is kept by every act. -/
theorem run_ind {I : State → Prop} (hp : ∀ (p : Prim) s, I s → I (p.apply s)) (a : Act) (h : I s) : I (run a s) :=
  run_keeps (P := fun _ => True) (fun p _ s => hp p s) a (only_true a) s h

theorem Act.Only.mono {P Q : Prim → Prop} (h : ∀ p, P p → Q p) : ∀ (a : Act), a.Only P → a.Only Q := by
  intro a
  induction a with
  | nop => intro _; trivial
  | seq a b iha ihb => intro ho; exact ⟨iha ho.1, ihb ho.2⟩
  | put p => intro ho; exact h p ho
  | get k ih => intro ho s; exact ih s (ho s)

/-- An act whose changes leave a reading of the state alone leaves it alone. -/
theorem run_fixes {P : Prim → Prop} {β : Type} (v : State → β) (hp : ∀ p : Prim, P p → ∀ s, v (p.apply s) = v s) (a : Act)
    (ha : a.Only P) : v (run a s) = v s :=
  run_keeps (I := fun u => v u = v s) (fun p h u hu => by rw [hp p h u, hu]) a ha s rfl

section only
variable {P : Prim → Prop}
@[simp] theorem only_nop : Act.Only P .nop ↔ True := Iff.rfl
@[simp] theorem only_seq (a b : Act) : Act.Only P (.seq a b) ↔ a.Only P ∧ b.Only P := Iff.rfl
@[simp] theorem only_put (p : Prim) : Act.Only P (.put p) ↔ P p := Iff.rfl
@[simp] theorem only_get (k : State → Act) : Act.Only P (.get k) ↔ ∀ s, (k s).Only P := Iff.rfl
@[simp] theorem only_many_nil : (many []).Only P ↔ True := Iff.rfl
@[simp] theorem only_many_cons (a : Act) (r : List Act) : (many (a :: r)).Only P ↔ a.Only P ∧ (many r).Only P := Iff.rfl
theorem only_many {l : List Act} (h : ∀ a ∈ l, a.Only P) : (many l).Only P := by
  induction l with
  | nil => trivial
  | cons a r ih => exact ⟨h a (List.mem_cons_self ..), ih fun b hb => h b (List.mem_cons_of_mem _ hb)⟩
theorem only_forA {α : Type} {l : List α} {f : α → Act} (h : ∀ x ∈ l, (f x).Only P) : (forA l f).Only P := by
  refine only_many fun a ha => ?_
  obtain ⟨x, hx, rfl⟩ := List.mem_map.1 ha
  exact h x hx
theorem only_whenA {b : Bool} {a : Act} (h : b = true → a.Only P) : (whenA b a).Only P := by
  cases b
  · trivial
  · exact h rfl
theorem only_withA {α : Type} {o : Option α} {f : α → Act} (h : ∀ x, o = some x → (f x).Only P) : (withA o f).Only P := by
  cases o
  · trivial
  · exact h _ rfl
end only

/-! ### What every act leaves -/

/-- No act touches the queue of commands. -/
@[simp] theorem run_pending (a : Act) : (run a s).pending = s.pending :=
  run_fixes (P := fun _ => True) State.pending (fun p _ s => by cases p <;> rfl) a (only_true a)

/-! ### The canonical form -/

/-- Every primitive change keeps the canonical form of the five memories. -/
theorem apply_memWf (p : Prim) (h : s.memWf = true) : (p.apply s).memWf = true := by
  simp only [State.memWf, Bool.and_eq_true] at h ⊢
  obtain ⟨⟨⟨⟨h1, h2⟩, h3⟩, h4⟩, h5⟩ := h
  cases p <;> simp only [Prim.apply] <;>
    refine ⟨⟨⟨⟨?_, ?_⟩, ?_⟩, ?_⟩, ?_⟩ <;>
    with_reducible first | assumption | (apply mwf_memWrite; assumption) | (apply mwf_mset; assumption) | (apply mwf_mkeep; assumption)

/-- Every primitive change keeps the register file, the cores, the clocks and the links listed once, rising. -/
theorem apply_listsWf (p : Prim) (h : s.listsWf = true) : (p.apply s).listsWf = true := by
  simp only [State.listsWf, Bool.and_eq_true] at h ⊢
  obtain ⟨⟨⟨h1, h2⟩, h3⟩, h4⟩ := h
  cases p <;> simp only [Prim.apply] <;>
    refine ⟨⟨⟨?_, ?_⟩, ?_⟩, ?_⟩ <;>
    with_reducible first | assumption | (apply mrising_mset; assumption) | (apply mrising_mupd; assumption) |
      (apply mrising_mkeep; assumption) | (apply mrising_mins; assumption)

/-- Every primitive change keeps the log's FIFO within its 64 places. -/
theorem apply_logWf (p : Prim) (h : s.logWf = true) : (p.apply s).logWf = true := by
  simp only [State.logWf, decide_eq_true_eq] at h ⊢
  cases p <;> simp only [Prim.apply] <;> first | assumption | simp [List.length_take]

theorem apply_wf (p : Prim) (h : s.wf = true) : (p.apply s).wf = true := by
  simp only [State.wf, Bool.and_eq_true] at h ⊢
  exact ⟨⟨apply_memWf p h.1.1, apply_listsWf p h.1.2⟩, apply_logWf p h.2⟩

end Sys2Proof.Machine
end

