-- ==== Sys2Proof/Laws/Issue.lean ====
section
/-! SUPPORT. What the issue of an instruction does, said once: the five outcomes of `issue`, and the core it leaves. -/

namespace Sys2Proof.Machine

variable {s t : State} {h : Hd} {c : Nat}

/-- A core with another fetch buffer, another last row and another record of progress. -/
def CoreS.refetch (k : CoreS) (fb : List (Nat × Row)) (lr : Option Nat) (pg : Nat) : CoreS :=
  { k with fbuf := fb, lastRow := lr, prog := pg }

theorem gives_of_run {i : Instr} {a : Act} {p : State → Prop} (hx : exec i s = .next (run a s)) (hp : p (run a s)) : Gives i s p :=
  ⟨_, hx, hp⟩

/-- Fetching changes the fetch buffer, the last row and the record of progress of the core alone. -/
theorem run_fetchRows (c : Nat) (s : State) :
    ∃ fb lr pg, run (fetchRows c) s = (Prim.core c fun m => m.refetch fb lr pg).apply s := by
  have bring : ∀ (r : Nat) (m : CoreS), ∃ fb,
      (if m.fbuf.any (fun e => decide (e.1 = r)) || decide (8192 ≤ r) then m else fbufPush m r (s.spadRow c r)) = m.refetch fb m.lastRow m.prog := by
    intro r m
    split
    · exact ⟨m.fbuf, rfl⟩
    · exact ⟨_, rfl⟩
  have point : ∀ (F : CoreS → CoreS) (fb : List (Nat × Row)) (lr : Option Nat) (pg : Nat), F (s.core c) = (s.core c).refetch fb lr pg →
      (Prim.core c F).apply s = (Prim.core c fun m => m.refetch fb lr pg).apply s := by
    intro F fb lr pg hF
    simp only [Prim.apply, mupd]
    have e : mget CoreS.reset s.cores c = s.core c := rfl
    rw [e, hF]
  obtain ⟨fb1, h1⟩ := bring ((s.core c).pc.toNat / 512) (s.core c)
  unfold fetchRows
  simp only [run_get, run_updCore]
  by_cases hl : (s.core c).lastRow = some ((s.core c).pc.toNat / 512)
  · refine ⟨fb1, (s.core c).lastRow, s.coreTick c, point _ _ _ _ ?_⟩
    simp only [h1]
    simp [CoreS.refetch, hl]
  · obtain ⟨fb2, h2⟩ := bring ((s.core c).pc.toNat / 512 + 1)
      { (s.core c).refetch fb1 (s.core c).lastRow (s.core c).prog with prog := s.coreTick c }
    refine ⟨fb2, some ((s.core c).pc.toNat / 512), s.coreTick c, point _ _ _ _ ?_⟩
    simp only [h1]
    rw [if_neg (by simpa [CoreS.refetch] using hl), h2]
    rfl

theorem onlyCore_fetch (c : Nat) (s : State) : OnlyCore c (s.core c) s (run (fetchRows c) s) := by
  obtain ⟨fb, lr, pg, e⟩ := run_fetchRows c s
  rw [e]
  exact ⟨⟨by simp [CoreS.refetch], fun x hx => core_core_ne _ hx⟩, rfl⟩

/-- A change of the core after one that left it `k`, where the change passes the fetch buffer by. -/
theorem OnlyCore.then {k : CoreS} {f : CoreS → CoreS} (ho : OnlyCore c k s t)
    (hf : ∀ m fb lr pg, f (m.refetch fb lr pg) = (f m).refetch fb lr pg) :
    OnlyCore c (f k) s ((Prim.core c f).apply t) := by
  obtain ⟨⟨h1, h2⟩, h3⟩ := ho
  refine ⟨⟨?_, fun x hx => by rw [core_core_ne _ hx, h2 x hx]⟩, ?_⟩
  · rw [core_core_self]
    have e : t.core c = k.refetch (t.core c).fbuf (t.core c).lastRow (t.core c).prog := h1
    have e2 := hf k (t.core c).fbuf (t.core c).lastRow (t.core c).prog
    rw [← e] at e2
    rw [e2]; rfl
  · rw [← h3]; rfl

/-! ### The five outcomes -/

variable {word : Nat} {legal : Bool} {body : State → IRes}

theorem issues_guard (hi : Issues h s) : ((s.core h.core.toNat).pv h.pred.toNat != h.pneg) = true := by
  simpa using hi.2.2.2.2

theorem issues_pc (hi : Issues h s) : (decide ((s.core h.core.toNat).pc < 0) || decide (0x3FFFF8 < (s.core h.core.toNat).pc) ||
    decide ((s.core h.core.toNat).pc % 8 ≠ 0)) = false := by
  obtain ⟨_, h1, h2, h3, _⟩ := hi
  simp; omega

/-- The instruction executes and goes on. -/
theorem run_issue_ok (hi : Issues h s) (hl : legal = true) {a : Act} (hb : body s = .ok a) :
    run (issue h word legal body) s =
      (Prim.core h.core.toNat CoreS.step8).apply (run a (run (fetchRows h.core.toNat) s)) := by
  unfold issue
  simp only [run_get, hi.1, hl, issues_pc hi, issues_guard hi, hb, Bool.not_true, Bool.false_eq_true, if_false]
  rfl

/-- The instruction executes and jumps. -/
theorem run_issue_jump (hi : Issues h s) (hl : legal = true) {p : Int} {a : Act} (hb : body s = .jump p a) :
    run (issue h word legal body) s =
      (Prim.core h.core.toNat fun m => { m with pc := p }).apply (run a (run (fetchRows h.core.toNat) s)) := by
  unfold issue
  simp only [run_get, hi.1, hl, issues_pc hi, issues_guard hi, hb, Bool.not_true, Bool.false_eq_true, if_false]
  rfl

/-- The instruction waits with the PC kept. -/
theorem run_issue_hold (hi : Issues h s) (hl : legal = true) {a : Act} (hb : body s = .hold a) :
    run (issue h word legal body) s = run a (run (fetchRows h.core.toNat) s) := by
  unfold issue
  simp only [run_get, hi.1, hl, issues_pc hi, issues_guard hi, hb, Bool.not_true, Bool.false_eq_true, if_false]
  rfl

/-- The instruction cannot issue yet. -/
theorem run_issue_stall (hi : Issues h s) (hl : legal = true) (hb : body s = .stall) :
    run (issue h word legal body) s = s := by
  unfold issue
  simp only [run_get, hi.1, hl, issues_pc hi, issues_guard hi, hb, Bool.not_true, Bool.false_eq_true, if_false]
  rfl

/-- The instruction raises a synchronous exception. -/
theorem run_issue_exn (hi : Issues h s) (hl : legal = true) {e d : Nat} (hb : body s = .exn e d) :
    run (issue h word legal body) s = run (syncExc h.core.toNat e d word) (run (fetchRows h.core.toNat) s) := by
  unfold issue
  simp only [run_get, hi.1, hl, issues_pc hi, issues_guard hi, hb, Bool.not_true, Bool.false_eq_true, if_false]
  rfl

/-- An instruction whose effect is a change of its core that passes the fetch buffer by. -/
theorem issue_updCore (hi : Issues h s) (hl : legal = true) {f : CoreS → CoreS}
    (hb : body s = .ok (updCore h.core.toNat f))
    (hf : ∀ m fb lr pg, f (m.refetch fb lr pg) = (f m).refetch fb lr pg) :
    OnlyCore h.core.toNat (f (s.core h.core.toNat)).step8 s (run (issue h word legal body) s) := by
  rw [run_issue_ok hi hl hb]
  exact ((onlyCore_fetch _ s).then hf).then fun _ _ _ _ => rfl

/-- The same for a jump. -/
theorem issue_updCore_jump (hi : Issues h s) (hl : legal = true) {p : Int} {f : CoreS → CoreS}
    (hb : body s = .jump p (updCore h.core.toNat f))
    (hf : ∀ m fb lr pg, f (m.refetch fb lr pg) = (f m).refetch fb lr pg) :
    OnlyCore h.core.toNat { f (s.core h.core.toNat) with pc := p } s (run (issue h word legal body) s) := by
  rw [run_issue_jump hi hl hb]
  exact ((onlyCore_fetch _ s).then hf).then (f := fun m => { m with pc := p }) fun _ _ _ _ => rfl

theorem setG_refetch (r : Nat) (v : Word) (m : CoreS) (fb : List (Nat × Row)) (lr : Option Nat) (pg : Nat) :
    (m.refetch fb lr pg).setG r v = (m.setG r v).refetch fb lr pg := by
  unfold CoreS.setG; split <;> rfl

theorem setP_refetch (r : Nat) (v : Bool) (m : CoreS) (fb : List (Nat × Row)) (lr : Option Nat) (pg : Nat) :
    (m.refetch fb lr pg).setP r v = (m.setP r v).refetch fb lr pg := by
  unfold CoreS.setP; split <;> rfl

theorem setG_step8 (r : Nat) (v : Word) (m : CoreS) : (m.setG r v).step8 = m.step8.setG r v := by
  unfold CoreS.setG; split <;> rfl

theorem setP_step8 (r : Nat) (v : Bool) (m : CoreS) : (m.setP r v).step8 = m.step8.setP r v := by
  unfold CoreS.setP; split <;> rfl

end Sys2Proof.Machine
end

