-- ==== Sys2Proof/WellFormed.lean ====
section
/-! DEFINITION. Which commands can be given: the bits of an instruction word that a constructor does not name lie outside the fields it
does (R92, R96), a register access is aligned and inside the port's window, and what comes from outside has the length its rule gives it. -/

namespace Sys2Proof

/-- The bits of the word that the operands do not name lie in the runs (lowest bit, length) of the list. -/
def Hd.free (h : Hd) (l : List (Nat × Nat)) : Bool :=
  decide (h.extra.toNat &&& (2 ^ 64 - 1 - l.foldl (fun a r => a ||| (2 ^ r.2 - 1) * 2 ^ r.1) 0) = 0)

/-- Format R leaves [63:34] to the word, format I nothing. -/
def Hd.opdFree (h : Hd) : Opd → Bool
  | .reg _ => h.free [(34, 30)]
  | .imm _ => h.free []

/-- A register access of `n` words: aligned, at most 512 bytes, inside BAR0, and through the sideband port below the compute dies'
windows (R525). -/
def accessOk (port : Port) (off : BitVec 29) (n : Nat) : Bool :=
  decide (off.toNat % 4 = 0) && decide (1 ≤ n) && decide (n ≤ 128) && decide (off.toNat + 4 * n ≤ (if port = .sbp then 2 ^ 28 else 2 ^ 29)) &&
  (decide (port ≠ .sbp) || decide (n = 1))

/-- A 24-bit sample. -/
def sampleOk (v : Int) : Bool := decide (-8388608 ≤ v) && decide (v ≤ 8388607)
def samplesOk (n : Nat) (l : List Int) : Bool := decide (l.length = n) && l.all sampleOk

/-- A command is well formed. -/
def Instr.wf : Instr → Bool
  | .registerWrite port off n v => accessOk port off n && decide (v < 2 ^ (32 * n))
  | .stagedWordWrite port off _ => accessOk port off 1
  | .rcRegisterRead port off n => accessOk port off n
  | .wideRegisterLowRead port off => accessOk port off 1
  | .unoccupiedAddressAccess port off _ _ => accessOk port off 1
  | .pllLockLoss .. => true
  | .rowService .. => true
  | .tagWaitTimeout .. => true
  | .dmaTagWaitTimeout .. => true
  | .localDeadlock .. => true
  | .engineComplete .. => true
  | .nop h => h.free [(10, 54)]
  | .add h _ _ b => h.opdFree b
  | .sub h _ _ b => h.opdFree b
  | .and h _ _ b => h.opdFree b
  | .or h _ _ b => h.opdFree b
  | .xor h _ _ b => h.opdFree b
  | .shl h _ _ b => h.opdFree b
  | .shr h _ _ b => h.opdFree b
  | .sra h _ _ b => h.opdFree b
  | .mul h _ _ b => h.opdFree b
  | .mulhu h _ _ b => h.opdFree b
  | .mulhs h _ _ b => h.opdFree b
  | .min h _ _ b => h.opdFree b
  | .max h _ _ b => h.opdFree b
  | .minu h _ _ b => h.opdFree b
  | .maxu h _ _ b => h.opdFree b
  | .cmpEq h _ _ b => h.opdFree b
  | .cmpNe h _ _ b => h.opdFree b
  | .cmpLt h _ _ b => h.opdFree b
  | .cmpGe h _ _ b => h.opdFree b
  | .cmpLtu h _ _ b => h.opdFree b
  | .cmpGeu h _ _ b => h.opdFree b
  | .plogAnd h _ _ _ _ _ => h.free [(13, 3), (28, 36)]
  | .plogOr h _ _ _ _ _ => h.free [(13, 3), (28, 36)]
  | .plogXor h _ _ _ _ _ => h.free [(13, 3), (28, 36)]
  | .moviG h _ _ => h.free []
  | .moviA h _ _ => h.free [(14, 2)]
  | .addrAddG h _ _ _ => h.free [(14, 2), (20, 2), (30, 34)]
  | .addrAddImm h _ _ _ => h.free [(14, 2), (20, 8)]
  | .addrSet h _ _ => h.free [(14, 8), (30, 34)]
  | .addrGet h _ _ _ => h.free [(14, 2), (20, 2), (30, 34)]
  | .br h _ _ => h.free [(16, 16)]
  | .brr h _ _ => h.free [(22, 42)]
  | .loop h _ _ => h.free [(16, 16)]
  | .ldrs h _ _ => h.free [(16, 12), (32, 32)]
  | .strs h _ _ => h.free [(16, 12), (32, 32)]
  | .rsget h _ _ => h.free [(10, 6), (32, 32)]
  | .rsput h _ _ => h.free [(10, 6), (32, 32)]
  | .rdcad h _ => h.free [(16, 6), (28, 36)]
  | .rdcyc h _ => h.free [(16, 6), (28, 36)]
  | .fence h _ => h.free [(10, 12), (36, 28)]
  | .iflush h => h.free [(10, 12), (28, 36)]
  | .cend h => h.free [(10, 12), (28, 36)]
  | .dltight h _ => h.free [(10, 6), (28, 36)]
  | .rddl h _ => h.free [(16, 6), (28, 36)]
  | .trap h _ => h.free [(10, 6), (28, 36)]
  | .shdl h _ _ => h.free [(15, 1), (22, 14), (40, 24)]
  | .sacq h _ _ => h.free [(15, 7), (28, 8), (40, 24)]
  | .stry h _ _ _ => h.free [(15, 7), (28, 4), (35, 1), (40, 24)]
  | .srel h _ => h.free [(15, 21), (40, 24)]
  | .swait h _ => h.free [(15, 21), (40, 24)]
  | .spoll h _ _ => h.free [(15, 17), (35, 1), (40, 24)]
  | .ssig h _ => h.free [(15, 21), (40, 24)]
  | .qsub h _ _ _ => h.free [(10, 6), (22, 6), (35, 1), (40, 24)]
  | .qsubw h _ _ _ => h.free [(10, 6), (22, 6), (35, 1), (40, 24)]
  | .qdone h _ _ => h.free [(10, 6), (28, 8), (40, 24)]
  | .dma h _ _ _ _ _ _ _ _ => h.free [(35, 29)]
  | .semRequest .. => true
  | .controlResponse .. => true
  | .controlWaitTimeout .. => true
  | .holdBoundExpiry .. => true
  | .deadlineExpiry .. => true
  | .mma h _ => h.free []
  | .mmas h _ => h.free []
  | .mmar h _ => h.free []
  | .spill h _ => h.free []
  | .fill h _ => h.free []
  | .vbinAdd h _ => h.free []
  | .vbinSub h _ => h.free []
  | .vbinMul h _ => h.free []
  | .vbinMax h _ => h.free []
  | .vbinMin h _ => h.free []
  | .vfma h _ => h.free []
  | .vunCvt h _ => h.free []
  | .vunAbs h _ => h.free []
  | .vunNeg h _ => h.free []
  | .vunExp h _ => h.free []
  | .vunExp2 h _ => h.free []
  | .vunRcp h _ => h.free []
  | .vunRsqrt h _ => h.free []
  | .vredSum h _ => h.free []
  | .vredMax h _ => h.free []
  | .vredAbsmax h _ => h.free []
  | .vshuf h _ => h.free []
  | .vstat h _ => h.free []
  | .quant h _ => h.free []
  | .vseed h _ => h.free []
  | .vflags h _ => h.free []
  | .vstrd h _ => h.free []
  | .vstld h _ => h.free []
  | .vsmx h _ => h.free []
  | .vsmxb h _ => h.free []
  | .vscan h _ => h.free []
  | .vscanLoadCarry h _ => h.free []
  | .vscanStoreCarry h _ => h.free []
  | .vpoolMax h _ => h.free []
  | .vpoolAvg h _ => h.free []
  | .vrsz h _ => h.free []
  | .clauseChoice .. => true
  | .clauseStart .. => true
  | .clauseEnd .. => true
  | .agePromotion .. => true
  | .kickstandSave .. => true
  | .fabricDrainTimeout .. => true
  | .kickstandSaveDone .. => true
  | .kickstandRestore .. => true
  | .kickstandRestoreDone .. => true
  | .doorbell .. => true
  | .submitRequest .. => true
  | .descriptorFetch .. => true
  | .dmaNop .. => true
  | .dmaCopy .. => true
  | .dmaFill .. => true
  | .dmaBarrier .. => true
  | .descriptorStart .. => true
  | .transferStart .. => true
  | .segmentIssue .. => true
  | .segmentDone .. => true
  | .completion .. => true
  | .completionResume .. => true
  | .cqHeadWrite .. => true
  | .irqTimer .. => true
  | .queueEnable .. => true
  | .queueDisable .. => true
  | .queueDrain .. => true
  | .queueCancel .. => true
  | .transferResume .. => true
  | .semAllocate .. => true
  | .semSignalWrite .. => true
  | .clauseDesc .. => true
  | .clauseNop .. => true
  | .clauseBarrier .. => true
  | .generate .. => true
  | .cancel .. => true
  | .requestNop .. => true
  | .stepBoundary .. => true
  | .backgroundZeroFill .. => true
  | .streamSwap .. => true
  | .streamExport .. => true
  | .streamExportResume => true
  | .streamImport .. => true
  | .streamTransferEnd .. => true
  | .migrationDone _ i page _ => decide (i < 16) && decide (page < 2 ^ 524288)
  | .migrationTimeout _ i _ => decide (i < 16)
  | .nvmeCompletion _ i _ => decide (i < 16)
  | .landingWrite off n v => decide (1 ≤ n) && decide (off + n ≤ 0x4000000) && decide (v < 2 ^ (8 * n))
  | .migrationSweep .. => true
  | .sweepDone .. => true
  | .invPages .. => true
  | .invContext .. => true
  | .invAll .. => true
  | .invalidationDone .. => true
  | .dramAccess _ _ err => decide (err ≠ 3)
  | .patrolRead die pa err => decide (pa / 2 ^ 37 = die.toNat) && decide (err ≠ 3)
  | .mr4Poll .. => true
  | .dramRefresh .. => true
  | .codeCacheWriteback .. => true
  | .groupScrub .. => true
  | .groupScrubDone .. => true
  | .chainringFrame .. => true
  | .chainringIdleFrame .. => true
  | .chainringLinkTimeout .. => true
  | .quiesceDrained => true
  | .chainringTrainDone .. => true
  | .chainringTrainTimeout .. => true
  | .restoreComplete .. => true
  | .retrainTimer .. => true
  | .chrDown .. => true
  | .chrRetrain .. => true
  | .flit .. => true
  | .fliferIdleFlit .. => true
  | .fliferLinkTimeout .. => true
  | .routeRestore .. => true
  | .fliferTrainDone .. => true
  | .creditReturn _ cls _ _ => decide (cls ≠ 3)
  | .write _ k data => decide (data < 2 ^ (8 * k.len.toNat))
  | .read .. => true
  | .ack .. => true
  | .readData _ k data => decide (data < 2 ^ (8 * k.len.toNat))
  | .nack .. => true
  | .e2eTimeout .. => true
  | .presence .. => true
  | .presenceTimer .. => true
  | .peerTimeout .. => true
  | .peerRearm .. => true
  | .windowOpen _ w => decide (w.toNat < 64)
  | .windowClose _ w => decide (w.toNat < 64)
  | .digest .. => true
  | .digestTimer .. => true
  | .digestCommit .. => true
  | .digestSettle .. => true
  | .digestDone => true
  | .tsync _ _ time corr seq => decide (time < 2 ^ 128) && decide (corr < 2 ^ 64) && decide (seq < 2 ^ 32)
  | .tsyncTimer .. => true
  | .pdelayReq _ t1 => decide (t1 < 2 ^ 128)
  | .pdelayResp _ t1 t2 t3 => decide (t1 < 2 ^ 128) && decide (t2 < 2 ^ 128) && decide (t3 < 2 ^ 128)
  | .pdelayTimer .. => true
  | .snapSched _ _ _ time => decide (time < 2 ^ 128)
  | .snapAck .. => true
  | .timeLoad .. => true
  | .timeStep .. => true
  | .timeRate .. => true
  | .timeApply .. => true
  | .skewCheck .. => true
  | .timeConvert .. => true
  | .snapshotArm .. => true
  | .snapshotLatch .. => true
  | .logEntryWrite => true
  | .logTailWrite .. => true
  | .frameStart .. => true
  | .frameEnd .. => true
  | .longPacket _ _ _ wc payload _ _ => decide (wc < 65536) && decide (payload.length = wc)
  | .lineStart .. => true
  | .lineEnd .. => true
  | .lineProcess => true
  | .feTimeout .. => true
  | .psetCommit .. => true
  | .psetPrefetchDone _ bank => decide (bank < 2)
  | .cameraStreamDisable .. => true
  | .swEnable _ k => decide (k.toNat < 2)
  | .swDisable _ k => decide (k.toNat < 2)
  | .swClear _ k => decide (k.toNat < 2)
  | .swRampEnd k _ _ _ => decide (k.toNat < 2)
  | .swLimitTimeout k _ => decide (k.toNat < 2)
  | .audioBlock _ _ samples => samplesOk 256 samples
  | .tdmSyncLoss .. => true
  | .muteAssert => true
  | .muteDeassert => true
  | .muteRelease .. => true
  | .w0Frame samples => samplesOk 256 samples
  | .w1Hop samples => samplesOk 160 samples
  | .w2Hop => true
  | .hold1Timeout .. => true
  | .hold2Timeout .. => true
  | .wakeHandoff => true
  | .coolDownEnd .. => true
  | .ringSegment _ samples => decide (samples.length ≤ 1024) && samples.all sampleOk
  | .pipeSample .. => true
  | .pipeFreeAcquire .. => true
  | .readyPoll .. => true
  | .pipeDisable .. => true
  | .dieCoastRequest .. => true
  | .dieRetainRequest .. => true
  | .dieRunRequest .. => true
  | .entryQuiesced .. => true
  | .entryWaitTimeout .. => true
  | .pkgRetainRequest .. => true
  | .pkgOffRequest .. => true
  | .wakePin => true
  | .wakeAtTimer .. => true
  | .offTimerExpiry .. => true
  | .pcieWake => true
  | .dieWake .. => true
  | .wakeComplete .. => true
  | .powerEstimate .. => true
  | .throttleAdjust .. => true
  | .thermalRead temps _ => decide (temps.length = 5)
  | .sagTrip .. => true
  | .sagSaveComplete => true
  | .sagRecover .. => true
  | .holdVinDrop => true
  | .stallDetect .. => true
  | .waitForScan .. => true
  | .coreClear .. => true
  | .clearDone .. => true
  | .probeTimeout .. => true
  | .clearTimeout .. => true
  | .coreResetTimeout .. => true
  | .resetCore .. => true
  | .resetDie .. => true
  | .resetHubBlock _ block => decide (block.toNat < 6)
  | .resetPackage .. => true
  | .resetRelease dom idx => decide (1 ≤ dom) && decide (dom ≤ 3) && decide (idx < (if dom = 1 then 64 else if dom = 2 then 4 else 6))
  | .blockWatchdog block _ => decide (block.toNat < 6)
  | .partitionCoreChange .. => true
  | .wayChange .. => true
  | .wayClearDone .. => true
  | .keyLoad .. => true
  | .keyGenerate .. => true
  | .keyErase .. => true
  | .kill .. => true
  | .killWaitTimeout .. => true
  | .scrubStart .. => true
  | .scrubDone .. => true
  | .scrubTimeout .. => true
  | .debugChallenge .. => true
  | .debugSubmit .. => true
  | .debugPassword .. => true
  | .debugEnd .. => true
  | .sessionExpiry .. => true
  | .passwordDelayEnd .. => true
  | .vfRegisterAccess v off _ n x => accessOk (.vf v) off n && decide (x < 2 ^ (32 * n))
  | .vfMemoryAccess _ off _ n x => decide (1 ≤ n) && decide (n ≤ 512) && decide (off.toNat % 4096 + n ≤ 4096) && decide (x < 2 ^ (8 * n))
  | .vfFlr .. => true
  | .pfReset kind => decide (kind ≠ 3)
  | .msixUnmask .. => true
  | .ethFrameReceive _ bytes _ => decide (14 ≤ bytes.length)
  | .ethTransmit _ buffer => decide (buffer < 2 ^ 16384)
  | .sbpIndRead .. => true
  | .sbpIndWrite .. => true
  | .sbpIndDone => true
  | .uartRxFrame .. => true
  | .uartDataWrite .. => true
  | .uartDataRead .. => true
  | .i2cCmd .. => true
  | .i3cPrivateCmd .. => true
  | .i3cCccCmd .. => true
  | .i2cTransferDone _ _ rx devs => decide (rx.length ≤ 255) && decide (devs.length ≤ 64)
  | .i2cDataRead .. => true
  | .ibi .. => true
  | .stuckBus .. => true
  | .bootStageEnd .. => true
  | .trainZq .. => true
  | .trainCa .. => true
  | .trainWck2ck .. => true
  | .trainReadDq .. => true
  | .trainWriteRead .. => true
  | .trainSetRate .. => true
  | .trainApply .. => true
  | .trainOpDone _ errs => decide (errs.length = 16) && errs.all (fun e => decide (e.1 < 65536))
  | .trainCommit _ _ _ density => decide (density.length = 16)
  | .aonPowerUp => true
  | .packageResetRelease => true
  | .pwrgdFall => true
  | .offHoldEnd .. => true
  | .railUndervoltage die rail => decide (1 ≤ rail.toNat) && decide (rail.toNat ≤ (if die = 4 then 2 else 3))
  | .refclkLoss => true
  | .refclkReturn .. => true
  | .pcieFundamentalReset => true
  | .throttleAllowedPart .. => true
  | .holdVinRecover => true
  | .tdmFrameSyncGain .. => true
  | .lanesHsSyncChange .. => true
  | .uartRxRearm .. => true
  | .uartTxFrameEnd => true
  | .pcieCompletionTimeout _ i _ => decide (i < 16)
  | .creditStall _ cls _ _ => decide (cls ≠ 3)

end Sys2Proof
end

