-- ==== Sys2Proof/Tests/Slice0.lean ====
section
/-! SUPPORT. Tests: ill-formed commands are refused by WellFormed; for every statement a state and operands that meet its hypotheses together
(witness_<Obligation>); and single steps whose results are worked out from the rules (test_<what>). -/

namespace Sys2Proof.Tests

open Sys2Proof Sys2Proof.Machine

set_option Elab.async false

/-! ### States the tests are about -/

/-- Register fields with given values: field, instance, index, value. -/
def sets (s : State) (l : List (Fld × Nat × Nat × Nat)) : State :=
  { s with regs := l.foldl (fun m e => mset (e.1.rst.value e.2.1 e.2.2.1) m (e.1.key e.2.1 e.2.2.1) e.2.2.2) s.regs }

def withCore (s : State) (c : Nat) (k : CoreS) : State := { s with cores := mset CoreS.reset s.cores c k }
def withDie (s : State) (f : DieSide → DieSide) : State := { s with die := f s.die }
def withSch (s : State) (f : SchedSide → SchedSide) : State := { s with sch := f s.sch }

/-- A package that has booted, with every clock running, one second after power-up. -/
def up : State :=
  { sets State.reset [(R.HUB_BOOT_STAGE, 0, 0, 6)] with
    t := 1500000000, pkg := { PkgS.reset with held := false, vaon := true, sysPwr := true, pwrgd := true },
    clk := (List.range 5).map (fun d => (d, ⟨true, 0, 0⟩)) }

/-- A clause of core 0, from entry 0 of queue 5. -/
def cl : ClauseS :=
  { part := 0, ctx := 1, queue := 5, n := 0, tag := 0, core := 0, dclass := 0, bclass := 0, eclass := 0, accept := 0, ord := false, sig := false,
    allow := 0, deadline := none, policy := 0, replays := 0, runs := 0, miss := false, args := [7], code := 0, rows := 0, row := 0, entry := 512, sem := 0,
    st := .running, waitBase := 0, slot := 0, susAt := 0, seqs := [], streams := [], plan := 0, ran := true, first := false }

/-- A core in the middle of clause 1. -/
def busy : CoreS :=
  { CoreS.reset with
    inClause := true, clause := 1, pc := 512, cycRun := true, g := [(1, 5), (2, 3)], a := [(1, 1024), (2, 0x10000000040)], p := [(1, true)] }

/-- The package with clause 1 running on core 0. -/
def on (k : CoreS) : State := withSch (withCore up 0 k) fun d => { d with clauses := [(1, some cl)], nextC := 2 }

/-- The head of an instruction of core 0 without predicate, and one whose guard does not hold. -/
def h0 : Hd := ⟨0, 0, false, 0⟩
def hNot : Hd := ⟨0, 1, true, 0⟩

/-- Partition 0 with memory: group 0 of die 0 over every channel, context 1 whose device pages 0 and 1 are frames 1 and 2 (tables at 0x1000, 0x4000,
0x8000), page 2 read-only, way 0 of hub memory at 0x800010000000. -/
def mapped : State :=
  { sets up
      [(R.DMC_GROUP_ENABLE, 0, 0, 1), (R.DMC_GROUP_CHMASK, 0, 0, 0xFFFF), (R.DMC_GROUP_PART_VALID, 0, 0, 1), (R.XLT_CTL_ENABLE, 0, 0, 1),
       (R.HUB_WAY_MODE, 0, 0, 1), (R.HUB_WAY_PART_VALID, 0, 0, 1), (R.DMC_STATUS_FIT, 0, 0, 1)] with
    dram := memWrite (memWrite (memWrite (memWrite (memWrite (memWrite [] 16 8 0x1001) 0x1000 8 0x4001) 0x4000 8 0x8001) 0x8000 8 0x105) 0x8008 8 0x205) 0x8010 8 0x301 }

theorem mapped_pages : mapped.translate 0 1 0x40 true none = .dram 0x10040 0x8000 0x105 ∧ mapped.translate 0 1 0x10000 false none = .dram 0x20000 0x8008 0x205 ∧
    mapped.translate 0 1 0x20000 true none = .fault 2 none ∧ mapped.translate 0 1 0x800010000040 true none = .hub 0x40 := by decide +kernel

/-- An empty queue entry, and a DMA descriptor that copies 64 bytes from device address 0 to 0x10000. -/
def dsc : DescS := ⟨0, 0, 1 + 0x10000 * 2 ^ 128 + 64 * 2 ^ 192, false, none, false, 0, 0, 0, 0⟩

def withQueue (s : State) (q : Nat) (k : QueS) : State := withDie s fun d => { d with queues := mset QueS.none d.queues q k }

/-- A transfer of 64 bytes from device address 0 to 0x10000. -/
def xf : Xfer := ⟨.desc 5 0, 1, 0, 0, .dev 0, .dev 0x10000, 64, 0, 0, none, 0, 0, [], 0, none, none, 0, none⟩

/-! ### Ill-formed commands -/

theorem test_wf_refuses :
    (Instr.registerWrite .pf 2 1 0).wf = false ∧ (Instr.registerWrite .pf 0 129 0).wf = false ∧ (Instr.registerWrite .pf 0 1 0x100000000).wf = false ∧
    (Instr.stagedWordWrite .sbp 0x10000000 0).wf = false ∧ (Instr.rcRegisterRead .sbp 0 2).wf = false ∧ (Instr.wideRegisterLowRead .pf 1).wf = false ∧
    (Instr.unoccupiedAddressAccess .pf 3 true 0).wf = false := by decide

theorem test_wf_refuses_words :
    (Instr.nop ⟨0, 0, false, 1⟩).wf = false ∧ (Instr.add ⟨0, 0, false, 1⟩ 1 2 (.reg 3)).wf = false ∧ (Instr.add ⟨0, 0, false, 0x400000000⟩ 1 2 (.imm 3)).wf = false ∧
    (Instr.plogAnd ⟨0, 0, false, 1⟩ 1 2 false 3 false).wf = false ∧ (Instr.moviG ⟨0, 0, false, 1⟩ 1 2).wf = false ∧ (Instr.br ⟨0, 0, false, 1⟩ 1 2).wf = false ∧
    (Instr.fence ⟨0, 0, false, 1⟩ 1).wf = false ∧ (Instr.sacq ⟨0, 0, false, 1⟩ 1 2).wf = false ∧ (Instr.dma ⟨0, 0, false, 1⟩ 1 0 2 3 0 false 0 false).wf = false ∧
    (Instr.mma ⟨0, 0, false, 1⟩ ⟨0, 0, 0, 0, 0, 0, 0, 0, 0⟩).wf = false := by decide

theorem test_wf_refuses_input :
    (Instr.migrationDone 0 16 0 true).wf = false ∧ (Instr.migrationTimeout 0 16 0).wf = false ∧ (Instr.nvmeCompletion 0 16 true).wf = false ∧
    (Instr.pcieCompletionTimeout 0 16 0).wf = false ∧ (Instr.landingWrite 0x3FFFFFF 2 0).wf = false ∧ (Instr.dramAccess 0 0 3).wf = false ∧
    (Instr.patrolRead 1 0 0).wf = false ∧ (Instr.creditReturn 0 3 false 1).wf = false ∧ (Instr.creditStall 0 3 false 1).wf = false ∧
    (Instr.windowOpen .pf 64).wf = false ∧ (Instr.windowClose .pf 64).wf = false ∧ (Instr.longPacket 0 0 0 2 [1] 0 0).wf = false ∧
    (Instr.psetPrefetchDone 0 2).wf = false ∧ (Instr.swEnable .pf 2).wf = false ∧ (Instr.audioBlock 0 0 [0]).wf = false ∧
    (Instr.w0Frame [0]).wf = false ∧ (Instr.w1Hop []).wf = false ∧ (Instr.ringSegment 0 [8388608]).wf = false ∧ (Instr.thermalRead [20] 0).wf = false := by decide

theorem test_wf_refuses_input2 :
    (Instr.resetHubBlock .pf 6).wf = false ∧ (Instr.resetRelease 2 4).wf = false ∧ (Instr.resetRelease 4 0).wf = false ∧ (Instr.blockWatchdog 6 0).wf = false ∧
    (Instr.vfRegisterAccess 0 2 true 1 0).wf = false ∧ (Instr.vfMemoryAccess 0 4095 true 2 0).wf = false ∧ (Instr.pfReset 3).wf = false ∧
    (Instr.ethFrameReceive 0 [0] true).wf = false ∧ (Instr.trainOpDone 0 []).wf = false ∧ (Instr.trainCommit .pf 0 0 []).wf = false ∧
    (Instr.railUndervoltage 4 3).wf = false ∧ (Instr.railUndervoltage 0 0).wf = false ∧ (Instr.tsync 0 ⟨0, false, 1, 0, 0, 0, 0, 0, 0, 0, 0, 0, 0⟩ 0 0 0x100000000).wf = false ∧
    (Instr.write 0 ⟨0, false, 1, 0, 0, 0, 0, 0, 1, 0, 0, 0, 0⟩ 256).wf = false := by decide

theorem test_wf_admits :
    (Instr.add h0 1 2 (.imm 3)).wf = true ∧ (Instr.registerWrite .pf 4 1 7).wf = true ∧ (Instr.landingWrite 0x3FFFFFF 1 255).wf = true ∧
    (Instr.resetRelease 1 63).wf = true ∧ (Instr.vfMemoryAccess 0 4095 true 1 0).wf = true := by decide

/-! ### Cores -/

theorem witness_AluAndCompareResults : Issues h0 (on busy) ∧ aluLegal h0 (.imm 3) = true ∧ aluLegal h0 (.reg 2) = true ∧ (7 : BitVec 6).toNat < 8 ∧
    Issues h0 (on { busy with pc := 0x3FFFF8 }) ∧ Issues h0 (on { busy with pc := 0 }) := by
  unfold Issues; decide +kernel

theorem witness_PlogMoveAndAddressResults : Issues h0 (on busy) ∧ zeroOk h0 [(13, 3), (28, 36)] = true ∧ zeroOk h0 [(14, 2)] = true ∧ zeroOk h0 [(14, 2), (20, 2)] = true ∧
    (on busy).bit R.CORE_FAULT_CODE_VALID 0 = false ∧ (1 : BitVec 4) ≠ 0 := by unfold Issues; decide +kernel

theorem witness_RowStagingInstructions : Issues h0 (on busy) ∧
    zeroOk h0 [(16, 12), (32, 32)] = true ∧ ((busy.av 1).toNat % 512 = 0 ∧ (busy.av 1).toNat < 0x400000) ∧ busy.rsBusy = false ∧ zeroOk h0 [(10, 6), (32, 32)] = true ∧
    Issues h0 (on { busy with cq := [⟨.ldrs, ⟨0, 0, 2, 0⟩, 0⟩] }) ∧ ((on { busy with cq := [⟨.ldrs, ⟨0, 0, 2, 0⟩, 0⟩] }).core 0).rsBusy = true := by
  unfold Issues; decide +kernel

theorem witness_ControlFlowResults : Issues h0 (on busy) ∧ zeroOk h0 [(10, 54)] = true ∧ zeroOk h0 [(16, 16)] = true ∧ zeroOk h0 [(22, 42)] = true ∧
    busy.gv 2 ≠ 1 ∧ Issues h0 (on { busy with g := [(2, 1)] }) ∧ ((on { busy with g := [(2, 1)] }).core 0).gv 2 = 1 ∧ (on busy).bit R.CORE_FAULT_CODE_VALID 0 = false ∧
    Issues ⟨0, 0, false, 2 ^ 22⟩ (on busy) ∧ zeroOk ⟨0, 0, false, 2 ^ 22⟩ [(22, 42)] = false ∧ Skips hNot (on busy) ∧ zeroOk hNot [(16, 16)] = true ∧ zeroOk hNot [(22, 42)] = true := by
  unfold Issues Skips; decide +kernel

/-- R100: the link is written before the jump's register is read. -/
theorem test_brr_links_first : ∃ t, exec (.brr h0 2 2) (on busy) = .next t ∧ (t.core 0).pc = 520 ∧ (t.core 0).gv 2 = 520 := ⟨_, rfl, by decide +kernel, by decide +kernel⟩

theorem witness_SystemInstructionResults : Issues h0 (on busy) ∧ zeroOk h0 [(36, 28)] = true ∧ (on busy).fenceDone 0 0x3F = true ∧ busy.dl = none ∧
    Issues h0 (on { busy with cq := [⟨.ldrs, ⟨0, 0, 2, 0⟩, 0⟩], dl := some 600000000 }) ∧ (on { busy with cq := [⟨.ldrs, ⟨0, 0, 2, 0⟩, 0⟩] }).fenceDone 0 0x10 = false := by
  unfold Issues; decide +kernel

theorem witness_IssueOutcomes :
    (∀ (i : Instr) (k : Hd), i = .nop k → issueOf i (on busy) = some (k, zeroOk k [(10, 54)])) ∧ zeroOk ⟨0, 0, false, 0x400⟩ [(10, 54)] = false ∧
    (on { busy with halted := true }).canIssue 0 = false ∧
    ((on { busy with pc := -8 }).canIssue 0 = true ∧ (on { busy with pc := -8 }).bit R.CORE_FAULT_CODE_VALID 0 = false) ∧
    ((on { busy with pc := 0x400000 }).canIssue 0 = true ∧ (on { busy with pc := 0x400000 }).bit R.CORE_FAULT_CODE_VALID 0 = false) ∧
    ((on busy).canIssue 0 = true ∧ (on busy).bit R.CORE_FAULT_CODE_VALID 0 = false) ∧ (Skips hNot (on busy) ∧ zeroOk hNot [(10, 54)] = true) := by
  refine ⟨fun i k h => by subst h; rfl, ?_⟩; unfold Skips; decide +kernel

/-- Core 0 with handles: s1 a lock and s2 a counter of its partition, s3 a lock it holds. -/
def semCore : CoreS := { busy with sh := [(1, some 8), (2, some 9), (3, some 10)], shEvent := [(2, true)], held := [10] }
def semOn : State := sets (on semCore)
  [(R.QUE_SEM_W0_VALID, 0, 8, 1), (R.QUE_SEM_W0_VALID, 0, 9, 1), (R.QUE_SEM_W0_KIND, 0, 9, 1), (R.QUE_SEM_W0_COUNT, 0, 9, 4), (R.QUE_SEM_W0_VALID, 0, 10, 1),
   (R.QUE_SEM_W0_HELD, 0, 10, 1)]

theorem witness_SynchronousExceptions : Issues h0 semOn ∧ semOn.bit R.CORE_FAULT_CODE_VALID 0 = false ∧ sysLegal h0 = true ∧ legalQ h0 = true ∧
    semOn.semMisuse 0 1 none 5 = some 1 ∧ semOn.semMisuse 0 1 (semCore.sv 3) 5 = some 4 ∧ semOn.semMisuse 0 1 (semCore.sv 1) 0 = some 7 ∧
    semOn.semMisuse 0 3 (semCore.sv 1) 0 = some 5 ∧ zeroOk h0 [(16, 12), (32, 32)] = true ∧
    (semCore.av 2).toNat % 512 ≠ 0 ∧ Issues h0 (on { busy with a := [(1, 0x400000)] }) ∧ (0x400000 : BitVec 48).toNat % 512 = 0 := by
  unfold Issues; decide +kernel

theorem witness_SemaphoreInstructions : Issues h0 semOn ∧ legalQ h0 = true ∧ semOn.handleOk 0 8 = true ∧ semCore.sv 1 = some 8 ∧ semCore.sv 2 = some 9 ∧ semCore.sv 3 = some 10 ∧
    semOn.semMisuse 0 1 (some 8) 5 = none ∧ semOn.semMisuse 0 2 (some 8) (2 ^ 32 - 1) = none ∧ semOn.semMisuse 0 3 (some 10) 0 = none ∧
    semOn.semMisuse 0 4 (some 9) 0 = none ∧ semOn.semMisuse 0 5 (some 9) 0 = none ∧ mget false semCore.shEvent 2 = true := by
  unfold Issues; decide +kernel

theorem witness_QueueInstructions : Issues h0 (on busy) ∧ legalQ h0 = true ∧ (on busy).queueOk 0 (busy.gv 1).toNat = true ∧
    (busy.av 1).toNat % 512 = 0 ∧ (busy.av 1).toNat < 0x400000 := by
  unfold Issues; decide +kernel

theorem witness_DmaInstruction : Issues h0 (on busy) ∧ zeroOk h0 [(35, 29)] = true ∧ (busy.av 1).toNat % 512 = 0 ∧ 1 ≤ (busy.gv 1).toNat ∧
    (busy.av 1).toNat + (busy.gv 1).toNat ≤ 0x400000 ∧ (busy.av 2).toNat % 64 = 0 ∧ busy.port.length < 16 := by
  unfold Issues; decide +kernel

/-- Operands of the engines: A in a1, B in a2, D in a3, the count in g4. -/
def ef (ab ad : BitVec 4) (rc : BitVec 6) (fa fb fd fn : Nat) : EF := ⟨1, 0, ab, 0, ad, 0, 0, rc, BitVec.ofNat 26 (fa + fb * 16 + fd * 256 + fn * 4096)⟩
def engCore : CoreS := { busy with tune := true, g := [(4, 64), (5, 0), (6, 64 + 16 * 2 ^ 32)], a := [(1, 0x1000), (2, 0x20000), (3, 0x40000)] }

theorem witness_EngineInsn_matrix :
    let s := on engCore
    Issues h0 s ∧ (∀ opc ∈ [0x20, 0x21, 0x24], matLegal opc (ef 2 0 4 2 2 0 0) = true ∧ 1 ≤ (engOp s 0 opc (ef 2 0 4 2 2 0 0)).cnt ∧
      engExc engCore (ef 2 0 4 2 2 0 0) (decide ((engOp s 0 opc (ef 2 0 4 2 2 0 0)).cnt ≤ 1024)) (matrixSpans (engOp s 0 opc (ef 2 0 4 2 2 0 0))) = none ∧
      matLegal opc (ef 2 0 5 2 2 0 0) = true ∧ (engOp s 0 opc (ef 2 0 5 2 2 0 0)).cnt = 0) ∧
    matLegal 0x22 ⟨0, 0, 0, 0, 3, 0, 1, 0, 7 * 256⟩ = true ∧ engExc engCore ⟨0, 0, 0, 0, 3, 0, 1, 0, 7 * 256⟩ true (matrixSpans (engOp s 0 0x22 ⟨0, 0, 0, 0, 3, 0, 1, 0, 7 * 256⟩)) = none ∧
    matLegal 0x23 (ef 0 0 0 7 0 0 0) = true ∧ engExc engCore (ef 0 0 0 7 0 0 0) true (matrixSpans (engOp s 0 0x23 (ef 0 0 0 7 0 0 0))) = none ∧ engCore.mq.length < 8 := by
  unfold Issues; decide +kernel

/-- The word is legal, its operands and count pass their checks, and the queue has room. -/
def vecOk (opc : Nat) (e : EF) : Bool :=
  let s := on engCore
  vecLegal opc e && decide (engExc engCore e (vectorCount (engOp s 0 opc e)) (vectorSpans (engOp s 0 opc e)) = none)

theorem witness_EngineInsn_vector : Issues h0 (on engCore) ∧ engCore.tune = true ∧ engCore.vq.length < 8 ∧
    (∀ fn, fn < 5 → vecOk 0x30 (ef 2 3 4 7 7 7 fn) = true) ∧ vecOk 0x31 (ef 2 3 4 7 7 7 0) = true ∧ (∀ fn, fn < 7 → vecOk 0x32 (ef 0 3 4 7 0 7 fn) = true) ∧
    (∀ fn, fn < 3 → vecOk 0x33 (ef 0 3 4 7 0 7 fn) = true) ∧ vecOk 0x34 (ef 2 3 4 0 0 0 0) = true ∧ vecOk 0x35 (ef 0 0 4 7 0 0 0) = true ∧
    vecOk 0x36 (ef 2 3 4 7 9 2 0) = true ∧ vecOk 0x39 ⟨0, 0, 0, 0, 3, 0, 0, 0, 0⟩ = true ∧ vecOk 0x39 (ef 0 0 0 0 0 0 1) = true ∧
    vecOk 0x3A (ef 2 3 6 7 9 2 0) = true ∧ vecOk 0x3B (ef 2 3 6 7 7 7 0) = true ∧ vecOk 0x3C (ef 2 3 4 7 7 7 0) = true ∧
    vecOk 0x3C (ef 0 0 0 0 0 0 1) = true ∧ vecOk 0x3C ⟨0, 0, 0, 0, 3, 0, 0, 0, 2 * 4096⟩ = true ∧ vecOk 0x3D (ef 0 3 6 6 0 7 0) = true ∧
    vecOk 0x3D (ef 0 3 6 6 0 7 1) = true ∧ vecOk 0x3E (ef 2 3 6 6 0 7 0) = true := by
  unfold Issues; decide +kernel

theorem witness_SeedAndFlagInstructions : Issues h0 (on engCore) ∧ vecLegal 0x37 ⟨0, 0, 0, 0, 0, 0, 0, 4, 0⟩ = true ∧ vecLegal 0x38 ⟨0, 0, 0, 0, 0, 0, 0, 4, 0x1000000⟩ = true ∧
    (on engCore).fenceDone 0 3 = true ∧ Issues h0 (on { engCore with vq := [engOp (on engCore) 0 0x32 (ef 0 3 4 7 0 7 0)] }) ∧
    (on { engCore with vq := [engOp (on engCore) 0 0x32 (ef 0 3 4 7 0 7 0)] }).fenceDone 0 3 = false := by
  unfold Issues; decide +kernel

/-! ### The wheel, waits and requests -/

/-- Core 0 in a cycle in which its control engine has one row to move, at its turn: row 7. -/
def rowAt (kind : CtlKind) (mode tag : Nat) : State :=
  on { busy with cq := [⟨kind, ⟨0, mode, 7, 0⟩, 0x77⟩], tags := mset 0 [] 0 tag }

theorem serves (kind : CtlKind) (mode tag : Nat) : ServesCtl 0 ⟨kind, ⟨0, mode, 7, 0⟩, 0x77⟩ [] (later 0 (rowAt kind mode tag)) := by
  refine ⟨rfl, nofun, rfl, rfl, rfl, rfl, rfl, rfl, rfl, ?_, fun _ => rfl⟩
  show 7 % 8 = (7 + (1500000000 : Int).toNat % 2 ^ 64) % 8
  decide

theorem witness_RowServiceMovesRow : (∀ kind, ServesCtl 0 ⟨kind, ⟨0, 0, 7, 0⟩, 0x77⟩ [] (later 0 (rowAt kind 0 0))) ∧
    (ServesCtl 0 ⟨.strs, ⟨0, 2, 7, 0⟩, 0x77⟩ [] (later 0 (rowAt .strs 2 0)) ∧ mget 0 ((rowAt .strs 2 0).core 0).tags 0 = 0) ∧
    (ServesCtl 0 ⟨.ldrs, ⟨0, 2, 7, 0⟩, 0x77⟩ [] (later 0 (rowAt .ldrs 2 2)) ∧ mget 0 ((rowAt .ldrs 2 2).core 0).tags 0 = 2) ∧
    (ServesCtl 0 ⟨.ldrs, ⟨0, 2, 7, 0⟩, 0x77⟩ [] (later 0 (rowAt .ldrs 2 0)) ∧ mget 0 ((rowAt .ldrs 2 0).core 0).tags 0 = 0) :=
  ⟨fun _ => serves _ _ _, ⟨serves _ _ _, by decide +kernel⟩, ⟨serves _ _ _, by decide +kernel⟩, ⟨serves _ _ _, by decide +kernel⟩⟩

theorem test_rowService_stores : ∃ t, exec (.rowService 0 0) (rowAt .strs 2 0) = .next t ∧ t.spadRow 0 7 = 0x77 ∧ mget 0 (t.core 0).tags 0 = 2 :=
  ⟨_, rfl, by decide +kernel, by decide +kernel⟩

/-- A blocked access of owner 3, since count 0; the waits that can run out. -/
def blk0 : Blk := ⟨⟨0, 2, 7, 0⟩, 0, 0⟩
def stuck : State := sets (on { busy with own := [(3, ⟨[], some blk0⟩), (5, ⟨[], some blk0⟩)] }) [(R.CORE_TAGWAIT_LIMIT_TICKS, 0, 0, 1), (R.CORE_TAGWAIT_DMA_LIMIT_TICKS, 0, 0, 500000000)]
def locked : State :=
  sets (on { busy with cq := [⟨.ldrs, ⟨0, 2, 7, 0⟩, 0⟩], own := [(7, ⟨[], some blk0⟩)] }) [(R.CORE_TAGWAIT_CTRL_LOCAL_DETECT, 0, 0, 1), (R.CORE_TAGWAIT_CTRL_LOCAL_GRACE, 0, 0, 500000000)]

theorem witness_Timeouts_blocks :
    ((mget OwnS.idle (stuck.core 0).own 3).blk = some blk0 ∧ (stuck.core 0).dl = none ∧ stuck.reg R.CORE_TAGWAIT_LIMIT_TICKS 0 ≤ stuck.coreTick 0 - blk0.start ∧
      (stuck.running 0).isSome = true ∧ stuck.bit R.CORE_FAULT_CODE_VALID 0 = false) ∧
    (stuck.oldBlk 0 5 = some blk0 ∧ stuck.reg R.CORE_TAGWAIT_DMA_LIMIT_TICKS 0 ≤ stuck.coreTick 0 - blk0.start) ∧
    (locked.lockedUp 0 = true ∧ locked.bit R.CORE_TAGWAIT_CTRL_LOCAL_DETECT 0 = true ∧ (locked.core 0).lockT = none ∧
      (∀ e ∈ (locked.core 0).own, ∀ x ∈ e.2.blk.toList, x.start + locked.reg R.CORE_TAGWAIT_CTRL_LOCAL_GRACE 0 ≤ locked.coreTick 0) ∧
      locked.reg R.CORE_TAGWAIT_CTRL_LOCAL_GRACE 0 ≤ locked.coreTick 0) := by decide +kernel

def waits : State := sets (on { busy with wait := .sem 1 8 5 0 0, dl := some 500000000 }) [(R.CORE_SEMWAIT_LIMIT_TICKS, 0, 0, 500000000), (R.QUE_SEM_W0_HELD, 0, 8, 1)]
def waitsHeld : State := withDie waits fun d => { d with sems := [(8, ⟨1, 500000000, []⟩)] }

theorem witness_Timeouts_waits :
    ((waits.core 0).wait = .sem 1 8 5 0 0 ∧ waits.reg R.CORE_SEMWAIT_LIMIT_TICKS 0 ≤ waits.coreTick 0 - 0 ∧ waits.bit R.CORE_FAULT_CODE_VALID 0 = false) ∧
    (waitsHeld.smf R.QUE_SEM_W0_HELD 8 = 1 ∧ (waitsHeld.sem 8).expiry ≤ waitsHeld.count 0 ∧ waitsHeld.candidate 1 = false ∧ waitsHeld.clause 1 = some cl ∧ cl.st = .running) ∧
    ((waits.core cl.core).dl = some 500000000 ∧ 500000000 ≤ waits.coreTick 0) := by decide +kernel

/-- A request of core 0 for semaphore `obj`. -/
def rq (fn obj : Nat) : Req := ⟨0, false, fn, obj, 5, 0, 0, 0⟩
def asked (fn obj : Nat) (l : List (Fld × Nat × Nat × Nat)) : State := withDie (sets semOn l) fun d => { d with reqs := [rq fn obj] }

theorem witness_SemaphoreRequestsAndAnswers :
    ((asked 2 8 []).firstSem 0 = some (rq 2 8) ∧ (asked 2 8 []).probeLock (rq 2 8) = false ∧ (asked 2 8 []).semLive (rq 2 8) = true ∧ (asked 2 8 []).smf R.QUE_SEM_W0_HELD 8 = 0) ∧
    ((asked 2 10 []).firstSem 0 = some (rq 2 10) ∧ (asked 2 10 []).probeLock (rq 2 10) = false ∧ (asked 2 10 []).smf R.QUE_SEM_W0_HELD 10 = 1) ∧
    ((asked 5 9 []).firstSem 0 = some (rq 5 9) ∧ (asked 5 9 []).probeLock (rq 5 9) = false ∧ (asked 5 9 []).semLive (rq 5 9) = true ∧
      (asked 5 9 []).smf R.QUE_SEM_W0_COUNT 9 = 4 ∧ (asked 5 9 [(R.QUE_SEM_W0_COUNT, 0, 9, 0)]).smf R.QUE_SEM_W0_COUNT 9 = 0) ∧
    (let s := withDie (on { busy with wait := .sem 2 8 5 1 0 }) fun d => { d with resps := [⟨0, false, 2, 8, true, 0, 0⟩] }
     s.die.resps.find? (fun x => decide (x.core = 0)) = some ⟨0, false, 2, 8, true, 0, 0⟩ ∧ (s.core 0).wait = .sem 2 8 5 1 0) := by decide +kernel

/-! ### Queues, descriptors, transfers -/

/-- Queue 5 of context 1, four places deep, with a ring at device address 0. -/
def qOn (l : List (Fld × Nat × Nat × Nat)) : State :=
  sets mapped ([(R.QUE_CTL_ENABLE, 0, 0, 1), (R.QUE_QCFG_ENABLE, 0, 5, 1), (R.QUE_QCFG_CTX, 0, 5, 1), (R.QUE_TAIL_TAIL, 0, 5, 1)] ++ l)

theorem witness_DoorbellsAndQueueCommands :
    let s := qOn []
    (Reaches .pf (queueOff 0 5 0x18) s ∧ s.doorbellOk 5 1 = true ∧ s.doorbellOk 5 (s.depth 5) = true ∧ s.doorbellOk 5 (s.depth 5 + 1) = false) ∧
    (Reaches .pf (queueOff 0 5 0x28) s ∧ (s.qf R.QUE_DONE_COUNT 5 + 2 ^ 32 - 0) % 2 ^ 32 ≤ s.depth 5 ∧ s.depth 5 < (s.qf R.QUE_DONE_COUNT 5 + 2 ^ 32 - 1) % 2 ^ 32) ∧
    (Reaches .pf (queueOff 0 6 0) (qOn [(R.QUE_QCFG_CTX, 0, 6, 1)]) ∧ (qOn [(R.QUE_QCFG_CTX, 0, 6, 1)]).qf R.QUE_QCFG_ENABLE 6 = 0 ∧ (qOn [(R.QUE_QCFG_CTX, 0, 6, 1)]).queueCtxOk 6 = true ∧
      (qOn [(R.QUE_QCFG_CTX, 0, 6, 2)]).qf R.QUE_QCFG_ENABLE 6 = 0 ∧ (qOn [(R.QUE_QCFG_CTX, 0, 6, 2)]).queueCtxOk 6 = false) ∧
    (Reaches .pf (queOff 0 8) s ∧ s.bit R.QUE_STATUS_BUSY 0 = false ∧ (s.queue 5).fetched = [] ∧ s.qf R.QUE_HEAD_HEAD 5 < 2 ^ 32 ∧ s.qf R.QUE_TAIL_TAIL 5 < 2 ^ 32) ∧
    ((withQueue s 5 { QueS.none with fetched := [dsc] }).queue 5).fetched ≠ [] ∧ (qOn [(R.QUE_STATUS_BUSY, 0, 0, 1)]).bit R.QUE_STATUS_BUSY 0 = true := by
  unfold Reaches; decide +kernel

theorem witness_SemaphoreRegisters :
    (Reaches .pf (semOff 0 8 0) up ∧ up.smf R.QUE_SEM_W0_VALID 8 = 0) ∧
    (Reaches .pf (semOff 0 9 0) semOn ∧ semOn.smf R.QUE_SEM_W0_VALID 9 = 1 ∧ semOn.smf R.QUE_SEM_W0_KIND 9 = 1 ∧ semOn.smf R.QUE_SEM_W0_PART 9 = 0 ∧ semOn.smf R.QUE_SEM_W0_COUNT 9 = 4 ∧
      (0x40002 : BitVec 32).toNat / 2 % 2 = 1 ∧ (0x40002 : BitVec 32).toNat / 2 ^ 16 = 4 ∧ (0x40002 : BitVec 32).toNat % 2 = 0 ∧ semOn.smf R.QUE_SEM_W0_HELD 9 = 0 ∧ (semOn.sem 9).waiters = []) ∧
    (Reaches .pf (semOff 0 9 1) semOn ∧ semOn.smf R.QUE_SEM_W0_COUNT 9 ≤ 65535 ∧ 65535 < semOn.smf R.QUE_SEM_W0_COUNT 9 + (65535 : BitVec 16).toNat) := by
  unfold Reaches; decide +kernel

/-- Descriptor 0 of queue 5 with some raw bytes, first of those fetched. -/
def dq (raw : Nat) (l : List (Fld × Nat × Nat × Nat)) : State := withQueue (qOn l) 5 { QueS.none with fetched := [{ dsc with raw := raw }] }
/-- The same behind a descriptor that has started. -/
def dq2 (raw : Nat) (l : List (Fld × Nat × Nat × Nat)) : State :=
  withQueue (qOn l) 5 { QueS.none with fetched := [{ dsc with started := true }, { dsc with n := 1, raw := raw }] }

theorem witness_Descriptors_enter :
    (let s := qOn []
     s.bit R.QUE_CTL_ENABLE 0 = true ∧ s.fetchStopped 0 = false ∧ s.fetchTurn 0 = some 5 ∧ s.daRead 0 (s.qf R.QUE_QCFG_CTX 5) (s.ringAt 5 (s.qf R.QUE_HEAD_HEAD 5)) 128 = .ok 0 ∧
       opKnown (s.qf R.QUE_QCFG_KIND 5) (0 % 256) = true) ∧
    (let r : Req := ⟨0, true, 0, 5, 0, 0, 2 ^ 1024, 0⟩
     let s := withDie (qOn [(R.QUE_QCFG_PRODUCER, 0, 5, 1)]) fun d => { d with reqs := [r] }
     s.firstQue 0 = some r ∧ s.queRefusal r.obj = none ∧ s.queFull r.obj = false ∧
       s.daWriteFault 0 (s.qf R.QUE_QCFG_CTX 5) (s.qf R.QUE_RING_BASE_ADDR 5 * 4096 + 128 * (s.qf R.QUE_TAIL_TAIL 5 % s.depth 5)) 128 = none) := by decide +kernel

theorem witness_Descriptors_start :
    ((dq 0 []).qf R.QUE_QCFG_KIND 5 = 0 ∧ ((dq 0 []).queue 5).fetched.find? (fun x => decide (x.n = 0)) = some { dsc with raw := 0 } ∧
      ((dq 0 []).queue 5).fetched.find? (fun x => !x.started && x.endSt.isNone && decide (x.raw % 256 = 0)) = some { dsc with raw := 0 } ∧ plainOk 0 = true ∧ bitOf 0 9 = false) ∧
    (let raw := dsc.raw
     ((dq raw []).queue 5).nextUp = some { dsc with raw := raw } ∧ raw % 256 = 1 ∧ (dq raw []).copyOk 5 raw = true ∧ bitOf raw 9 = false) ∧
    (let raw := dsc.raw + 1
     ((dq raw []).queue 5).nextUp = some { dsc with raw := raw } ∧ raw % 256 = 2 ∧ (dq raw []).copyOk 5 raw = true ∧ bitOf raw 9 = false) ∧
    (let raw := dsc.raw + 0x800
     raw % 256 = 1 ∧ (dq raw []).copyOk 5 raw = false ∧ ((dq raw []).queue 5).nextUp = some { dsc with raw := raw }) ∧
    (plainOk 3 = true ∧ ((dq 3 []).queue 5).nextUp = some { dsc with raw := 3 } ∧ ((dq 3 []).queue 5).first 0 = true) ∧
    (((dq2 3 []).queue 5).nextUp = some { dsc with n := 1, raw := 3 } ∧ ((dq2 3 []).queue 5).first 1 = false) ∧
    (let raw := dsc.raw + 0x200
     raw % 256 = 1 ∧ (dq raw []).copyOk 5 raw = true ∧ ((dq raw []).queue 5).first 0 = true ∧ bitOf raw 9 = true) := by decide +kernel

theorem test_dmaCopy_starts : ∃ t, exec (.dmaCopy 0 5) (dq dsc.raw []) = .next t ∧ (t.xfer 0).map (fun v => (v.src, v.dst, v.len)) = some (.dev 0, .dev 0x10000, 64) :=
  ⟨_, rfl, by decide +kernel⟩

def dEnd (l : List (Fld × Nat × Nat × Nat)) : State := withQueue (qOn l) 5 { QueS.none with ending := [{ dsc with endSt := some 0 }], irqSince := some 0 }

theorem witness_CompletionsAndInterrupts :
    ((dEnd []).queue 5).ending = { dsc with endSt := some 0 } :: [] ∧ ((dEnd []).queue 5).recWait = false ∧ bitOf dsc.raw 8 = false ∧ bitOf dsc.raw 10 = false ∧
    (dEnd []).qf R.QUE_QCFG_CQ_EN 5 = 0 ∧
    (let s := dEnd [(R.QUE_QCFG_CQ_EN, 0, 5, 1), (R.QUE_QCFG_CQ_HOST, 0, 5, 1)]
     s.qf R.QUE_QCFG_CQ_EN 5 = 1 ∧ s.qf R.QUE_QCFG_CQ_HOST 5 = 1 ∧ (s.qf R.QUE_DONE_COUNT 5 + 2 ^ 32 - s.qf R.QUE_CQ_HEAD_CONSUMED 5) % 2 ^ 32 ≠ s.depth 5) ∧
    (let s := dEnd [(R.QUE_QCFG_CQ_EN, 0, 5, 1), (R.QUE_QCFG_CQ_HOST, 0, 5, 1), (R.QUE_DONE_COUNT, 0, 5, (qOn []).depth 5)]
     (s.qf R.QUE_DONE_COUNT 5 + 2 ^ 32 - s.qf R.QUE_CQ_HEAD_CONSUMED 5) % 2 ^ 32 = s.depth 5) ∧
    (let s := { dEnd [(R.QUE_IRQ_EN, 0, 5, 1), (R.QUE_IRQ_TIME, 0, 5, 10), (R.QUE_IRQ_VECTOR, 0, 5, 3)] with host := { HostS.reset with unmask := [(3, true)] } }
     (s.queue 5).irqSince = some 0 ∧ s.qf R.QUE_IRQ_EN 5 = 1 ∧ s.qf R.QUE_IRQ_TIME 5 ≠ 0 ∧ 0 + s.qf R.QUE_IRQ_TIME 5 * 1500 ≤ s.t ∧
       s.vecOwner (s.qf R.QUE_IRQ_VECTOR 5) = (0, s.qf R.QUE_IRQ_VECTOR 5) ∧ mget false s.host.unmask (s.qf R.QUE_IRQ_VECTOR 5) = true) := by decide +kernel

def withXfer (s : State) (v : Xfer) : State := withDie s fun d => { d with xfers := [(0, some v)], nextX := 1 }
/-- The transfer on copy engine 0 with its one segment in some stage. -/
def sg (st : SegSt) : Seg := ⟨0, 0, 2, 0, 2, 64, 0x1234, st, false⟩
def xfAt (st : SegSt) : State := withXfer mapped { xf with place := 1, k := 1, segs := [sg st] }

theorem witness_TransferProgress_starts :
    (let s := withXfer mapped xf
     s.xfer 0 = some xf ∧ xf.place = 0 ∧ xf.fin = none ∧ xf.ag = none ∧ s.earlierWaits xf = false ∧ s.imaged 0 = false ∧ s.portHeld xf = false ∧ xferCores xf = [] ∧
       s.freeEngine xf.die = some 0) ∧
    (let v := { xf with place := 1 }
     let s := withXfer mapped v
     s.xfer 0 = some v ∧ v.fin = none ∧ v.susp = none ∧ v.k < v.segCount ∧ s.onTurn 0 v = true ∧ v.scatterBusy = false ∧ s.ops v.die none < 4096 ∧
       s.ops v.die (some v.part) < s.reg R.QUE_PART_OPS_LIMIT v.die v.part ∧ s.sidePeer v v.src (v.segAt 0).1 false = none ∧ s.sidePeer v v.dst (v.segAt 0).1 true = none ∧
       s.segFault v 0 false false = none ∧ s.bit R.CHR_STATUS_QUIESCE = false ∧
       ∀ d ∈ s.homes v false ((v.reads 0).map Prod.fst) ++ s.homes v true ((v.writes 0 0).map Prod.fst), s.inReset 2 d = false ∧ s.pwrState d = 0 ∧ s.entering d = none) := by
  decide +kernel

theorem witness_TransferProgress_moves :
    (let s := xfAt .needRead
     let v := { xf with place := 1, k := 1, segs := [sg .needRead] }
     let rd := (v.reads 0).map Prod.fst
     s.xfer 0 = some v ∧ s.seg 0 0 = some (sg .needRead) ∧ (sg .needRead).srcKind = 2 ∧ (∀ a ∈ rd, s.scrubbing v a false = false) ∧
       (∀ d ∈ s.homes v false rd, s.inReset 2 d = false ∧ s.pwrState d = 0 ∧ s.entering d = none) ∧ s.firstBad v false rd = none ∧ ∀ r ∈ v.reads 0, s.badKind v r.1 r.2 = 0) ∧
    (let s := xfAt .haveData
     let v := { xf with place := 1, k := 1, segs := [sg .haveData] }
     let wr := (v.writes 0 0x1234).map Prod.fst
     s.seg 0 0 = some (sg .haveData) ∧ (sg .haveData).dstKind = 2 ∧ (∀ a ∈ wr, s.scrubbing v a true = false) ∧ (v.writes 0 0).map Prod.fst = wr ∧ s.firstBad v true wr = none ∧
       (∀ w ∈ v.writes 0 0x1234, s.writePoison v w.1 w.2.1 = false)) ∧
    (let v := { xf with place := 1, len := 1024, k := 1, segs := [sg .ended] }
     let s := withXfer mapped v
     s.seg 0 0 = some (sg .ended) ∧ 0 = v.done ∧ v.fin = none ∧ v.done + 1 < v.segCount ∧ s.cores = []) ∧
    (let v := { xf with place := 1, susp := some 0x8000 }
     let s := withXfer mapped v
     s.xfer 0 = some v ∧ v.susp = some 0x8000 ∧ s.migWaits 0x8000 = false ∧ bitOf (s.dramGet 0x8000 8) 3 = false ∧ s.imaged 0 = false) := by decide +kernel

theorem test_dramAccess_writes : ∃ t, exec (.dramAccess 0 0 0) (xfAt .haveData) = .next t ∧ t.dramGet 0x20000 64 = 0x1234 ∧ (t.seg 0 0).map (fun g => g.st) = some .ended :=
  ⟨_, rfl, by decide +kernel, by decide +kernel⟩

theorem witness_DramReadAfterWrite : (∀ p ∈ List.range 16, mapped.reg R.XLT_MIG_CFG_ENTRIES 0 p = 0) ∧ (∀ u ∈ unitsOf 0x3F 2, mget 0 mapped.die.errs u ≠ 2) ∧ mget 0 (withDie mapped fun d => { d with errs := [(5, 2)] }).die.errs 5 = 2 := by
  decide +kernel

/-! ### Clauses -/

/-- Queue 5 holds one clause descriptor; program 0 of partition 0 stands at 0x20000; core 0 is the partition's. -/
def cq (raw : Nat) (l : List (Fld × Nat × Nat × Nat)) : State :=
  let s := withQueue (qOn ([(R.QUE_QCFG_KIND, 0, 5, 1), (R.SEQ_PROG_BASE_PA, 0, 0, 0x20), (R.SEQ_PROG_CFG_ENTRIES, 0, 0, 1), (R.CORE_STATUS_PART_VALID, 0, 0, 1)] ++ l)) 5
    { QueS.none with fetched := [{ dsc with raw := raw }] }
  { s with dram := memWrite s.dram 0x20000 64 (512 * 2 ^ 96 + 2 ^ 192) }
def cq2 (raw : Nat) : State := withQueue (cq raw []) 5 { QueS.none with fetched := [{ dsc with started := true }, { dsc with n := 1, raw := raw }] }

theorem witness_ClauseDescriptors :
    (let s := cq 1 []
     let e := 512 * 2 ^ 96 + 2 ^ 192
     let k := s.mkClause 5 { dsc with raw := 1 } e
     s.qf R.QUE_QCFG_KIND 5 = 1 ∧ (s.queue 5).fetched.find? (fun x => decide (x.n = 0)) = some { dsc with raw := 1 } ∧
       (s.queue 5).fetched.find? (fun x => !x.started && x.endSt.isNone && decide (x.raw % 256 = 1)) = some { dsc with raw := 1 } ∧ s.clauseCheck 5 1 = .inr e ∧
       s.inReset 2 (dieOf k.core) = false ∧ s.entering (dieOf k.core) = none ∧ s.killing k.ctx = false) ∧
    (cq (1 + 2 ^ 24) []).clauseCheck 5 (1 + 2 ^ 24) = .inl 3 ∧ (cq (1 + 2 ^ 12) []).clauseCheck 5 (1 + 2 ^ 12) = .inl stDescFormat ∧
    (clausePlainOk 0 = true ∧ bitOf 0 9 = false ∧ ((cq 0 []).queue 5).fetched.find? (fun x => !x.started && x.endSt.isNone && decide (x.raw % 256 = 0)) = some { dsc with raw := 0 }) ∧
    (clausePlainOk 0x400 = false ∧ ((cq 0x400 []).queue 5).fetched.find? (fun x => !x.started && x.endSt.isNone && decide (x.raw % 256 = 0)) = some { dsc with raw := 0x400 }) ∧
    (clausePlainOk 3 = true ∧ ((cq 3 []).queue 5).first 0 = true ∧ ((cq2 3).queue 5).first 1 = false ∧ (cq2 3).qf R.QUE_QCFG_KIND 5 = 1) := by decide +kernel

/-- Clause 1 waits for core 0, which nothing holds; or it is in another stage. -/
def idleCore (k : ClauseS) (l : List (Fld × Nat × Nat × Nat)) : State :=
  withSch (withCore (sets up l) 0 { CoreS.reset with cycRun := true }) fun d => { d with clauses := [(1, some k)], nextC := 2 }
def wcl : ClauseS := { cl with st := .waiting, queue := 32768 }

theorem witness_ClauseChoiceAndAging :
    (∀ k ∈ [wcl, { wcl with code := 0x8000, rows := 1 }, { wcl with st := .suspended }], (idleCore k []).clause 1 = some k ∧ (idleCore k []).coreOpen 0 = true ∧
      (idleCore k []).inRecovery 0 = false ∧ (idleCore k []).throttled 0 = false ∧ ((idleCore k []).choose 0).map (fun r => (r.1, r.2.1)) = some (1, k)) ∧
    wcl.sus = false ∧ wcl.code = 0 ∧ { wcl with st := .suspended }.sus = true ∧ (on busy).coreOpen 0 = false ∧
    (let s := idleCore wcl [(R.SEQ_AGE_AGE_LIMIT, 0, 0, 500000000)]
     wcl.st = .waiting ∧ wcl.eclass < 3 ∧ s.reg R.SEQ_AGE_AGE_LIMIT 0 0 ≠ 0 ∧ wcl.waitBase + s.reg R.SEQ_AGE_AGE_LIMIT 0 0 ≤ (later 0 s).coreTick 0) := by decide +kernel

theorem witness_ClauseStartState :
    let k := { wcl with st := .chosen }
    let s := idleCore k []
    s.chosenOn 0 = some (1, k) ∧ s.clause 1 = some k ∧ k.streams = [] ∧ s.strReady k = true ∧ (s.core 0).cycRun = true := by decide +kernel

theorem test_clauseStart : ∃ t, exec (.clauseStart 0) (idleCore { wcl with st := .chosen } []) = .next t ∧ (t.core 0).gv 1 = 7 ∧ (t.core 0).pc = 512 := ⟨_, rfl, by decide +kernel, by decide +kernel⟩

def ending (held : List Nat) : State := withQueue (on { busy with wait := .cend 0, held := held }) 5 { QueS.none with fetched := [{ dsc with started := true }] }

theorem witness_ClauseEndOutcomes :
    (let s := ending []
     s.running 0 = some cl ∧ (s.core 0).wait = .cend 0 ∧ s.fenceDone 0 0x1F = true ∧ cl.core = 0 ∧ (s.core 0).held = [] ∧ s.probeCore 1 = none ∧ s.imageOf 1 cl = none ∧ cl.queue < 32768 ∧
       (s.queue cl.queue).fetched.find? (fun x => decide (x.n = cl.n)) = some { dsc with started := true } ∧ dsc.endSt = none) ∧
    (let s := ending [8]
     s.running 0 = some cl ∧ (s.core 0).wait = .cend 0 ∧ s.fenceDone 0 0x1F = true ∧ (s.core 0).held ≠ [] ∧ s.bit R.CORE_FAULT_CODE_VALID 0 = false) := by decide +kernel

/-- Clause 1 runs on core 0 and a clause of a higher class waits for it. -/
def takes (s : State) : State :=
  withSch (withCore (sets s [(R.SEQ_SCHED_PREEMPT, 0, 0, 1), (R.SEQ_KICK_CFG_MAX, 0, 0, 1)]) 0 { busy with lastRow := some 1 }) fun d =>
    { d with clauses := [(1, some cl), (2, some { wcl with dclass := 2 })], nextC := 3 }
def im0 : Image := ⟨busy, [(3, 9)], [], [], 0, 1, [], []⟩
def inKick (restore : Bool) (st : ClSt) (l : List (Fld × Nat × Nat × Nat)) : State :=
  withSch (withCore (sets mapped ((R.CORE_STATUS_SAVE, 0, 0, 1) :: l)) 0 { busy with dl := none }) fun d =>
    { d with clauses := [(1, some { cl with st := st })], nextC := 2, kicks := [(0, some ⟨restore, 0, 1, 0⟩)], images := if restore then [(0, some im0)] else [] }

theorem witness_KickstandSave :
    (let s := takes mapped
     s.running 0 = some cl ∧ s.preempts 0 = true ∧ s.takeable 0 = true ∧ cl.core = 0 ∧ s.slotFree 0 cl.eclass cl.part = true ∧ s.sch.kickQ = [] ∧ s.kicksOn 0 < s.reg R.SEQ_KICK_CFG_MAX) ∧
    (let s := takes up
     s.running 0 = some cl ∧ s.preempts 0 = true ∧ s.takeable 0 = true ∧ s.slotFree 0 cl.eclass cl.part = false) ∧
    (let s := inKick false .saving []
     mget none s.sch.kicks 0 = some ⟨false, 0, 1, 0⟩ ∧ s.clause 1 = some { cl with st := .saving } ∧ cl.deadline = none ∧ (s.core 0).dl = none ∧ (∀ e ∈ s.die.sems, e.2.clause ≠ 1) ∧
       cl.slot = 0 ∧ s.portQuiet (s.ctxXfers 0 cl.ctx) = true) ∧
    (let v := { xf with place := 9, dst := .spad 0 0, segs := [{ sg .peerWait with srcKind := 4 }] }
     let s := withCore (withXfer (inKick false .saving []) v) 0 { busy with port := [0] }
     mget none s.sch.kicks 0 = some ⟨false, 0, 1, 0⟩ ∧ s.fabOut (s.ctxXfers 0 cl.ctx) = true ∧ s.reg R.SEQ_KICK_CFG_DRAIN ≤ (later 0 s).coreTick 0 - 0 ∧ cl.queue ≠ 32768) := by decide +kernel

theorem witness_KickstandRestore :
    (let k := { cl with st := .restoring }
     let s := withSch (sets mapped [(R.SEQ_KICK_CFG_MAX, 0, 0, 1)]) fun d => { d with clauses := [(1, some k)], images := [(0, some im0)] }
     s.clauseList.find? (fun e => decide (e.2.core = 0) && decide (e.2.st = .restoring)) = some (1, k) ∧ mget none s.sch.kicks 0 = none ∧ s.sch.kickQ = [] ∧
       s.kicksOn 0 < s.reg R.SEQ_KICK_CFG_MAX ∧ s.imageOf 1 k = some im0 ∧ s.strsOn 0 = []) ∧
    (let k := { cl with st := .restoring }
     let s := inKick true .restoring []
     mget none s.sch.kicks 0 = some ⟨true, 0, 1, 0⟩ ∧ s.clause 1 = some k ∧ (later 0 s).imageOf 1 k = some im0 ∧ k.deadline = none ∧ im0.core.dl = none ∧ (∀ e ∈ s.die.sems, e.2.clause ≠ 1) ∧
       s.slotBad 0 0 = none ∧ mwf (0 : Row) im0.spad = true ∧ (∀ e ∈ im0.spad, e.1 / 8192 = 0) ∧ (∀ e ∈ im0.regs, savedKey 0 e.1 = true)) := by decide +kernel

/-! ### Translation, migration, DRAM -/

theorem witness_InvalidationCommands :
    (Reaches .pf (xltOff 0 0x10) up ∧ up.bit R.XLT_INV_STATUS_BUSY 0 = false ∧ (1 : BitVec 16) ≠ 0) ∧
    (Reaches .pf (xltOff 3 0x10) (sets up [(R.XLT_INV_STATUS_BUSY, 3, 0, 1)]) ∧ (sets up [(R.XLT_INV_STATUS_BUSY, 3, 0, 1)]).reg R.XLT_INV_STATUS_BUSY 3 = 1) ∧
    (let v : Inv := ⟨0, 2, 1, 0, 0⟩
     let s := withDie mapped fun d => { d with invs := [v], tlb := [(2 ^ 32, some ⟨0x105, 0x8000⟩)] }
     s.die.invs.find? (fun x => decide (x.die = 0)) = some v ∧ s.invBusy v = false ∧ v.covers 1 0 = true) := by unfold Reaches; decide +kernel

def mg : Mig := ⟨0x8000, 0x102, 0, 0, 5, 0, 0, 0, false, 1, 0⟩
def migOn (l : List (Fld × Nat × Nat × Nat)) : State := withDie (sets mapped l) fun d => { d with migs := [(0, some mg)] }

/-- A migration whose level-2 entry (at 0x8018) and frame-table entry (at 0x9000) are as it left them, or with the entry changed by software. -/
def migRun (e : Nat) : State :=
  let s := sets mapped [(R.XLT_MIG_BASE_PA, 0, 0, 9), (R.XLT_MIG_CFG_ENTRIES, 0, 0, 1)]
  withDie { s with dram := memWrite (memWrite (memWrite s.dram 0x8018 8 e) 0x9000 8 0x50001) 0x9008 8 0x8018 } fun d => { d with migs := [(0, some { mg with pte := 0x8018, old := 0x10000000A })] }

theorem witness_MigrationOutcomes_wins :
    (let s := migRun 0x10000000A
     let m := { mg with pte := 0x8018, old := 0x10000000A }
     s.mig 0 0 = some m ∧ s.migWins 0 m = true ∧ (migRun 0).migWins 0 m = false ∧ m.pte / 65536 ≠ m.frame ∧ s.frameAt 0 m.part m.idx / 65536 ≠ m.frame ∧ m.pte % 8 = 0) := by decide +kernel

theorem test_translation_order :
    (let s := sets mapped [(R.DMC_GROUP_PART, 0, 0, 3)]
     s.translate 0 1 0x30000 false none = .fault 1 none ∧ s.translate 0 1 0x40 false none = .fault 3 none) := by decide +kernel

theorem witness_MigrationOutcomes :
    (let s := migOn [(R.XLT_MIG_TIMEOUT_US, 0, 0, 1000)]
     s.mig 0 0 = some mg ∧ s.die.migQ = [] ∧ s.fab.held = [] ∧ s.isNvme 0 mg = false ∧ s.die.xfers = [] ∧ mg.since + s.reg R.XLT_MIG_TIMEOUT_US 0 * 1500 ≤ s.t) ∧
    (let s := migOn [(R.XLT_BULK_SRC_CFG_KIND, 0, 0, 1)]
     s.isNvme 0 mg = true ∧ s.mig 0 0 = some mg ∧ s.mig ((0x1000000 - 0x1000000) / 0x10000 / 16) 0 = some mg ∧ mg.landed = false) ∧
    Reaches .pf (xltOff 0 0) mapped ∧
    (let s := sets mapped [(R.XLT_CTL_MIG_ENABLE, 0, 0, 1)]
     s.bit R.XLT_CTL_MIG_ENABLE 0 = true ∧ s.bit R.XLT_CTL_SWEEP_DONE 0 = false) := by unfold Reaches; decide +kernel

theorem witness_DramControllerWork :
    (let s := sets mapped [(R.DMC_GROUP_ECC, 0, 0, 1), (R.DMC_PATROL_ENABLE, 0, 0, 1)]
     s.grp (0x10040 / 64 * 64) = some 0 ∧ s.bit R.DMC_PATROL_ENABLE 0 = true ∧ paDie (0x10040 / 64 * 64) = 0 ∧ s.bit R.DMC_GROUP_ECC 0 0 = true) ∧
    (mget 0 up.die.mr4Low 0 = 0 ∧ 1 ≤ mget 0 (withDie up fun d => { d with mr4Low := [(0, 1)] }).die.mr4Low 0) ∧
    (let s := sets up [(R.DMC_GROUP_CHMASK, 1, 2, 0xF), (R.DMC_GROUP_SCRUB_ON_EN, 1, 2, 1)]
     Reaches .pf (groupOff 1 2) s ∧ s.reg R.DMC_GROUP_ENABLE 1 2 = 0 ∧ s.groupOk 1 2 = true ∧ s.bit R.DMC_GROUP_SCRUB_ON_EN 1 2 = true ∧ up.groupOk 1 2 = false ∧ up.reg R.DMC_GROUP_ENABLE 1 2 = 0) ∧
    (sets mapped [(R.DMC_GROUP_SCRUB, 0, 0, 1)]).bit R.DMC_GROUP_SCRUB 0 0 = true := by unfold Reaches; decide +kernel

/-! ### Chainring and Flifer -/

/-- Every Chainring link in a state, or only those listed. -/
def links (st : Nat) (l : List Nat) : List (Fld × Nat × Nat × Nat) := l.map (fun k => (R.CHR_LINK_STATUS_STATE, 0, k, st))
def ring (l : List (Fld × Nat × Nat × Nat)) : State := sets up (links 1 (List.range 8) ++ l)
def withLink (s : State) (k : ChrL) : State := { s with chr := [(4, k)] }

theorem witness_ChainringLinks_live :
    (ring []).linkLive 4 = true ∧ (withLink (ring []) { ChrL.reset with fails := 15 }).linkLive 4 = true ∧ ((withLink (ring []) { ChrL.reset with fails := 15 }).link 4).fails < 16 ∧
    (withLink (ring []) { ChrL.reset with fails := 16 }).linkLive 4 = true ∧ 16 ≤ ((withLink (ring []) { ChrL.reset with fails := 16 }).link 4).fails ∧
    (ring []).parked 4 = false ∧ (ring []).endReset 4 = false ∧ min ((ring []).link 4).okUp ((ring []).link 4).okDn + 3000 ≤ (ring []).t ∧
    (let s := ring [(R.CHR_STATUS_QUIESCE, 0, 0, 1)]
     s.bit R.CHR_STATUS_QUIESCE = true ∧ (∀ q, q < 8 → s.linkUse q = true → (s.link q).unackUp = 0 ∧ (s.link q).unackDn = 0) ∧ s.cutOff s.linkUse = []) := by decide +kernel

theorem witness_ChainringLinks_training :
    (up.linkSt 4 = 0 ∧ up.pkg.held = false ∧ bitOf (up.reg R.CHR_STATUS_DETOUR) 4 = false ∧ (up.link 4).since + 1500000 ≤ up.t) ∧
    bitOf ((sets up [(R.CHR_STATUS_DETOUR, 0, 0, 16)]).reg R.CHR_STATUS_DETOUR) 4 = true ∧ (sets up [(R.CHR_STATUS_DETOUR, 0, 0, 16)]).linkSt 4 = 0 ∧
    (sets up (links 4 [4])).linkSt 4 = 4 ∧
    (let s := sets up ((R.CHR_CTL_RESTORE_AUTO, 0, 0, 1) :: links 3 [4])
     s.linkSt 4 = 3 ∧ s.bit R.CHR_CTL_RESTORE_AUTO = true ∧ (s.link 4).bySw = false ∧ (s.link 4).since + (if (s.link 4).tries = 0 then 1 else 100) * 1500000 ≤ s.t) ∧
    (Reaches .pf (chrOff 0) (ring []) ∧ (ring []).linkSt 4 ≠ 3 ∧ (ring []).cutOff (fun q => decide (q ≠ 4) && (ring []).linkUse q) = []) ∧
    (let s := sets up (links 1 (List.range 5))
     Reaches .pf (chrOff 0) s ∧ s.cutOff (fun q => decide (q ≠ 4) && s.linkUse q) ≠ []) := by unfold Reaches; decide +kernel

/-- Package 0 with port 0 up and a route to package 1 through it. -/
def fabS (l : List (Fld × Nat × Nat × Nat)) : State :=
  sets mapped ([(R.FAB_CFG_ENABLE, 0, 0, 1), (R.FAB_CFG_PORT_EN, 0, 0, 0x3F), (R.FAB_PORT_STATUS_STATE, 0, 0, 2), (R.FAB_ROUTE_VALID, 0, 1, 1), (R.FAB_PEER_MASK_MASK, 0, 0, 2)] ++ l)
def withFab (s : State) (f : FabS → FabS) : State := { s with fab := f s.fab }

theorem witness_FabricPorts :
    ((fabS []).portUp 0 = true ∧ ((fabS []).fport 0).wait = [] ∧ ((fabS []).fport 0).fails < 16 ∧ ((fabS []).fport 0).lastOk + (fabS []).reg R.FAB_TIMEOUT_LINK_US * 1500 ≤ (fabS []).t ∧
      ((fabS []).fport 0).upSince + (fabS []).reg R.FAB_PERIOD_RESTORE_MS * 1500000 ≤ (fabS []).t + 1500000000) ∧
    16 ≤ ((withFab (fabS []) fun f => { f with ports := [(0, { FPort.reset with fails := 16 })] }).fport 0).fails ∧
    (let s := fabS [(R.FAB_ROUTE_ALT_EN, 0, 1, 1), (R.FAB_ROUTE_ALT, 0, 1, 5), (R.FAB_PORT_STATUS_STATE, 0, 5, 2)]
     s.bit R.FAB_ROUTE_VALID 0 1 = true ∧ s.reg R.FAB_ROUTE_PRIMARY 0 1 = 0 ∧ s.bit R.FAB_ROUTE_USING_ALT 0 1 = false ∧ s.bit R.FAB_ROUTE_ALT_EN 0 1 = true ∧ s.reg R.FAB_ROUTE_ALT 0 1 < 6 ∧
       s.reg R.FAB_ROUTE_ALT 0 1 ≠ 0 ∧ s.portUp (s.reg R.FAB_ROUTE_ALT 0 1) = true) ∧
    ((fabS []).portUp 1 = false ∧ bitOf ((fabS []).reg R.FAB_CFG_PORT_EN) 1 = true ∧ 2 ≤ ((List.range 4).filter (fun k => bitOf 3 k)).length ∧
      ((List.range 4).filter (fun k => bitOf 1 k)).length < 2 ∧ (fabS []).reg R.FAB_PORT_STATUS_STATE 0 1 ≠ 3) ∧
    (let s := withFab (fabS []) fun f => { f with ports := [(0, { FPort.reset with stall := [(4, some 0)] })] }
     mget none (s.fport 0).stall 4 = some 0 ∧ 0 + s.reg R.FAB_TIMEOUT_LINK_US * 1500 < s.t) := by decide +kernel

/-- A packet of package 1 for window 0, 64 bytes at offset 0. -/
def pk : Pkt := ⟨0, false, 1, 0, 0, 0, 0, 0, 64, 0, 7, 3, 0⟩
/-- Window 0 open on a base. -/
def winS (base : Nat) (l : List (Fld × Nat × Nat × Nat)) : State :=
  fabS ([(R.FAB_WIN_CTL_OPEN, 0, 0, 1), (R.FAB_WIN_CTL_RD_EN, 0, 0, 1), (R.FAB_WIN_CTL_WR_EN, 0, 0, 1), (R.FAB_WIN_CTL_CTX, 0, 0, 1), (R.FAB_WIN_SIZE_PAGES, 0, 0, 1),
    (R.FAB_WIN_PEERS_MASK, 0, 0, 2), (R.FAB_WIN_BASE_ADDR, 0, 0, base)] ++ l)

theorem witness_FabricPackets_arrive : Arrives 0 pk (winS 0x80001000 []) ∧
    (let s := winS 0x80001000 []
     let q : PktS := ⟨1, pk, 0xAB, 0⟩
     let r : PktS := ⟨2, pk, 0, 0⟩
     FSeen.look (mget none s.fab.recs 1) pk.psn.toNat = some 0 ∧ s.winCheck q = none ∧ s.winMem q = .ok ∧ s.winRuns q = [(0x800010000000, 64)] ∧ s.winLook q 0x800010000000 = .hub 0 ∧
       s.winCheck r = none ∧ s.winMem r = .ok ∧ s.winRuns r = [(0x800010000000, 64)] ∧ s.winLook r 0x800010000000 = .hub 0 ∧ (s.route 1).isSome = true) ∧
    (let s := winS 0 []
     let q : PktS := ⟨1, pk, 0xAB, 0⟩
     s.winCheck q = none ∧ s.winMem q = .ok ∧ s.winRuns q = [(0, 64)] ∧ s.winLook q 0 = .dram 0x10000 0x8000 0x105) ∧
    (let s := winS 0 [(R.FAB_WIN_CTL_RD_EN, 0, 0, 0), (R.FAB_WIN_CTL_WR_EN, 0, 0, 0)]
     s.winCheck ⟨1, pk, 0xAB, 0⟩ = some 4 ∧ s.winCheck ⟨2, pk, 0, 0⟩ = some 4) ∧
    (FSeen.look (mget none (withFab (winS 0 []) fun f => { f with recs := [(1, some ⟨7, [(7, 0)]⟩)] }).fab.recs 1) 7 = some 1) ∧
    (FSeen.look (mget none (withFab (winS 0 []) fun f => { f with recs := [(1, some ⟨2055, []⟩)] }).fab.recs 1) 7 = none) := by
  unfold Arrives; decide +kernel

def pend1 (rd : Bool) : FPend := ⟨1, 7, 3, 0, 0, rd, 0, 0, 64⟩
def pendS (rd : Bool) : State := withFab (withXfer (fabS []) { xf with place := 1, k := 1, segs := [sg .peerWait] }) fun f => { f with pend := [pend1 rd] }

theorem witness_FabricPackets_answers :
    Arrives 0 pk (pendS false) ∧ (fabS []).fab.pend.find? (fun e => decide (e.psn = pk.psn.toNat) && decide (e.tag = pk.tag.toNat)) = none ∧
    (∀ rd, (pendS rd).xfer (pend1 rd).x = some { xf with place := 1, k := 1, segs := [sg .peerWait] } ∧
      (pendS rd).fab.pend.find? (fun e => decide (e.psn = pk.psn.toNat) && decide (e.tag = pk.tag.toNat) && decide (e.isRead = rd)) = some (pend1 rd)) ∧
    (pendS false).bit R.FAB_NACK_LAST_VALID = false ∧ (sets (pendS false) [(R.FAB_NACK_LAST_VALID, 0, 0, 1)]).bit R.FAB_NACK_LAST_VALID = true ∧
    bitOf ((pendS false).reg R.FAB_PEER_MASK_MASK) 1 = true := by unfold Arrives; decide +kernel

theorem witness_PeersAndWindows :
    ((pendS false).fab.pend.find? (fun e => decide (e.x = 0) && decide (e.k = 0)) = some (pend1 false) ∧ (pend1 false).since + (pendS false).reg R.FAB_TIMEOUT_E2E_MS * 1500000 ≤ (pendS false).t) ∧
    ((fabS []).bit R.FAB_CFG_ENABLE = true ∧ (fabS []).fab.presAt + (fabS []).reg R.FAB_PERIOD_PRESENCE_US * 1500 ≤ (fabS []).t ∧ (fabS []).peers = [1] ∧ ((fabS []).route 1).isSome = true) ∧
    (let s := fabS [(R.FAB_PEER_UP_UP, 0, 0, 2)]
     bitOf (s.reg R.FAB_PEER_UP_UP) 1 = true ∧ mget 0 s.fab.heard 1 + s.reg R.FAB_TIMEOUT_PEER_US * 1500 ≤ s.t) ∧
    Reaches .pf (fabOff 0x20 + 4 * (63 / 32)) (fabS []) ∧
    (let s := winS 0 [(R.FAB_WIN_CTL_OPEN, 0, 0, 0), (R.FAB_PART_W0_EN, 0, 0, 1)]
     Reaches .pf (winOff 0 0) s ∧ s.bit R.FAB_WIN_CTL_OPEN 0 0 = false ∧ s.openOk 0 = true) ∧
    (Reaches .pf (winOff 63 0) (fabS []) ∧ (fabS []).bit R.FAB_WIN_CTL_OPEN 0 63 = false ∧ (fabS []).openOk 63 = false) := by unfold Reaches; decide +kernel

theorem witness_DigestExchange :
    (let s := fabS [(R.FAB_DIGEST_CTL_AUTO, 0, 0, 1), (R.FAB_DIGEST_CTL_DIRTY, 0, 0, 1), (R.FAB_PEER_UP_UP, 0, 0, 2)]
     Reaches .pf (fabOff 0x40) s ∧ s.pkg.held = false ∧ s.bit R.FAB_DIGEST_CTL_AUTO = true ∧ s.bit R.FAB_DIGEST_CTL_DIRTY = true ∧ s.bit R.FAB_DIGEST_CTL_BUSY = false ∧
       s.fab.dirtyAt + s.reg R.FAB_PERIOD_SETTLE_MS * 1500000 ≤ s.t ∧ bitOf (s.reg R.FAB_PEER_UP_UP) 1 = true) ∧
    (let s := fabS [(R.FAB_DIGEST_CTL_BUSY, 0, 0, 1)]
     s.bit R.FAB_DIGEST_CTL_BUSY = true ∧ s.digestTables.findSome? (fun t => (s.badUnit t.2.1 t.2.2).map (fun u => (t, u))) = none) ∧
    (let s := withDie (fabS [(R.FAB_DIGEST_CTL_BUSY, 0, 0, 1), (R.FAB_DIGEST_TABLE_ADDR_EN, 0, 0, 1), (R.FAB_DIGEST_TABLE_LEN_BYTES, 0, 0, 64)]) fun d => { d with errs := [(0, 2)] }
     s.bit R.FAB_DIGEST_CTL_BUSY = true ∧ s.digestTables.findSome? (fun t => (s.badUnit t.2.1 t.2.2).map (fun u => (t, u))) ≠ none) ∧
    ((fabS []).fab.digAt + (fabS []).reg R.FAB_PERIOD_DIGEST_MS * 1500000 ≤ (fabS []).t + 1500000000) ∧
    (Arrives 0 pk (fabS [(R.FAB_DIGEST_CTL_GROUP, 0, 0, 9), (R.FAB_DIGEST_CTL_DIRTY, 0, 0, 0)]) ∧ (fabS [(R.FAB_DIGEST_CTL_GROUP, 0, 0, 9), (R.FAB_DIGEST_CTL_DIRTY, 0, 0, 0)]).reg R.FAB_DIGEST_CTL_GROUP = (9 : BitVec 16).toNat ∧
      (fabS [(R.FAB_DIGEST_CTL_GROUP, 0, 0, 9), (R.FAB_DIGEST_CTL_DIRTY, 0, 0, 0)]).bit R.FAB_DIGEST_CTL_DIRTY = false ∧ (fabS []).reg R.FAB_DIGEST_CTL_GROUP ≠ (9 : BitVec 16).toNat) := by
  unfold Reaches Arrives; decide +kernel

/-! ### Time and the trouble log -/

def treq (done : List Nat) : TimeReq := ⟨true, false, false, 0, 0, 0, 400000000, done⟩
def withTime (s : State) (f : TimeS → TimeS) : State := { s with time := f s.time }

theorem witness_TimeRequests :
    (Reaches .pf (timeOff 0) up ∧ up.bit R.TIME_STATUS_PENDING = false ∧ (sets up [(R.TIME_STATUS_PENDING, 0, 0, 1)]).bit R.TIME_STATUS_PENDING = true ∧
      Reaches .pf (timeOff 0) (sets up [(R.TIME_STATUS_PENDING, 0, 0, 1)])) ∧
    (let s := withTime up fun t => { t with req := some (treq []) }
     ∀ d, d < 5 → s.ticking d = true ∧ (treq []).done.contains d = false ∧ (treq []).at_ ≤ s.count d ∧ ∃ k, k < 5 ∧ s.ticking k = true ∧ k ≠ d) ∧
    (let s := withTime up fun t => { t with req := some (treq [0, 1, 2, 3]) }
     s.ticking 4 = true ∧ (treq [0, 1, 2, 3]).done.contains 4 = false ∧ ∀ k, k < 5 → s.ticking k = true → k = 4 ∨ (treq [0, 1, 2, 3]).done.contains k = true) ∧
    Reaches .pf (timeOff 0x64) up ∧ up.ticking 0 = true ∧
    (∀ j ∈ [(-129 : Int), -128, -3, -2, -1, 0, 1, 2, 3, 127, 128], (up.count 0 : Int) - (up.count 4 : Int) + j = j) := by unfold Reaches; decide +kernel

theorem witness_FabricTime :
    (Arrives 0 pk (fabS []) ∧ (fabS []).bit R.TIME_FAB_CTL_MASTER = false) ∧
    (let s := fabS [(R.TIME_FAB_CTL_MASTER, 0, 0, 1), (R.TIME_FAB_CTL_EN, 0, 0, 1), (R.TIME_FAB_CTL_SYNC_MS, 0, 0, 10), (R.TIME_FAB_CTL_PDELAY_MS, 0, 0, 10), (R.FAB_PEER_UP_UP, 0, 0, 2)]
     Arrives 0 pk s ∧ s.bit R.TIME_FAB_CTL_MASTER = true ∧ s.time.syncAt + s.reg R.TIME_FAB_CTL_SYNC_MS * 1500000 ≤ s.t ∧ s.bit R.FAB_CFG_ENABLE = true ∧
       bitOf (s.reg R.FAB_PEER_UP_UP) 1 = true ∧ (s.route 1).isSome = true ∧ s.portUp 0 = true ∧ s.bit R.TIME_FAB_CTL_EN = true ∧
       s.time.pdAt + s.reg R.TIME_FAB_CTL_PDELAY_MS * 1500000 ≤ s.t) ∧
    (let t1 := timeLayout ((fabS []).now - 2 ^ 17)
     let x : Int := ((((fabS []).now : Int) - (ofLayout t1 : Int)) - 0) / 2
     0 ≤ x ∧ x < 2 ^ 32) := by unfold Arrives; decide +kernel

def armedS (l : List (Fld × Nat × Nat × Nat)) : State := sets up ((R.TIME_SNAP_STATUS_ARMED, 0, 0, 1) :: l)

theorem witness_Snapshots :
    (Reaches .pf (timeOff 0x100) up ∧ up.bit R.TIME_SNAP_STATUS_ARMED = false ∧ Reaches .pf (timeOff 0x100) (armedS []) ∧ (armedS []).bit R.TIME_SNAP_STATUS_ARMED = true) ∧
    ((armedS []).time.snapDone.contains 0 = false ∧ (armedS []).listsWf = true ∧ ((armedS []).ticking 0 && (decide (0 = 4) || !(armedS []).inReset 2 0)) = true ∧
      (armedS []).time.snapT ≤ (armedS []).timeOf 0 ((armedS []).count 0)) ∧
    (let s := { armedS [] with pkg := { (armedS []).pkg with rst := [(rstKey 2 0, 1)] } }
     (s.ticking 0 && (decide (0 = 4) || !s.inReset 2 0)) = false ∧ s.time.snapT ≤ s.now ∧ s.listsWf = true) ∧
    (let s := withTime (armedS []) fun t => { t with snapDone := [1, 2, 3, 4] }
     ∀ q, q < 5 → q = 0 ∨ s.time.snapDone.contains q = true) ∧
    (Arrives 0 pk (fabS []) ∧ (fabS []).bit R.TIME_SNAP_CTL_REMOTE_EN = false) ∧
    (Arrives 0 pk (fabS [(R.TIME_SNAP_CTL_REMOTE_EN, 0, 0, 1)]) ∧ (fabS [(R.TIME_SNAP_CTL_REMOTE_EN, 0, 0, 1)]).bit R.TIME_SNAP_CTL_REMOTE_EN = true ∧
      (fabS [(R.TIME_SNAP_CTL_REMOTE_EN, 0, 0, 1)]).bit R.TIME_SNAP_STATUS_ARMED = false ∧
      (fabS [(R.TIME_SNAP_CTL_REMOTE_EN, 0, 0, 1), (R.TIME_SNAP_STATUS_ARMED, 0, 0, 1)]).bit R.TIME_SNAP_STATUS_ARMED = true) := by
  unfold Reaches Arrives; decide +kernel

def ent : LogEnt := ⟨5, 4, srcHub, 0x102, 7⟩
def logS (n : Nat) (l : List (Fld × Nat × Nat × Nat)) : State := { sets up l with log := ⟨List.replicate n ent, none, none⟩ }

theorem witness_TroubleLogWriter :
    ((logS 64 []).log.fifo = ent :: List.replicate 63 ent ∧ (logS 64 []).log.fifo.length ≤ 64 ∧ (logS 64 []).logged (ent.code / 256) = true) ∧
    (logS 1 [(R.LOG_CTL_MASK, 0, 0, 0)]).logged (ent.code / 256) = false ∧
    (Reaches .pf (logOff 8) (logS 1 [(R.LOG_HEAD_COUNT, 0, 0, 9)]) ∧ (9 : BitVec 32).toNat ≤ (logS 1 [(R.LOG_HEAD_COUNT, 0, 0, 9)]).reg R.LOG_HEAD_COUNT ∧
      (logS 1 [(R.LOG_HEAD_COUNT, 0, 0, 9)]).reg R.LOG_HEAD_COUNT < (10 : BitVec 32).toNat) := by unfold Reaches; decide +kernel


/-! ### Streams, batches -/

/-- Stream 5 of partition 0, one row at 0x1000 of context 1, and clause 1 of core 0 that lists it. -/
def strS (l : List (Fld × Nat × Nat × Nat)) : State :=
  sets mapped ([(R.SEQ_STREAM_TABLE_VALID, 0, 5, 1), (R.SEQ_STREAM_TABLE_STATE_ADDR, 0, 5, 0x1000), (R.SEQ_BATCH_CFG_CTX, 0, 0, 1), (R.CORE_STREAM_REGION_FRAME_ROWS, 0, 0, 1)] ++ l)
def lst : ClauseS := { cl with st := .chosen, streams := [5] }
def lists (s : State) : State := withSch s fun d => { d with clauses := [(1, some lst)], nextC := 2 }

theorem witness_StreamFramesAndPool :
    (let s := withSch up fun d => { d with batches := [(0, { BatchS.none with dirtyB := [(3, true)] })] }
     mget false ((s.batch 0).dirty false) 3 = true) ∧
    (∀ l ∈ [[], [(R.SEQ_STREAM_TABLE_RESET, 0, 5, 1)], [(R.SEQ_STREAM_TABLE_RESET, 0, 5, 1), (R.SEQ_STREAM_TABLE_RESIDENT, 0, 5, 1)]],
      (lists (strS l)).listers 5 = [(1, lst)] ∧ lst.unstarted = true ∧ (lists (strS l)).strFail lst.part lst.core 5 = none ∧ lst.core < 64 ∧ (lists (strS l)).strLen 5 ≤ 64) ∧
    (lists (strS [(R.SEQ_STREAM_TABLE_RESET, 0, 5, 1), (R.SEQ_STREAM_TABLE_RESIDENT, 0, 5, 1)])).strOn 5 0 = true ∧
    (lists (strS [])).freeFrames 0 ≠ [] ∧ (lists (strS [])).daRead 0 1 0x1000 512 = .ok 0 ∧
    (withDie (lists (strS [])) fun d => { d with errs := [(0x440, 2)] }).daRead 0 1 0x1000 512 = .bad 9 := by decide +kernel

/-- The package with an export or import of stream 5 begun; and a record of one row of zeros in memory at device address 0. -/
def xp (i : Bool) (l : List (Fld × Nat × Nat × Nat)) : State := withSch (strS ((R.SEQ_STREAM_XSTATUS_BUSY, 0, 0, 1) :: l)) fun d => { d with xport := some ⟨5, i, false⟩ }
def rec0 : Nat := 0x5253504E + 2 ^ 32 + 2 ^ 80 + 512 * 2 ^ 96 + 3 * 2 ^ 128
def recV : Nat := rec0 + 0x2dd0c706 * 2 ^ 480

/-- A CRC byte by byte, each byte's value found before the next is taken. -/
def crcS : List Nat → Nat → Nat
  | [], c => c
  | b :: l, c => Nat.rec (crcS l 0) (fun n _ => crcS l (n + 1)) (crcByte c b)

theorem crc_crcS (l : List Nat) : ∀ c, l.foldl crcByte c = crcS l c := by
  induction l with
  | nil => exact fun _ => rfl
  | cons b l ih =>
    intro c
    rw [List.foldl_cons, ih]
    show crcS l (crcByte c b) = Nat.rec (motive := fun _ => Nat) (crcS l 0) (fun n _ => crcS l (n + 1)) (crcByte c b)
    generalize crcByte c b = x
    cases x <;> rfl

theorem recV_crc : crc32c (bytesOf 60 recV ++ bytesOf 512 (recV / 2 ^ 512)) = 0x2dd0c706 := by rw [crc32c, crc_crcS]; decide +kernel

theorem recordBad_none (r : Nat) (h0 : bits r 0 32 = 0x5253504E) (h1 : bits r 32 16 = 1) (h2 : bits r 80 16 = 1) (h3 : bits r 64 8 = 0) (h4 : bits r 96 32 = 512)
    (hc : crc32c (bytesOf 60 r ++ bytesOf 512 (r / 2 ^ 512)) = bits r 480 32) : recordBad r = none := by
  have e : (if 1 ≤ bits r 80 16 ∧ bits r 80 16 ≤ 64 then bits r 80 16 else 0) = 1 := by rw [h2]; rfl
  unfold recordBad
  generalize r / 2 ^ 512 = z at hc ⊢
  rw [e, h0, h1, h3, h4]
  simp [hc]

theorem recV_good : recordBad recV = none :=
  recordBad_none _ (by decide +kernel) (by decide +kernel) (by decide +kernel) (by decide +kernel) (by decide +kernel) (recV_crc.trans (by decide +kernel))

def xpRec (v : Nat) (l : List (Fld × Nat × Nat × Nat)) : State := { xp true l with dram := memWrite (xp true l).dram 0x10000 64 v }

theorem witness_PortableStateRecords :
    (Reaches .pf (seqOff 0x420008) (strS []) ∧ (strS []).bit R.SEQ_STREAM_XSTATUS_BUSY = false ∧ (xp false []).bit R.SEQ_STREAM_XSTATUS_BUSY = true ∧ Reaches .pf (seqOff 0x420008) (xp false [])) ∧
    (let s := sets (strS []) [(R.SEQ_STREAM_TABLE_PART, 0, 5, 1), (R.SEC_PART_CFG_VF, 0, 2, 1)]
     s.xportOk (.vf 0) 5 = false ∧ s.xportOk .pf 5 = true ∧ Reaches (.vf 0) (seqOff 0x420008) s) ∧
    ((strS [(R.SEQ_STREAM_TABLE_VALID, 0, 5, 0)]).strBit R.SEQ_STREAM_TABLE_VALID 5 = false ∧ (strS []).strBit R.SEQ_STREAM_TABLE_VALID 5 = true ∧
      (strS [(R.SEQ_STREAM_TABLE_PINNED, 0, 5, 1)]).strBit R.SEQ_STREAM_TABLE_PINNED 5 = true ∧ (strS []).strBit R.SEQ_STREAM_TABLE_PINNED 5 = false) ∧
    ((xp false [(R.SEQ_STREAM_XSTATUS_WAITING, 0, 0, 1)]).bit R.SEQ_STREAM_XSTATUS_WAITING = true ∧ (xp false []).bit R.SEQ_STREAM_XSTATUS_WAITING = false) ∧
    ((xp false []).exportData 5 = .ok 0 ∧ (xp false []).daPutFault hubXlt 1 0 576 = none) ∧
    (let s := xpRec recV [(R.SEQ_STREAM_TABLE_VALID, 0, 5, 0)]
     s.daRead hubXlt 1 0 64 = .ok recV ∧ bits recV 80 16 = 1 ∧ s.daRead hubXlt 1 0 576 = .ok recV ∧ s.strBit R.SEQ_STREAM_TABLE_VALID 5 = false ∧
       s.daPutFault hubXlt (s.strCtx 5) (s.strAddr 5) 512 = none ∧ (xpRec recV []).strBit R.SEQ_STREAM_TABLE_VALID 5 = true) ∧
    ((xpRec 7 []).daRead hubXlt 1 0 64 = .ok 7 ∧ bits 7 80 16 = 0 ∧ recordBad 7 = some 1 ∧ recordBad 0x5253504E = some 2) := by unfold Reaches; decide +kernel

/-- Request queue 5 with a descriptor; its context is that of the batch. -/
def rqS (raw ctx : Nat) : State := dq raw [(R.QUE_QCFG_KIND, 0, 5, 2), (R.SEQ_BATCH_CFG_CTX, 0, 0, ctx)]
def gen : Nat := 4 + 2 ^ 128 + 2 ^ 160
def req0 : ReqS := ⟨5, 0, 0, gen, 0, 0⟩
def batchOn (b : BatchS) (l : List (Fld × Nat × Nat × Nat)) : State := withSch (sets mapped ([(R.SEQ_BATCH_CFG_ENABLE, 0, 0, 1), (R.SEQ_BATCH_CFG_CTX, 0, 0, 1)] ++ l)) fun d => { d with batches := [(0, b)] }

theorem witness_RequestsAndBoundaries :
    (∀ x ∈ [(gen, 1), (gen, 2), (4, 1), (5, 1), (5 + 512, 1), (0, 1)], let s := rqS x.1 x.2
      s.qf R.QUE_QCFG_KIND 5 = 2 ∧ (s.queue 5).fetched.find? (fun d => decide (d.n = 0)) = some { dsc with raw := x.1 } ∧
      (s.queue 5).fetched.find? (fun d => !d.started && d.endSt.isNone && decide (d.raw % 256 = x.1 % 256)) = some { dsc with raw := x.1 }) ∧
    ((rqS gen 1).genOk 5 gen = true ∧ (rqS gen 1).qf R.QUE_QCFG_CTX 5 = (rqS gen 1).reg R.SEQ_BATCH_CFG_CTX 0 0 ∧ (rqS gen 2).qf R.QUE_QCFG_CTX 5 ≠ (rqS gen 2).reg R.SEQ_BATCH_CFG_CTX 0 0 ∧
      (rqS 4 1).genOk 5 4 = false ∧ (rqS 5 1).reqCommon 5 5 = true ∧ (rqS 517 1).reqCommon 5 517 = false ∧ bits 0 9 23 = 0 ∧ bits 0 48 976 = 0) ∧
    up.reg R.SEQ_BATCH_CFG_ENABLE 0 0 = 0 ∧ (batchOn BatchS.none [(R.SEQ_STEP_STATUS_STATE, 0, 0, 3)]).reg R.SEQ_STEP_STATUS_STATE 0 0 = 3 ∧
    (∀ b ∈ [BatchS.none, { BatchS.none with reqs := [req0] }], let s := batchOn b []
      s.reg R.SEQ_BATCH_CFG_ENABLE 0 0 ≠ 0 ∧ s.reg R.SEQ_STEP_STATUS_STATE 0 0 ≠ 3 ∧ s.stepLive 0 = false ∧ s.killing (s.batchCtx 0) = false ∧
      (s.batch 0).held = [] ∧ (s.batch 0).resume = false ∧ (s.batch 0).seqs = [] ∧ (s.batch 0).cancels = [] ∧ 0 < s.reg R.SEQ_BATCH_LIM_MAX_SEQ 0 0 ∧ s.freeSeq = some 0) := by decide +kernel

/-! ### Cameras -/

/-- Port 0 of the cameras on, stream 0 on its channel 0, format code 0. -/
def camS (l : List (Fld × Nat × Nat × Nat)) : State := sets mapped ([(R.ISP_CTL_EN, 0, 0, 1), (R.ISP_PORT_CFG_EN, 0, 0, 1), (R.ISP_STRM_CFG_EN, 0, 0, 1), (R.ISP_STRM_CFG_CTX, 0, 0, 1)] ++ l)
def fr0 : FrameS := ⟨7, 3, 0, 0, 0, 0, 0, none, 0, [], []⟩
def ln0 : LineS := ⟨0, 0, false, [1, 2, 3], 0, 9⟩
def set0 (ready : Bool) : PSetS := ⟨1, ready, false, 0, 0, 0, 0, 0⟩
def withCam (s : State) (c : CamS) (buf : List LineS) : State := { s with isp := { s.isp with cams := [(0, c)], buf := buf } }
def open0 (l : List (Fld × Nat × Nat × Nat)) : State := withCam (camS l) { CamS.reset with frame := some fr0 } [ln0]

theorem witness_CameraPackets :
    (let s := camS []
     s.hubUp 0 = true ∧ s.bit R.ISP_CTL_EN = true ∧ s.bit R.ISP_PORT_CFG_EN 0 0 = true ∧ s.camsOn 0 0 = [0] ∧ s.camsOn 0 1 = [] ∧ dtCode 0x2A = some 0 ∧ dtCode 0x31 = none ∧
       s.portFill 0 + 8 * [1, 2, 3].length ≤ 65536 ∧ crc16 [1, 2, 3] ≠ 0 ∧ s.reg R.ISP_STRM_CFG_DT 0 0 = 0 ∧
       ([].filter (fun st => decide (s.reg R.ISP_STRM_CFG_DT 0 st = 0)) : List Nat) = [] ∧ (s.cam 0).frame.isNone = true) ∧
    dueSet [set0 true] 1 = some (set0 true) ∧
    (let s := open0 []
     s.hubUp 0 = true ∧ s.bit R.ISP_CTL_EN = true ∧ s.bit R.ISP_PORT_CFG_EN 0 0 = true ∧ s.camsOn 0 0 = [0] ∧ (s.cam 0).frame = some fr0 ∧
       nextWrap ((List.range 8).filter (fun k => s.isp.buf.any (fun l => decide (l.strm = k)))) s.isp.last = some 0 ∧ s.isp.buf.find? (fun l => decide (l.strm = 0)) = some ln0 ∧
       ln0.emb = false ∧ fr0.lines < s.reg R.ISP_STRM_SIZE_H_EXP 0 0 ∧ fr0.since + s.reg R.ISP_STRM_TIMING_FE_TIMEOUT_US 0 0 * 1500 ≤ s.t ∧
       s.daPutFault hubXlt (s.reg R.ISP_STRM_CFG_CTX 0 0) (s.reg R.ISP_STRM_STATS_BASE_ADDR 0 0 * 2 ^ 16 + 0x4000 * (fr0.frame % 4)) 0x4000 = none) := by decide +kernel

/-! ### Parameter sets, switches, audio, the input pipeline -/

/-- Stream 0 holds a committed set at 0 whose record is that in memory at device address 0; the record. -/
def psS (v : Nat) : State := { withCam (camS []) { CamS.reset with sets := [set0 false] } [] with dram := memWrite (camS []).dram 0x10000 128 v }
def prec : Nat := 16 * 2 ^ (8 * 0x50) + 16 * 2 ^ (8 * 0x52) + 16 * 2 ^ (8 * 0x58) + 16 * 2 ^ (8 * 0x5A)
def swS (st : Nat) : State := { sets up [(R.ISP_SW_STATUS_STATE, 0, 0, st)] with isp := { IspS.reset with sw := [(0, 0)] } }

theorem witness_ParameterSetsAndSwitches :
    (Reaches .pf (strmOff 0 0x20) (camS []) ∧ bitOf (1 : BitVec 32).toNat 0 = true ∧ bitOf (2 : BitVec 32).toNat 0 = false ∧ ((camS []).cam 0).sets.length < 2 ∧
      2 ≤ ((withCam (camS []) { CamS.reset with sets := [set0 true, set0 true] } []).cam 0).sets.length) ∧
    (∀ v ∈ [0, prec], let s := psS v
      ((s.cam 0).sets)[0]? = some (set0 false) ∧ (set0 false).ready = false ∧ s.hubUp 0 = true ∧ s.daRead hubXlt (s.reg R.ISP_STRM_CFG_CTX 0 0) (set0 false).addr 512 = .ok v) ∧
    psetOk 0 16 16 = false ∧ psetOk prec 16 16 = true ∧ bitOf (recF prec 8 1) 1 = false ∧ bitOf (recF prec 8 1) 2 = false ∧ bitOf (recF prec 8 1) 4 = false ∧
    (let s := withDie (psS 0) fun d => { d with errs := [(0x400, 2)] }
     s.daRead hubXlt (s.reg R.ISP_STRM_CFG_CTX 0 0) (set0 false).addr 512 = .bad 9) ∧
    (Reaches .pf (strmOff 0 0) (camS []) ∧ (camS []).bit R.ISP_STRM_CFG_EN 0 0 = true ∧ Reaches .pf (strmOff 0 0) up ∧ up.bit R.ISP_STRM_CFG_EN 0 0 = false) ∧
    (∀ x, x < 4 → Reaches .pf (ispOff 0x2000) (swS x) ∧ (swS x).reg R.ISP_SW_STATUS_STATE 0 0 = x ∧ mget 0 (swS x).isp.sw 0 + 1500000 ≤ (swS x).t) ∧
    Reaches .pf (ispOff (0x2000 + 0x20 * 2)) up := by unfold Reaches; decide +kernel

/-- The microphones on, channel 0 enabled, and pipe 0 an audio pipe of channel 0 alone. -/
def audS (l : List (Fld × Nat × Nat × Nat)) : State :=
  sets up ([(R.AUD_CTL_EN, 0, 0, 1), (R.AUD_CH_EN_EN, 0, 0, 1), (R.INP_CTL_EN, 0, 0, 1), (R.INP_PIPE_CFG_EN, 0, 0, 1), (R.INP_PIPE_CFG_AUDIO, 0, 0, 1), (R.INP_PIPE_OUT_OUT_W, 0, 0, 512)] ++ l)

theorem witness_AudioBlocksMuteAndRing :
    (let s := audS []
     s.hubUp 1 = true ∧ s.bit R.AUD_CTL_EN = true ∧ bitOf (s.reg R.AUD_CH_EN_EN) 0 = true ∧ s.chanPipes 0 = [0] ∧ (s.pipe 0).acc = [] ∧ 2 ≤ s.reg R.INP_PIPE_OUT_OUT_W 0 0 / 256 ∧
       s.chanMuted 0 = false ∧ s.blockFull 0 = false ∧ s.aud.back = none ∧ (audS [(R.AUD_STATUS_MUTE, 0, 0, 1)]).chanMuted 0 = true) ∧
    (sets up [(R.AUD_TDM_MASTER, 0, 1, 0)]).bit R.AUD_TDM_MASTER 0 1 = false ∧
    (let s := { up with aud := { AudS.reset with pin := true } }
     s.aud.pin = true) ∧
    (let s := { up with aud := { AudS.reset with relAt := some 0 } }
     s.aud.relAt = some 0 ∧ s.aud.pin = false ∧ 0 + 15000000 ≤ s.t) ∧
    (let s := { up with aud := { AudS.reset with ringOn := true } }
     s.aonAudio = true ∧ s.aud.ringOn = true ∧ s.reg R.AUD_RING_SEG_SEG < 2 ^ 32) := by decide +kernel

/-- The cascade in a state; the same with both networks' tables in place: layers with one output each, weights and biases zero. -/
def wakeS (st : Nat) : State := sets mapped [(R.AUD_WAKE_STATE_STATE, 0, 0, st), (R.DMC_GROUP_PART_VALID, 0, 0, 0), (R.AUD_W2_BASE_PA, 0, 0, 0x400)]
def nets (st : Nat) : State :=
  { wakeS st with
    aon := memWrite (memWrite [] 0x20000 4 (1280 + 2 ^ 16)) (0x20000 + 1344) 4 (1 + 2 ^ 16)
    dram := memWrite (memWrite (memWrite (wakeS st).dram 0x10000 4 (4000 + 2 ^ 16)) (0x10000 + 4032) 4 (1 + 2 ^ 16)) (0x10000 + 4096) 4 (1 + 2 ^ 16) }
/-- Queue 5 of clauses, to which a wake is handed. -/
def handS (l : List (Fld × Nat × Nat × Nat)) : State := qOn ([(R.AUD_WAKE_STATE_STATE, 0, 0, 4), (R.AUD_WAKE_Q_QUEUE, 0, 0, 5), (R.QUE_QCFG_KIND, 0, 5, 1)] ++ l)

theorem witness_WakeCascade_climb :
    (∀ st ∈ [1, 2, 3], (wakeS st).aonAudio = true ∧ (wakeS st).reg R.AUD_WAKE_STATE_STATE = st ∧ (wakeS st).hubUp 1 = true ∧ (wakeS st).w1Net.isNone = true ∧ (wakeS st).w2Net.isNone = true) ∧
    (∀ st ∈ [1, 2, 3], (nets st).aonAudio = true ∧ (nets st).reg R.AUD_WAKE_STATE_STATE = st ∧ (nets st).w1Net.isSome = true ∧
      (nets st).w2Net.isSome = true ∧ (nets st).hubUp 1 = true ∧ (nets st).aud.coolTo ≤ (nets st).t) := by decide +kernel

theorem witness_WakeCascade_fall :
    ((List.range 256).foldl (fun a i => a + ((toSigned 24 (ofSigned 24 (([1] : List Int).getD i 0))).natAbs) ^ 2) 0 = 1) ∧
    ((wakeS 2).aud.since + (wakeS 2).reg R.AUD_WAKE_THR_HOLD1_MS * 15000000 ≤ (wakeS 2).t + 1500000000 ∧
      (wakeS 3).aud.since + (wakeS 3).reg R.AUD_WAKE_THR_HOLD2_MS * 15000000 ≤ (wakeS 3).t + 1500000000) := by decide +kernel

theorem witness_WakeCascade_handoff :
    (let s := handS []
     s.reg R.AUD_WAKE_STATE_STATE = 4 ∧ s.hubUp 1 = true ∧ s.dieUp (s.reg R.AUD_WAKE_Q_QUEUE / 8192) = true ∧ s.daRead hubXlt (s.qf R.QUE_QCFG_CTX 5) (s.reg R.AUD_WAKE_Q_DESC) 128 = .ok 0 ∧
       s.entryOk 5 1 = true ∧ s.daPutFault hubXlt (s.qf R.QUE_QCFG_CTX 5) (s.ringAt 5 (s.qf R.QUE_TAIL_TAIL 5)) 128 = none ∧ (handS [(R.QUE_QCFG_KIND, 0, 5, 2)]).entryOk 5 1 = false) ∧
    (let s := handS [(R.PWR_STATE_DIE, 0, 0, 2)]
     s.dieUp (s.reg R.AUD_WAKE_Q_QUEUE / 8192) = false ∧ s.inReset 2 (s.reg R.AUD_WAKE_Q_QUEUE / 8192) = false) ∧
    (withDie (handS []) fun d => { d with errs := [(0x400, 2)] }).daRead hubXlt 1 0 128 = .bad 9 := by decide +kernel

/-- Pipe 0 of frames 16 by 16 with a sample waiting, its buffers in hub memory. -/
def smp : SampS := ⟨9, 7, 0, 0, 0, 0, 0, 16, 16, false, []⟩
def pipeS (p : PipeS) (l : List (Fld × Nat × Nat × Nat)) : State :=
  { sets mapped ([(R.INP_CTL_EN, 0, 0, 1), (R.INP_PIPE_CFG_EN, 0, 0, 1), (R.INP_PIPE_CFG_CTX, 0, 0, 1), (R.INP_PIPE_DEST_ADDR, 0, 0, 0x800010000000), (R.INP_PIPE_SEM_FREE, 0, 0, 9),
      (R.QUE_SEM_W0_VALID, 0, 9, 1), (R.QUE_SEM_W0_KIND, 0, 9, 1)] ++ l) with inp := [(0, p)] }

theorem witness_InputPipeline :
    (∀ n ∈ [0, 3], let s := pipeS PipeS.reset [(R.QUE_SEM_W0_COUNT, 0, 9, n)]
      s.pipeOn 0 = true ∧ (s.pipe 0).has = false ∧ s.smf R.QUE_SEM_W0_VALID 9 = 1 ∧ s.smf R.QUE_SEM_W0_KIND 9 = 1 ∧ s.pipePart 0 = some (s.smf R.QUE_SEM_W0_PART 9) ∧
      s.dieUp (9 / 4096) = true ∧ s.smf R.QUE_SEM_W0_COUNT 9 = n) ∧
    (let s := pipeS { PipeS.reset with above := true } []
     s.smf R.QUE_SEM_W0_COUNT (s.reg R.INP_PIPE_SEM_READY 0 0) < s.reg R.INP_PIPE_BATCH_LOW 0 0 ∧ (s.pipe 0).above = true) ∧
    (let s := pipeS { PipeS.reset with buf := [{ smp with marks := 1 }] } []
     s.pipeOn 0 = true ∧ s.bit R.INP_PIPE_CFG_AUDIO 0 0 = false ∧ s.sampBad 0 { smp with marks := 1 } = true ∧ s.reg R.INP_PIPE_CFG_POLICY 0 0 = 0) ∧
    (∀ b ∈ [1, 2], let s := pipeS { PipeS.reset with buf := [smp], has := true } [(R.INP_PIPE_BATCH_BATCH, 0, 0, b), (R.INP_PIPE_CFG_POLICY, 0, 0, 1)]
      let da := s.pipeBuf 0 + 512 + (s.pipe 0).inB * s.sampBytes 0
      s.pipeOn 0 = true ∧ s.sampBad 0 smp = false ∧ s.reg R.INP_PIPE_CFG_AUG_MODE 0 0 = 0 ∧ s.reg R.INP_PIPE_CFG_POLICY 0 0 = 1 ∧ s.reg R.INP_PIPE_BATCH_BATCH 0 0 = b ∧ (s.pipe 0).inB = 0 ∧
      s.translate hubXlt (s.pipeCtx 0) da true none = .hub (0 + (da - s.pipeBuf 0)) ∧ spadCore da = none ∧ 0 < s.sampBytes 0 ∧ s.sampBytes 0 ≤ 65536 - da % 65536 ∧
      s.translate hubXlt (s.pipeCtx 0) (s.pipeBuf 0) true none = .hub (0 + (s.pipeBuf 0 - s.pipeBuf 0)) ∧ spadCore (s.pipeBuf 0) = none ∧ 512 ≤ 65536 - s.pipeBuf 0 % 65536) ∧
    (let s := pipeS { PipeS.reset with buf := [smp], has := true } [(R.INP_PIPE_DEST_ADDR, 0, 0, 0x20000)]
     let da := s.pipeBuf 0 + 512
     spadCore da = none ∧ s.inpFault (s.pipeCtx 0) da (s.sampBytes 0) = some 2) ∧
    (Reaches .pf (inpOff 0x1000) (pipeS PipeS.reset []) ∧ (pipeS PipeS.reset []).bit R.INP_PIPE_CFG_EN 0 0 = true ∧ up.bit R.INP_PIPE_CFG_EN 0 0 = false ∧ Reaches .pf (inpOff 0x1000) up) := by
  unfold Reaches; decide +kernel

/-! ### Power, recovery, resets -/

def withPwr (s : State) (f : PwrS → PwrS) : State := { s with pwr := f s.pwr }
def withPkg (s : State) (f : PkgS → PkgS) : State := { s with pkg := f s.pkg }
def ent2 (pkg : Bool) : EntS := ⟨2, pkg, 0⟩
def entS (p : PwrS → PwrS) : State := withPwr up fun w => p { w with ent := [(0, some (ent2 false))] }
def offS (l : List (Fld × Nat × Nat × Nat)) (w : Bool) : State := withPwr (sets up l) fun p => { p with off := some 0, offWake := w }

theorem witness_PowerStates_entry :
    (Reaches .pf (pwrOff 4) up ∧ up.mayEnter 0 = true ∧ (on busy).mayEnter 0 = false ∧ (on busy).reg R.PWR_STATE_DIE 0 0 = 0 ∧ (on busy).entering 0 = none ∧ Reaches .pf (pwrOff 4) (on busy)) ∧
    (let s := sets up [(R.PWR_STATE_DIE, 0, 0, 2)]
     Reaches .pf (pwrOff 4) s ∧ s.pwrState 0 ≠ 0 ∧ s.exitOf 0 = none ∧ s.entering 0 = none) ∧
    (Reaches .pf (pwrOff 4) (entS id) ∧ (entS id).entering 0 = some (ent2 false) ∧ mget false (entS id).pwr.wake 0 = false ∧ (entS id).quietDie 0 = true ∧ (ent2 false).since + 75000 < (entS id).t ∧
      mget false (entS fun w => { w with wake := [(0, true)] }).pwr.wake 0 = true) ∧
    (Reaches .pf (pwrOff 0) up ∧ up.pwr.pkg = false ∧ up.pwrState 4 = 0 ∧ (List.range 4).find? (fun d => decide (up.pwrState d ≠ 3)) = some 0) ∧
    (let s := sets up ((List.range 4).map fun d => (R.PWR_STATE_DIE, 0, d, 3))
     Reaches .pf (pwrOff 0) s ∧ (∀ q, q < 4 → s.pwrState q = 3) ∧ s.bit R.FAB_CFG_ENABLE = false ∧ s.bit R.ISP_CTL_EN = false ∧ s.bit R.INP_CTL_EN = false) := by
  unfold Reaches; decide +kernel

theorem bytesOf_zero : ∀ n, bytesOf n 0 = List.replicate n 0
  | 0 => rfl
  | n + 1 => by rw [bytesOf, Nat.zero_div, bytesOf_zero n]; rfl

theorem memRead_zero (m : SMap Byte) : ∀ n a, (∀ e ∈ m, a + n ≤ e.1) → memRead m a n = 0
  | 0, _, _ => rfl
  | n + 1, a, h => by
    have g : mget (0 : Byte) m a = 0 := by
      have : ∀ l : SMap Byte, (∀ e ∈ l, a + (n + 1) ≤ e.1) → mget (0 : Byte) l a = 0 := by
        intro l
        induction l with
        | nil => exact fun _ => rfl
        | cons e l ih =>
          intro hl
          have he := hl e List.mem_cons_self
          have hr := ih (fun x hx => hl x (List.mem_cons_of_mem _ hx))
          simp only [mget]
          split
          · omega
          · exact hr
      exact this m h
    rw [memRead, g, memRead_zero m n (a + 1) (fun e he => by have := h e he; omega)]; rfl

theorem crc_zeros : crc32c (List.replicate 3068 0) = 0x7a691bf7 := by rw [crc32c, crc_crcS]; decide +kernel

/-- Always-on memory in which the image of die 0 is as it was written: zeros with their CRC. -/
def img0 : SMap Byte := memWrite [] 0xBFC 4 0x7a691bf7

theorem image_good (m : SMap Byte) (h : ∀ e ∈ m, 0xBFC ≤ e.1) (k : memRead m 0xBFC 4 = 0x7a691bf7) : ({ up with aon := m } : State).imageGood 0 0xC00 = true := by
  have z := memRead_zero m 0xBFC 0 (by simpa using h)
  simp only [State.imageGood, Nat.zero_add]
  show decide (crc32c (bytesOf 3068 (memRead m 0 0xBFC)) = memRead m 0xBFC 4) = true
  rw [z, bytesOf_zero, crc_zeros, k]
  rfl

theorem witness_PowerStates_wake :
    ((offS [] false).pwr.off = some 0 ∧ (offS [] false).bit R.PWR_WAKE_SRC_PIN = true ∧ 0 + 15000000 ≤ (offS [] false).t ∧ ({ offS [] false with t := 5 }).t < 0 + 15000000 ∧
      (let s := offS [(R.PWR_WAKE_SRC_TIMER, 0, 0, 1), (R.PWR_OFF_TIMER_SECONDS, 0, 0, 1)] true
       s.bit R.PWR_WAKE_SRC_TIMER = true ∧ s.reg R.PWR_OFF_TIMER_SECONDS ≠ 0 ∧ 0 + s.reg R.PWR_OFF_TIMER_SECONDS * 1500000000 ≤ s.t ∧ s.pwr.offWake = true)) ∧
    (let s := sets up [(R.PWR_STATE_HUB, 0, 0, 3), (R.PWR_WAKE_SRC_TIMER, 0, 0, 1), (R.PWR_WAKE_AT_COUNT, 0, 0, 5)]
     s.pwr.off = none ∧ s.pwrState 4 ≠ 0 ∧ s.exitOf 4 = none ∧ s.entering 4 = none ∧ s.bit R.PWR_WAKE_SRC_PIN = true ∧ s.bit R.PWR_WAKE_SRC_TIMER = true ∧
       s.reg R.PWR_WAKE_AT_COUNT ≠ 0 ∧ s.reg R.PWR_WAKE_AT_COUNT ≤ (later 0 s).hubCount) ∧
    (let s := withPwr up fun w => { w with exits := [(0, some 0), (4, some 0)] }
     s.exitOf 4 = some 0 ∧ s.exitOf 0 = some 0 ∧ 0 + 2250000 ≤ s.t ∧ s.pwrState 4 = 0 ∧ s.pwrState 0 ≠ 3 ∧
       (sets s [(R.PWR_STATE_DIE, 0, 0, 3)]).pwrState 0 = 3 ∧ s.pwr.sag = none) ∧
    (up.pkg.held = false ∧ up.reg R.PWR_CAP_STATUS_LEVEL < 16 ∧ up.pwr.adjAt + 1500000 ≤ up.t) ∧
    (let s := { sets up [(R.PWR_CAP_STATUS_LEVEL, 0, 0, 8)] with t := 30 }
     s.throttled 0 = true ∧ up.throttled 0 = false ∧ mrising up.sch.clauses = true) ∧
    (let s := { up with cores := (List.range 15).map fun k => (k + 1, busy) }
     s.throttled 0 = false ∧ mrising s.sch.clauses = true ∧ (∀ k, k < 16 → k ≠ 0 → s.coreOpen k = false) ∧ s.coreOpen 0 = true) := by decide +kernel

theorem witness_PowerStates_image : ({ up with aon := img0 } : State).imageGood 0 0xC00 = true ∧ up.imageGood 0 0xC00 = false := by
  refine ⟨image_good _ (by decide +kernel) (by decide +kernel), ?_⟩
  show decide (crc32c (bytesOf 3068 (memRead [] 0 3068)) = 0) = false
  rw [memRead_zero [] 3068 0 (by simp), bytesOf_zero, crc_zeros]
  rfl

def sagS (keep thermal : Bool) : SagS := ⟨0, 7, [3, 4], keep, thermal⟩
def saving (keep thermal : Bool) : State := withPwr up fun p => { p with sag := some (sagS keep thermal) }
def heldS (l : PkgS → PkgS) : State := withPkg up fun p => l { p with held := true, perst := true, refclk := true }

theorem witness_SagSupplyAndTemperature :
    (up.bit R.PWR_SAG_CFG_EN = true ∧ up.reg R.PWR_SAG_CFG_FILTER ≤ 25 ∧ up.pkg.held = false ∧ up.pwr.sag = none ∧ up.pwr.off = none) ∧
    ((saving false false).pwr.sag = some (sagS false false) ∧ (sagS false false).thermal = false ∧ (sagS false false).keep = false ∧ (sagS false false).entries.length ≤ 4778 ∧
      (saving false true).pwr.sag = some (sagS false true) ∧ (sagS false true).thermal = true) ∧
    (let s := withPwr (heldS id) fun p => { p with tripped := true }
     s.pwr.tripped = true ∧ s.reg R.PWR_SAG_CFG_RECOVER_MS ≤ 100 ∧ MayRelease s ∧ s.pkg.pwrgd = true ∧ s.pkg.perst = true ∧ s.pkg.refclk = true) ∧
    ([(30 : Int), -5].all (fun x => decide (x < 105)) = true ∧ [(30 : Int), 105].any (fun x => decide (105 ≤ x)) = true) ∧
    (sets up [(R.PWR_SAG_STATUS_HOLD_OK, 0, 0, 1)]).bit R.PWR_SAG_STATUS_HOLD_OK = true ∧
    State.reset.pkg.vaon = false ∧
    ((heldS id).pkg.vaon = true ∧ (heldS id).pkg.sysPwr = true ∧ MayRelease (heldS id) ∧ (heldS id).pwr.tripped = false ∧ (heldS id).pkg.refclk = true) ∧
    (up.pkg.pwrgd = true ∧ (saving false false).pkg.pwrgd = true ∧ ({ saving false false with t := 5 }).t < (sagS false false).since + 60000 ∧ (sagS false false).since + 60000 ≤ (saving false false).t) ∧
    (up.pkg.refclk = true ∧ (heldS fun p => { p with refclk := false }).pkg.refclk = false ∧ MayRelease (heldS fun p => { p with refclk := false }) ∧
      (heldS fun p => { p with refclk := false }).pwr.tripped = false) := by unfold MayRelease; decide +kernel

/-- Clause 1 on core 0 without progress since 0; core 0 in a recovery of clause 1. -/
def hung (l : List (Fld × Nat × Nat × Nat)) : State := sets (on { busy with prog := 0 }) l
def rec1 (probing cleared : Bool) (cur out : Nat) : RecS := ⟨[1], [false], [out], cur, probing, 0, cleared, true⟩
def rcv (r : RecS) : State := withSch (hung []) fun d => { d with recs := [(0, some r)], clauses := [(1, some { wcl with queue := 5 })] }

theorem witness_HangRecovery_stall :
    (let s := hung []
     (later 0 s).stalled 0 = true ∧ mget none s.sch.recs 0 = none ∧ s.running 0 = some cl ∧ cl.core = 0 ∧ bitOf (s.reg R.HUB_RCV_PART_REPLAY_EN) cl.part = true ∧ cl.streams = [] ∧
       cl.queue ≠ 32768 ∧ bitOf ((hung [(R.HUB_RCV_PART_REPLAY_EN, 0, 0, 0)]).reg R.HUB_RCV_PART_REPLAY_EN) cl.part = false) ∧
    (let s := withSch (hung []) fun d => { d with recs := [(0, some (rec1 true false 0 0))] }
     (later 0 s).stalled 0 = true ∧ mget none s.sch.recs 0 = some (rec1 true false 0 0)) ∧
    (let r := rec1 false false 0 0
     mget none (rcv r).sch.recs 0 = some r ∧ r.probing = false ∧ r.cleared = false ∧ (rcv r).clause (r.cands.getD r.cur 0) = some { wcl with queue := 5 }) ∧
    (let r := rec1 false true 0 0
     (rcv r).die.xfers = [] ∧ r.cleared = true ∧ findUp (fun i => ((r.cands[i]?).bind (rcv r).clause).isSome) (if r.first then 0 else r.cur + 1) 5 = some 0 ∧ r.cands[0]? = some 1) ∧
    (let r := { rec1 false true 0 0 with first := false }
     findUp (fun i => ((r.cands[i]?).bind (rcv r).clause).isSome) (if r.first then 0 else r.cur + 1) 5 = none ∧ r.outc.any (fun o => decide (o = 1) || decide (o = 2)) = false) ∧
    (let r := { rec1 false true 0 1 with first := false }
     findUp (fun i => ((r.cands[i]?).bind (rcv r).clause).isSome) (if r.first then 0 else r.cur + 1) 5 = none ∧ r.cands = [1] ∧ r.outc = [1] ∧ r.wasSus = [false] ∧
       (rcv r).clause 1 = some { wcl with queue := 5 }) ∧
    (let r := rec1 true false 0 0
     r.since + (rcv r).reg R.HUB_RCV_CFG_PROBE ≤ (later 0 (rcv r)).coreTick 0 ∧ r.since + 2500 ≤ (later 0 (rcv r)).coreTick 0 ∧ (rcv r).inReset 1 0 = false) := by decide +kernel

/-- Core 0 waits for a semaphore that its own clause holds. -/
def knot (l : List (List Nat × Nat × List Nat)) : State :=
  withSch (sets (on { busy with wait := .sem 1 8 5 0 0 }) [(R.QUE_SEM_W0_HELD, 0, 8, 1)]) fun d => { d with scan := ⟨0, l⟩ }

theorem witness_HangRecovery_cycles :
    (let s := withPkg up fun p => { p with rst := [(rstKey 1 0, 1)], since := [(rstKey 1 0, 0)] }
     s.pkg.held = false ∧ mget 0 s.pkg.rst (rstKey 1 0) ≠ 0 ∧ mget 0 s.pkg.since (rstKey 1 0) + 15000 ≤ s.t) ∧
    (up.bit R.HUB_RCV_CTL_CYCLE_EN = true ∧ up.ready = true ∧ up.sch.scan.at_ + 2500 ≤ up.count 4 ∧ up.cycles = []) ∧
    (let s := knot []
     s.cycles = [[0]] ∧ s.sch.scan.sets.find? (fun e => decide (e.1 = [0]) && decide (e.2.2 = [0].flatMap (fun c => (s.waitsOf c).map Prod.fst))) = none ∧ 0 < s.reg R.HUB_RCV_CYCLE_CONFIRM) ∧
    (let s := knot [([0], 0, [0])]
     s.sch.scan.sets.find? (fun e => decide (e.1 = [0]) && decide (e.2.2 = [0].flatMap (fun c => (s.waitsOf c).map Prod.fst))) = some ([0], 0, [0]) ∧
       0 + s.reg R.HUB_RCV_CYCLE_CONFIRM ≤ (later 0 s).count 4 ∧ s.victimOf [0] = some (0, cl) ∧ cl.core = 0 ∧ cl.queue ≠ 32768) ∧
    ((open0 []).hubWork 0 = true ∧ (open0 []).pkg.held = false ∧ (open0 []).inReset 3 0 = false) := by decide +kernel

theorem witness_Resets :
    (Reaches .pf 0x80040 up ∧ up.bit R.HUB_RESET_STATUS_BUSY = false ∧ (∀ c, c < 64 → up.inReset 1 c = false) ∧ (∀ d, d < 4 → up.inReset 2 d = false) ∧ (∀ b, b < 6 → up.inReset 3 b = false) ∧
      Reaches .pf 0x80040 (sets up [(R.HUB_RESET_STATUS_BUSY, 0, 0, 1)]) ∧ (sets up [(R.HUB_RESET_STATUS_BUSY, 0, 0, 1)]).bit R.HUB_RESET_STATUS_BUSY = true ∧ up.fab.held = []) ∧
    (MayRelease (heldS id) ∧ (heldS id).pwr.tripped = false ∧ (heldS id).pkg.pwrgd = true ∧ (heldS id).pkg.perst = true ∧ (heldS id).pkg.refclk = true) ∧
    (∀ x ∈ [(1, 5), (2, 0), (3, 4)], let s := withPkg (sets up [(R.HUB_BOOT_DIE_OK, 0, 0, 15), (R.DMC_STATUS_FIT, 0, 0, 1)]) fun p => { p with rst := [(rstKey x.1 x.2, 1)] }
      s.pkg.held = false ∧ mget 0 s.pkg.rst (rstKey x.1 x.2) ≠ 0 ∧ (x.1 = 1 → s.inReset 2 (dieOf x.2) = false) ∧ s.ready = true ∧ bitOf (s.reg R.HUB_BOOT_DIE_OK) 0 = true ∧
      s.reg R.DMC_STATUS_FIT 0 ≠ 0 ∧ ∀ e ∈ s.pkg.rst, e.1 = rstKey x.1 x.2) := by unfold Reaches MayRelease; decide +kernel

/-! ### Security -/

def withSec (s : State) (f : SecS → SecS) : State := { s with sec := f s.sec }
def kl (cores : List Nat) : KillS := ⟨1, some 0, 0, cores, false⟩

theorem witness_PartitionsKeysKill :
    (Reaches .pf (secOff 0x200) up ∧ up.coresBad 0 3 = false ∧ (on busy).coresBad 0 3 = true ∧ Reaches .pf (secOff 0x200) (on busy)) ∧
    (Reaches .pf 0x90000 up ∧ up.bit R.HUB_WAY_BUSY 0 0 = false ∧ Reaches .pf 0x90000 (sets up [(R.HUB_WAY_BUSY, 0, 0, 1)]) ∧ (sets up [(R.HUB_WAY_BUSY, 0, 0, 1)]).bit R.HUB_WAY_BUSY 0 0 = true ∧
      up.reg R.HUB_WAY_MODE 0 0 = 0 ∧ up.reg R.HUB_WAY_PART 0 0 = 0 ∧ up.reg R.HUB_WAY_PART_VALID 0 0 = 0) ∧
    (Reaches .pf (secOff 4) up ∧ up.bit R.SEC_DBG_STATUS_OPEN = false ∧ up.reg R.SEC_KEY_SLOT_STATE 0 0 = 0 ∧ up.slotInUse 0 = false ∧
      (sets up [(R.SEC_DBG_STATUS_OPEN, 0, 0, 1)]).bit R.SEC_DBG_STATUS_OPEN = true ∧ (sets up [(R.SEC_KEY_SLOT_STATE, 0, 0, 1)]).reg R.SEC_KEY_SLOT_STATE 0 0 ≠ 0 ∧
      (sets up [(R.DMC_GROUP_ENABLE, 0, 0, 1), (R.DMC_GROUP_ENC, 0, 0, 1)]).slotInUse 0 = true) ∧
    (let s := idleCore wcl []
     Reaches .pf (secOff 0x400) s ∧ bitOf (0x1001 : BitVec 32).toNat 12 = true ∧ bits (0x1001 : BitVec 32).toNat 0 12 = 1 ∧ s.bit R.SEC_KILL_STATUS_BUSY = false ∧
       (sets up [(R.SEC_KILL_STATUS_BUSY, 0, 0, 1)]).bit R.SEC_KILL_STATUS_BUSY = true ∧ bitOf (1 : BitVec 32).toNat 12 = false) ∧
    (let s := withSec (withSch (idleCore wcl []) fun d => { d with clauses := [(1, some { wcl with st := .chosen, queue := 5 })] }) fun x => { x with kill := some (kl [0]) }
     s.sec.kill = some (kl [0]) ∧ (kl [0]).since + 3 * s.reg R.SEC_KILL_CFG_WAIT ≤ s.t + 1500000000 ∧ s.clause 1 = some { wcl with st := .chosen, queue := 5 } ∧ wcl.core ∈ (kl [0]).cores) ∧
    (let s := sets mapped [(R.SEC_PART_CFG_VF, 0, 2, 1)]
     Reaches (.vf 0) (secOff 0x400) s ∧ (s.vfPart 0).isSome = true ∧ s.ctxPart hubXlt 1 ≠ s.vfPart 0 ∧ (sets mapped [(R.SEC_PART_CFG_VF, 0, 0, 1)]).ctxPart hubXlt 1 = (sets mapped [(R.SEC_PART_CFG_VF, 0, 0, 1)]).vfPart 0) := by
  unfold Reaches; decide +kernel

theorem witness_ScrubAndDebug :
    (let o : ScrubS := ⟨none, some 2⟩
     let s := withSec up fun x => { x with scrubs := [(0, some o)] }
     mget none s.sec.scrubs 0 = some o ∧ o.since = none ∧ s.mayScrub 0 = true) ∧
    (let o : ScrubS := ⟨some 0, some 2⟩
     let s := withSec up fun x => { x with scrubs := [(0, some o)], kill := some (kl [0]) }
     mget none s.sec.scrubs 0 = some o ∧ o.since.isSome = true ∧ 0 + 15000 ≤ s.t ∧ s.inReset 1 0 = false ∧ s.sec.kill = some (kl [0]) ∧ (kl [0]).inv = false) ∧
    (Reaches .pf (secOff 0x500) up ∧ up.reg R.SEC_DBG_CTL_SCOPE < 2 ^ 16 ∧ up.reg R.SEC_DBG_CTL_MINUTES < 2 ^ 16 ∧ up.sec.pwdAt = none ∧ up.bit R.SEC_DBG_STATUS_OPEN = false ∧
      (withSec up fun x => { x with pwdAt := some 0 }).sec.pwdAt.isSome = true) ∧
    (let s := sets up [(R.SEC_DBG_STATUS_OPEN, 0, 0, 1)]
     s.bit R.SEC_DBG_STATUS_OPEN = true ∧ (later 0 s).minutesLeft = 0 ∧ (later 0 (sets up [(R.SEC_DBG_STATUS_OPEN, 0, 0, 1), (R.SEC_DBG_STATUS_MINUTES_LEFT, 0, 0, 9)])).minutesLeft ≠ 0) ∧
    (let s := withSec up fun x => { x with pwdAt := some 0 }
     s.sec.pwdAt = some 0 ∧ 0 + 1500000000 ≤ s.t ∧ ({ s with t := 3 }).t < 0 + 1500000000) := by unfold Reaches; decide +kernel

/-! ### The host and the management ports -/

def apS (base : Nat) (l : List (Fld × Nat × Nat × Nat)) : State := sets mapped ([(R.HUB_VF_MEM_EN, 0, 0, 1), (R.HUB_VF_MEM_CTX, 0, 0, 1), (R.HUB_VF_MEM_BASE_ADDR, 0, 0, base)] ++ l)
def frame (ty : Nat) : List Nat := List.replicate 12 0 ++ [ty / 256, ty % 256] ++ List.replicate 50 0
def ethS (l : List (Fld × Nat × Nat × Nat)) : State := qOn ([(R.HUB_ETH_CTL_EN, 0, 0, 1), (R.QUE_QCFG_KIND, 0, 5, 2), (R.HUB_ETH_REQ_QUEUE, 0, 0, 5)] ++ l)

theorem witness_HostInterface_functions :
    (up.gate (.vf 0) (fabOff 0) true = .log 2) ∧ up.bit R.HUB_VF_MEM_EN 0 0 = false ∧
    (let s := apS 0x80001000 []
     let da := (s.reg R.HUB_VF_MEM_BASE_ADDR 0 0 * 2 ^ 16 + 0x40) % 2 ^ 48
     s.ready = true ∧ s.bit R.HUB_VF_MEM_EN 0 0 = true ∧ s.apertureFault 1 da 8 true = none ∧ s.daRead hubXlt 1 da 8 = .ok 0 ∧ s.apertureFault 1 da 8 false = none ∧
       s.translate hubXlt 1 da true none = .hub 0x40) ∧
    (let s := apS 0 []
     let da := (s.reg R.HUB_VF_MEM_BASE_ADDR 0 0 * 2 ^ 16 + 0x40) % 2 ^ 48
     s.apertureFault 1 da 8 false = none ∧ s.translate hubXlt 1 da true none = .dram 0x10040 0x8000 0x105 ∧ ∀ u ∈ unitsOf 0x10040 8, mget 0 s.die.errs u = 0) ∧
    (let s := apS 0x80000000 []
     s.apertureFault 1 ((s.reg R.HUB_VF_MEM_BASE_ADDR 0 0 * 2 ^ 16 + 0) % 2 ^ 48) 8 true = some 1) := by decide +kernel

theorem witness_HostInterface_ethernet :
    (let s := ethS []
     s.pkg.held = false ∧ s.bit R.HUB_ETH_CTL_EN 0 0 = true ∧ up.bit R.HUB_ETH_CTL_EN 0 0 = false ∧ 60 ≤ (frame 0).length ∧ (frame 0).length ≤ 2016 ∧ eventOf (frame 0) = none ∧
       ¬ (s.bit R.TIME_PTP_CTL_TC 0 0 = true ∧ s.bit R.TIME_PTP_CTL_TC 0 (1 - 0) = true) ∧ s.bit R.HUB_ETH_CTL_PTP 0 0 = false ∧ s.bit R.HUB_ETH_CTL_REQ_EN 0 0 = false ∧
       frameF (frame 0) (etherAt (frame 0)) 2 = 0 ∧ s.reg R.HUB_ETH_TX_PTR_HEAD 0 0 = s.reg R.HUB_ETH_TX_PTR_TAIL 0 0) ∧
    (let s := ethS [(R.TIME_PTP_CTL_TC, 0, 0, 1), (R.TIME_PTP_CTL_TC, 0, 1, 1)]
     s.bit R.TIME_PTP_CTL_TC 0 0 = true ∧ s.bit R.TIME_PTP_CTL_TC 0 1 = true) ∧
    (let s := ethS [(R.HUB_ETH_CTL_PTP, 0, 0, 1), (R.HUB_ETH_RX_PTR_TAIL, 0, 0, 4)]
     s.bit R.HUB_ETH_CTL_PTP 0 0 = true ∧ (ptpOf (frame 0x88F7)).isSome = true ∧ s.reg R.HUB_ETH_RX_PTR_HEAD 0 0 ≠ s.reg R.HUB_ETH_RX_PTR_TAIL 0 0 ∧
       (ethS [(R.HUB_ETH_CTL_PTP, 0, 0, 1)]).reg R.HUB_ETH_RX_PTR_HEAD 0 0 = (ethS [(R.HUB_ETH_CTL_PTP, 0, 0, 1)]).reg R.HUB_ETH_RX_PTR_TAIL 0 0) ∧
    (let s := ethS [(R.HUB_ETH_CTL_REQ_EN, 0, 0, 1), (R.HUB_ETH_REQ_ETYPE, 0, 0, 0x1234)]
     s.bit R.HUB_ETH_CTL_REQ_EN 0 0 = true ∧ frameF (frame 0x1234) (etherAt (frame 0x1234)) 2 = s.reg R.HUB_ETH_REQ_ETYPE 0 0 ∧ s.entryOk 5 2 = true ∧
       s.doorbellOk 5 ((s.qf R.QUE_TAIL_TAIL 5 + 1) % 2 ^ 32) = true ∧ (ethS [(R.QUE_QCFG_KIND, 0, 5, 1)]).entryOk 5 2 = false) ∧
    (let s := ethS [(R.HUB_ETH_TX_PTR_TAIL, 0, 0, 2)]
     s.reg R.HUB_ETH_TX_PTR_HEAD 0 0 ≠ s.reg R.HUB_ETH_TX_PTR_TAIL 0 0 ∧ s.bit R.TIME_PTP_CTL_EN 0 0 = false ∧ bits 64 0 16 = 64 ∧ bits 10 0 16 < 60) ∧
    (let s := migOn []
     s.mig 0 0 = some mg ∧ s.isNvme 0 mg = false ∧ s.die.migQ = [] ∧ s.fab.held = [] ∧ s.die.xfers = [] ∧ mg.since + 75000000 ≤ s.t) := by decide +kernel

def withUart (u : UartS) : State := { sets up [(R.HUB_UART_CFG_EN, 0, 0, 1)] with host := { HostS.reset with uart := u } }
def withI2c (k : I2cS) (l : List (Fld × Nat × Nat × Nat)) : State := { sets up ((R.HUB_I2C_CFG_EN, 0, 0, 1) :: l) with host := { HostS.reset with i2c := [(0, k)] } }

theorem witness_ManagementPorts :
    (Reaches .pf (sbpOff 0xC) up ∧ up.host.ind = 0 ∧
      (let s := { up with host := { HostS.reset with ind := 1 } }
       s.host.ind ≠ 0 ∧ Reaches .pf (sbpOff 0xC) s) ∧
      (let s := sets up [(R.SBP_IND_ADDR_OFFSET, 0, 0, 0x10000000 / 4), (R.PWR_STATE_DIE, 0, 0, 2)]
       s.gate .sbp (s.reg R.SBP_IND_ADDR_OFFSET * 4) true ≠ .open) ∧
      (let s := sets up [(R.SBP_IND_ADDR_OFFSET, 0, 0, fabOff 0 / 4)]
       s.gate .sbp (s.reg R.SBP_IND_ADDR_OFFSET * 4) true = .open ∧ s.apAt (s.reg R.SBP_IND_ADDR_OFFSET * 4) = none ∧ (regAt (s.reg R.SBP_IND_ADDR_OFFSET * 4)).map (fun g => g.w) = some 0) ∧
      (let s := sets up [(R.SBP_IND_ADDR_OFFSET, 0, 0, 0x08000040 / 4), (R.HUB_WAY_MODE, 0, 0, 1)]
       s.gate .sbp (s.reg R.SBP_IND_ADDR_OFFSET * 4) false = .open ∧ s.apAt (s.reg R.SBP_IND_ADDR_OFFSET * 4) = some (.hub 0x40))) ∧
    (let s := withUart ⟨[], [], none, false⟩
     s.pkg.held = false ∧ s.bit R.HUB_UART_CFG_EN = true ∧ s.host.uart.wait = false ∧ s.host.uart.rx.length < 64 ∧ Reaches .pf 0xA0008 s ∧ s.gate .pf 0xA0008 true = .open) ∧
    (withUart ⟨List.replicate 64 1, [], none, true⟩).host.uart.rx.length = 64 ∧ (withUart ⟨[], [], none, true⟩).host.uart.wait = true ∧ up.bit R.HUB_UART_CFG_EN = false ∧
    (Reaches .pf (i2cOff 0 4) (withI2c I2cS.reset []) ∧ ((withI2c I2cS.reset []).i2c 0).cmd = none ∧ bits (0x150 : BitVec 32).toNat 8 8 ≠ 0 ∧ (withI2c I2cS.reset []).bit R.HUB_I2C_CFG_EN 0 0 = true ∧
      up.bit R.HUB_I2C_CFG_EN 0 0 = false ∧ ((withI2c ⟨[], [], some 0x150, 0⟩ []).i2c 0).cmd = some 0x150 ∧ bitOf 0x150 7 = false ∧ ¬ (bits 0x150 17 2 = 2 ∧ bits 0x150 19 8 = 7) ∧
      bitOf 0x1D0 7 = true ∧ (bits (2 * 2 ^ 17 + 7 * 2 ^ 19) 17 2 = 2 ∧ bits (2 * 2 ^ 17 + 7 * 2 ^ 19) 19 8 = 7) ∧ (withI2c I2cS.reset []).gate .pf (i2cOff 0 8) true = .open) ∧
    (let s := withI2c I2cS.reset [(R.HUB_I2C_CFG_SPEED, 0, 0, 3)]
     s.bit R.HUB_I2C_CFG_EN 0 0 = true ∧ s.reg R.HUB_I2C_CFG_SPEED 0 0 = 3 ∧ s.reg R.HUB_I2C_CFG_STUCK_MS 0 0 * 1500000 ≤ 1500000000) := by unfold Reaches; decide +kernel

/-! ### Boot, the bus, steps -/

def bootS (st : Nat) (l : List (Fld × Nat × Nat × Nat)) : State := sets up ((R.HUB_BOOT_STAGE, 0, 0, st) :: l)
def rated (s : State) : State := { s with host := { HostS.reset with rates := [(0, 1), (1, 1), (2, 1), (3, 1)] } }

theorem witness_BootAndTraining :
    (∀ st ∈ [1, 2, 3, 4, 5], (bootS st []).pkg.held = false ∧ (bootS st []).reg R.HUB_BOOT_STAGE = st) ∧
    (bootS 3 ((List.range 8).map fun l => (R.CHR_LINK_STATUS_STATE, 0, l, 1))).linksTried = true ∧
    (let s := rated (bootS 4 ((List.range 4).map fun d => (R.DMC_STATUS_FIT, d, 0, 1)))
     ((List.range 4).map (fun d => mget 0 s.host.rates d)).all (fun r => decide (r ≠ 0)) = true ∧ (∀ d, d < 4 → s.reg R.DMC_STATUS_FIT d = s.reg R.DMC_STATUS_FIT 0) ∧ s.reg R.DMC_STATUS_FIT 0 ≠ 0) ∧
    (let s := rated (bootS 4 [(R.DMC_STATUS_FIT, 1, 0, 1)])
     s.reg R.DMC_STATUS_FIT 1 ≠ s.reg R.DMC_STATUS_FIT 0) ∧
    (Reaches .pf (trainOff 0 0) up ∧ up.bit R.DMC_STATUS_READY 0 = false ∧ up.bit R.DMC_TRAIN_STATUS_BUSY 0 = false ∧ (sets up [(R.DMC_STATUS_READY, 0, 0, 1)]).bit R.DMC_STATUS_READY 0 = true ∧
      (sets up [(R.DMC_TRAIN_STATUS_BUSY, 0, 0, 1)]).bit R.DMC_TRAIN_STATUS_BUSY 0 = true ∧ (List.range 4).all (fun e => decide (mget 0 up.host.rates e = 0)) = true ∧
      (List.range 4).any (fun e => decide (mget 0 (rated up).host.rates e ≠ 0) && decide (mget 0 (rated up).host.rates e ≠ 0)) = true ∧
      bits (0xFFFF : BitVec 32).toNat 0 16 = 0xFFFF ∧ (∀ c, c < 16 → (List.replicate 16 1).getD c 0 = (List.replicate 16 1).getD 0 0)) ∧
    (Reaches .pf (trainOff 0 8) up ∧ bits (0 : BitVec 32).toNat 4 5 ≤ 17 ∧ bits (0 : BitVec 32).toNat 9 2 ≤ 2 ∧ bits (0 : BitVec 32).toNat 9 2 ≠ 2) := by unfold Reaches; decide +kernel

/-- A register of one word, and one of two words, as the register map has them. -/
def gU : RegAt := (regAt (pwrOff 0x30)).get (by decide +kernel)
def gW : RegAt := (regAt (pwrOff 0x20 + 4)).get (by decide +kernel)

def Alone (g : RegAt) (q : Place) : Prop :=
  q ∈ g.r.places ∧ (∀ e ∈ g.r.places, e ≠ q → e.f.key g.i (e.idx g.x) ≠ q.f.key g.i (q.idx g.x)) ∧ (∀ e ∈ g.r.places, (lateOf e.f).isNone = true) ∧
    (∀ e ∈ g.r.places, storeAt e.f g.i = [g.i]) ∧ q.f.id ≠ R.FAB_DIGEST_CTL_DIRTY.id ∧ q.f.id ≠ R.LOG_LOST_COUNT.id

theorem witness_BusAccess_writes :
    (Reaches .pf (pwrOff 0x30) up ∧ up.apAt (pwrOff 0x30) = none ∧ regAt (pwrOff 0x30) = some gU ∧ gU.r.words = 1 ∧ gU.w = 0 ∧ ∃ q, Alone gU q ∧ (q.lo < 32 ∧ 0 < q.f.w)) ∧
    (Reaches .pf (pwrOff 0x20 + 4) up ∧ up.apAt (pwrOff 0x20 + 4) = none ∧ regAt (pwrOff 0x20 + 4) = some gW ∧ gW.r.words = 2 ∧ gW.w = 1 ∧ keyOff (wordKey .pf gW.base) = gW.base ∧
      ∃ q, Alone gW q ∧ (q.lo < 64 ∧ 0 < q.f.w)) ∧
    ((regAt (pwrOff 0x20)).map (fun g => decide (g.w + 1 < g.r.words)) = some true ∧ Reaches .pf (pwrOff 0x20) up) ∧
    mget none { up.bus with stage := mset none [] (wordKey .pf gW.base) (some 7) }.stage (wordKey .pf gW.base) = some 7 := by
  unfold Reaches
  refine ⟨⟨?_, ?_, ?_, ?_, ?_, (gU.r.places.head?).get (by decide +kernel), ⟨?_, ?_, ?_, ?_, ?_, ?_⟩, ?_⟩, ⟨?_, ?_, ?_, ?_, ?_, ?_, (gW.r.places.head?).get (by decide +kernel), ⟨?_, ?_, ?_, ?_, ?_, ?_⟩, ?_⟩, ?_, ?_⟩
  all_goals first | exact Option.some_get _ |>.symm | decide +kernel

theorem noCmd_gU (w : Nat) : cmdOf indCmd .pf gU w = none := rfl
theorem noCmd_gW (w : Nat) : cmdOf indCmd .pf gW w = none := rfl

theorem witness_BusAccess_reads :
    (up.gate .pf (pwrOff 0x30) true = .open ∧ readTakes gU = .nop ∧ ∀ e ∈ gU.r.places, e.f.acc ≠ .rc) ∧
    (up.gate .pf (pwrOff 0x20 + 4) true = .open ∧ gW.w ≠ 0 ∧ mget none (mset none [] (wordKey .pf (gW.base + 4 * gW.w)) (some 9) : SMap (Option Nat)) (wordKey .pf (gW.base + 4 * gW.w)) = some 9) ∧
    (up.gate .pf 0xA0FF0 true = .open ∧ up.gate .pf 0xA0FF0 false = .open ∧ up.apAt 0xA0FF0 = none ∧ (regAt 0xA0FF0).isNone = true ∧ up.log.fifo.length < 64) :=
  ⟨⟨by decide +kernel, rfl, by decide +kernel⟩, by decide +kernel, by decide +kernel⟩

theorem witness_StepRunsFrontCommand :
    ({ up with pending := [Instr.readyPoll 0, .muteAssert] } : State).pending = [Instr.readyPoll 0, .muteAssert] ∧ up.pending = [] ∧ ∃ t, exec .muteAssert up = .next t :=
  ⟨rfl, rfl, _, rfl⟩

theorem witness_StepKeepsWf : ({ mapped with pending := [Instr.muteAssert] } : State).wf = true ∧ State.reset.wf = true ∧
    ∃ t, step { mapped with pending := [Instr.muteAssert] } = .next t := ⟨by decide +kernel, by decide +kernel, _, rfl⟩

/-! ### The spec's worked examples, and vectors of the standards it names -/

theorem witness_HardwiredCoreRegisters : (5 : Nat) ≠ 0 ∧ (7 : Nat) ≠ 5 ∧ busy.gv 1 = 5 ∧ busy.pv 1 = true := by decide +kernel

theorem witness_ResetState : (R.QUE_SEM_W0_COUNT.rst.value 0 5 = State.reset.reg R.QUE_SEM_W0_COUNT 0 5) ∧ State.reset.reg R.PWR_CAP_LIMIT = 33 := by decide +kernel

/-- The table of conversions after R142: format, input, code, flags. -/
theorem test_conversions :
    (∀ x ∈ [(3, 0x3E99999A, 0x2A, 0), (3, 0x43E60000, 0x7E, 0), (3, 0x43FA0000, 0x7E, flOverflow), (3, 0xFF800000, 0xFE, flOverflow), (3, 0x3A800000, 0, flUnderflow),
        (4, 0x47723000, 0x7B, flOverflow), (2, 0x40200000, 4, 0), (2, 0xBF400000, 0xA, 0), (2, 0x3E4CCCCD, 0, flUnderflow), (1, 0x42FF0000, 0x7F, flOverflow), (0, 0x7FC00000, 0, flInvalid)],
      convert x.1 .rne (fmtValue 7 x.2.1) = (x.2.2.1, x.2.2.2)) ∧
    convert 2 (.stoch (2 ^ 23)) (fmtValue 7 0x40200000) = (5, 0) ∧ convert 2 (.stoch (2 ^ 23 - 1)) (fmtValue 7 0x40200000) = (4, 0) := by decide +kernel

/-- Quantising a token (after R157): the scales of absmax 3.7. -/
theorem test_quantScales : quantScale 9 1 0x406CCCCD = (0x7A, 0) ∧ quantScale 3 1 0x406CCCCD = (0x0F, 0) := by decide +kernel

/-- Decoding an address (after R246): context 12 of partition 3, device address 0x123456789ABC. -/
theorem test_walk :
    ({ sets up [(R.DMC_GROUP_ENABLE, 0, 0, 1), (R.DMC_GROUP_CHMASK, 0, 0, 0xFFFF), (R.XLT_CTL_ENABLE, 0, 0, 1), (R.DMC_STATUS_FIT, 0, 0, 1), (R.DMC_STATUS_FIT, 2, 0, 1), (R.DMC_GROUP_ENABLE, 2, 1, 1),
        (R.DMC_GROUP_CHMASK, 2, 1, 0xF0), (R.DMC_GROUP_ECC, 2, 1, 1), (R.DMC_GROUP_BASE, 2, 1, 256), (R.DMC_GROUP_PART_VALID, 2, 1, 1), (R.DMC_GROUP_PART, 2, 1, 3)] with
      dram := memWrite (memWrite (memWrite (memWrite [] (16 * 12) 8 0x100D) 0x1240 8 0x4001) 0x7450 8 0x8001) 0xB3C0 8 (0x4A1234 * 256 + 5) }).translate
      0 12 0x123456789ABC true none = .dram 0x4A12349ABC 0xB3C0 (0x4A1234 * 256 + 5) := by decide +kernel

/-- A rate correction (after R375). -/
theorem test_systemTime :
    let u := 10 ^ 9 * 2 ^ 16
    sysTime 0x200000000 (1700000000 * u) 1500000000 = 1700000003 * u ∧ sysTime 0x20000035B (1700000000 * u - 19660949) 1500000000 = 1700000003 * u := by decide +kernel

/-- The codec's first samples (after R433). -/
theorem test_codec : codecRun [100, 130, -40] 0 4 0 0 = ([6, 2, -8], 0, 4) ∧ (codecRun ([100, 130, -40] ++ List.replicate 13 0) 0 4 0 0).2.2 = 5 := by decide +kernel

/-- CRC-32C of "123456789", and SHA-256 of "abc" (FIPS 180-4). -/
theorem test_crc32c : crc32c [0x31, 0x32, 0x33, 0x34, 0x35, 0x36, 0x37, 0x38, 0x39] = 0xE3069283 := by decide +kernel
theorem test_sha256 : sha256 [0x61, 0x62, 0x63] = beBytes 32 0xba7816bf8f01cfea414140de5dae2223b00361a396177a9cb410ff61f20015ad := by decide +kernel

end Sys2Proof.Tests
end

section
/-! The instructions of a core that go on, or jump, and the results of ALU and CMP (R97). -/

namespace Sys2Proof.Machine

variable {s : State} {h : Hd} {i : Instr} {word : Nat} {legal : Bool} {body : State → IRes}

/-! ### From the outcome of an issue to what an instruction becomes -/

/-- An instruction that changes its core and goes on. -/
theorem becomes_of_ok {f : CoreS → CoreS} (hi : Issues h s) (hl : legal = true) (hx : exec i s = does (issue h word legal body) s)
    (hb : body s = .ok (updCore h.core.toNat f)) (hf : ∀ m fb lr pg, f (m.refetch fb lr pg) = (f m).refetch fb lr pg) :
    Becomes i h (f (s.core h.core.toNat)).step8 s :=
  gives_of_run hx (issue_updCore hi hl hb hf)

/-- An instruction that writes a g register and goes on. -/
theorem becomes_setG {r : Nat} {v : Word} (hi : Issues h s) (hl : legal = true) (hx : exec i s = does (issue h word legal body) s)
    (hb : body s = .ok (updCore h.core.toNat fun k => k.setG r v)) :
    Becomes i h ((s.core h.core.toNat).step8.setG r v) s := by
  rw [← setG_step8]
  exact becomes_of_ok hi hl hx hb (setG_refetch r v)

/-- An instruction that writes a predicate and goes on. -/
theorem becomes_setP {r : Nat} {v : Bool} (hi : Issues h s) (hl : legal = true) (hx : exec i s = does (issue h word legal body) s)
    (hb : body s = .ok (updCore h.core.toNat fun k => k.setP r v)) :
    Becomes i h ((s.core h.core.toNat).step8.setP r v) s := by
  rw [← setP_step8]
  exact becomes_of_ok hi hl hx hb (setP_refetch r v)

/-- An instruction that writes an address register and goes on. -/
theorem becomes_setA {r : Nat} {v : BitVec 48} (hi : Issues h s) (hl : legal = true) (hx : exec i s = does (issue h word legal body) s)
    (hb : body s = .ok (updCore h.core.toNat fun k => k.setA r v)) :
    Becomes i h ((s.core h.core.toNat).step8.setA r v) s :=
  becomes_of_ok hi hl hx hb fun _ _ _ _ => rfl

/-- An instruction that writes a g register and jumps. -/
theorem becomes_setG_jump {r : Nat} {v : Word} {p : Int} (hi : Issues h s) (hl : legal = true)
    (hx : exec i s = does (issue h word legal body) s) (hb : body s = .jump p (updCore h.core.toNat fun k => k.setG r v)) :
    Becomes i h { (s.core h.core.toNat).setG r v with pc := p } s :=
  gives_of_run hx (issue_updCore_jump hi hl hb (setG_refetch r v))

/-! ### ALU and CMP (R97) -/

section
variable {rd ra : BitVec 6} {b : Opd}

/-- An ALU instruction writes the value of its function. -/
theorem becomes_alu {fn : Nat} {op : Word → Word → Word} {v : Word} (hi : Issues h s) (hl : aluLegal h b = true)
    (hx : exec i s = does (alu h fn rd ra b op) s)
    (hv : op ((s.core h.core.toNat).gv ra.toNat) (opdVal (s.core h.core.toNat) b) = v) :
    Becomes i h ((s.core h.core.toNat).step8.setG rd.toNat v) s :=
  hv ▸ becomes_setG hi hl hx rfl

/-- A comparison writes the truth of its relation. -/
theorem becomes_cmp {fn : Nat} {rel : Word → Word → Bool} {v : Bool} (hi : Issues h s) (hl : aluLegal h b = true) (hp : rd.toNat < 8)
    (hx : exec i s = does (cmp h fn rd ra b rel) s)
    (hv : rel ((s.core h.core.toNat).gv ra.toNat) (opdVal (s.core h.core.toNat) b) = v) :
    Becomes i h ((s.core h.core.toNat).step8.setP rd.toNat v) s :=
  hv ▸ becomes_setP hi (by simp [hl, hp]) hx rfl

end

/-- A choice by `<` and a choice by `≤` differ only between equals. -/
theorem ite_lt_eq_ite_le {α : Type} [LinearOrder α] {p q : α} {v w : Word} (hvw : p = q → v = w) :
    (if p < q then v else w) = if p ≤ q then v else w := by
  rcases eq_or_ne p q with heq | hne
  · simp [hvw heq]
  · simp only [hne.le_iff_lt]

/-- MIN and MAX choose by the signed order. -/
theorem ite_slt {x y v w : Word} (hvw : x = y → v = w) : (if x.slt y then v else w) = if x.toInt ≤ y.toInt then v else w := by
  simp only [BitVec.slt_iff_toInt_lt]
  exact ite_lt_eq_ite_le fun e => hvw (BitVec.eq_of_toInt_eq e)

/-- MINU and MAXU choose by the unsigned order. -/
theorem ite_ult {x y v w : Word} (hvw : x = y → v = w) : (if x.ult y then v else w) = if x.toNat ≤ y.toNat then v else w := by
  simp only [BitVec.ult_iff_lt, BitVec.lt_def]
  exact ite_lt_eq_ite_le fun e => hvw (BitVec.eq_of_toNat_eq e)

/-- Two words are equal where their unsigned readings are. -/
theorem word_beq (x y : Word) : (x == y) = decide (x.toNat = y.toNat) := by
  simp [BitVec.toNat_eq, beq_eq_decide]

/-- The signed relation of CMP.GE is the opposite of `<`. -/
theorem not_slt (x y : Word) : (!x.slt y) = decide (y.toInt ≤ x.toInt) := by
  simp [BitVec.slt_eq_decide, ← decide_not]

theorem not_ult (x y : Word) : (!x.ult y) = decide (y.toNat ≤ x.toNat) := by
  simp [BitVec.ult_eq_decide, ← decide_not]

/-- Settles O1: each instruction writes its function or relation of the two operands and goes on. -/
theorem aluAndCompareResults : Obligations.AluAndCompareResults := by
  refine ⟨fun h rd ra b s hi hl => ?_, fun h pd ra b s hi hl hp => ?_⟩
  · intro m x y put
    have mulWord : x * y = BitVec.ofNat 64 (x.toNat * y.toNat) := BitVec.eq_of_toNat_eq (by simp)
    refine ⟨becomes_alu hi hl rfl rfl, becomes_alu hi hl rfl rfl, becomes_alu hi hl rfl rfl, becomes_alu hi hl rfl rfl,
      becomes_alu hi hl rfl rfl, becomes_alu hi hl rfl rfl, becomes_alu hi hl rfl rfl, becomes_alu hi hl rfl rfl,
      becomes_alu hi hl rfl mulWord, becomes_alu hi hl rfl rfl, becomes_alu hi hl rfl rfl, ?min, ?max, ?minu, ?maxu⟩
    case min => exact becomes_alu hi hl rfl (ite_slt id)
    case max => exact becomes_alu hi hl rfl (ite_slt Eq.symm)
    case minu => exact becomes_alu hi hl rfl (ite_ult id)
    case maxu => exact becomes_alu hi hl rfl (ite_ult Eq.symm)
  · intro m x y put
    refine ⟨becomes_cmp hi hl hp rfl (word_beq x y), becomes_cmp hi hl hp rfl ?ne, becomes_cmp hi hl hp rfl rfl,
      becomes_cmp hi hl hp rfl (not_slt x y), becomes_cmp hi hl hp rfl rfl, becomes_cmp hi hl hp rfl (not_ult x y)⟩
    case ne => rw [bne, word_beq, decide_not]

end Sys2Proof.Machine
end

section
/-! A guard that does not hold, and the synchronous exceptions: what `takeExc` records stays, and no memory changes (R93, R94, R117). -/

namespace Sys2Proof.Machine

variable {s t u : State} {h : Hd} {c : Nat}

/-! ### The two outcomes of an issue that execute nothing -/

section
variable {i : Instr} {word : Nat} {legal : Bool} {body : State → IRes}

theorem skips_pc (hi : Skips h s) : (decide ((s.core h.core.toNat).pc < 0) || decide (0x3FFFF8 < (s.core h.core.toNat).pc) ||
    decide ((s.core h.core.toNat).pc % 8 ≠ 0)) = false := by
  obtain ⟨_, h1, h2, h3, _⟩ := hi
  simp; omega

/-- A false guard costs only the instruction. -/
theorem becomes_of_skips (hi : Skips h s) (hl : legal = true) (hx : exec i s = does (issue h word legal body) s) :
    Becomes i h (s.core h.core.toNat).step8 s := by
  obtain ⟨hcan, -, -, -, hguard⟩ := id hi
  have hg : ((s.core h.core.toNat).pv h.pred.toNat != h.pneg) = false := by simpa using hguard
  refine gives_of_run hx ?_
  unfold issue
  simp only [run_get, hcan, hl, skips_pc hi, hg, Bool.not_true, Bool.false_eq_true, if_false, if_true]
  exact (onlyCore_fetch _ s).then fun _ _ _ _ => rfl

/-- Every synchronous exception but that of code 3 is taken without a record of its row. -/
theorem run_syncExc {code detail : Nat} (h3 : code ≠ 3) : run (syncExc c code detail word) s = run (takeExc c code detail word) s := by
  simp [syncExc, h3]

/-- A word that is not assigned raises the exception of code 2. -/
theorem run_issue_illegal (hi : Issues h s) (hl : legal = false) :
    run (issue h word legal body) s = run (takeExc h.core.toNat 2 0 word) (run (fetchRows h.core.toNat) s) := by
  unfold issue
  simp only [run_get, hi.1, hl, issues_pc hi, Bool.not_true, Bool.not_false, Bool.false_eq_true, if_false, if_true, run_seq]
  exact run_syncExc (by decide)

end

/-! ### Acts as lists of changes -/

section
variable {P : Prim → Prop} {α : Type}

@[simp] theorem only_ite {b : Prop} [Decidable b] {x y : Act} : (if b then x else y).Only P ↔ (b → x.Only P) ∧ (¬ b → y.Only P) := by
  split <;> simp_all

@[simp] theorem only_whenA_iff {b : Bool} {a : Act} : (whenA b a).Only P ↔ (b = true → a.Only P) := by
  cases b <;> simp [whenA]

@[simp] theorem only_withA_iff {o : Option α} {f : α → Act} : (withA o f).Only P ↔ ∀ x, o = some x → (f x).Only P := by
  cases o <;> simp [withA]

@[simp] theorem only_many_iff {l : List Act} : (many l).Only P ↔ ∀ a ∈ l, a.Only P := by
  induction l with
  | nil => simp
  | cons a r ih => simp [ih]

@[simp] theorem only_forA_iff {l : List α} {f : α → Act} : (forA l f).Only P ↔ ∀ x ∈ l, (f x).Only P := by
  simp [forA, only_many_iff]

end

/-! ### Changes that keep the record of an exception -/

/-- The numbers of the fields of CORE_FAULT_CODE and CORE_FAULT_PC (R121, R122). -/
def faultIds : List Nat :=
  [R.CORE_FAULT_CODE_CODE.id, R.CORE_FAULT_CODE_DETAIL.id, R.CORE_FAULT_CODE_VALID.id, R.CORE_FAULT_PC_PC.id]

/-- A change that writes no memory and no field of an exception's record, and sets no halted core going. -/
def Prim.KeepsFault : Prim → Prop
  | .reg f _ _ _ => f.id ∉ faultIds
  | .core _ f => ∀ m, m.halted = true → (f m).halted = true
  | .regsKeep _ | .regRaw .. | .spad .. | .spadKeep _ | .acc .. | .accKeep _ | .dram .. | .dramKeep _ | .hubMem .. | .hubKeep _
  | .aon .. | .aonKeep _ => False
  | _ => True

/-- What such changes keep from state `u` on: the memories, the fields of the record, and core `c` halted. -/
structure FaultKept (c : Nat) (u t : State) : Prop where
  mem : MemSame u t
  regs : ∀ (f : Fld) (i j : Nat), f.id ∈ faultIds → t.reg f i j = u.reg f i j
  halted : (u.core c).halted = true → (t.core c).halted = true

theorem FaultKept.refl (c : Nat) (u : State) : FaultKept c u u := ⟨⟨rfl, rfl, rfl, rfl, rfl⟩, fun _ _ _ _ => rfl, id⟩

/-- One change that keeps the record keeps it. -/
theorem apply_faultKept (p : Prim) (hp : p.KeepsFault) (t : State) (ht : FaultKept c u t) : FaultKept c u (p.apply t) := by
  obtain ⟨hm, hr, hh⟩ := ht
  cases p
  case reg f i j v =>
    refine ⟨hm, fun g x y hg => ?_, hh⟩
    rw [reg_reg_other i j x y v fun e => hp (e ▸ hg), hr g x y hg]
  case core x f =>
    refine ⟨hm, hr, fun hu => ?_⟩
    rw [core_core]
    split
    · next e => exact hp _ (e ▸ hh hu)
    · exact hh hu
  case regsKeep | regRaw | spad | spadKeep | acc | accKeep | dram | dramKeep | hubMem | hubKeep | aon | aonKeep => exact hp.elim
  all_goals exact ⟨hm, hr, hh⟩

/-- An act of such changes keeps it. -/
theorem run_faultKept {a : Act} (ha : a.Only Prim.KeepsFault) (ht : FaultKept c u t) : FaultKept c u (run a t) :=
  run_keeps apply_faultKept a ha t ht

/-! ### The end of a clause keeps the record of its exception -/

@[simp] theorem setR_keepsFault {f : Fld} {v i j : Nat} : (setR f v i j).Only Prim.KeepsFault ↔ f.id ∉ faultIds := Iff.rfl
@[simp] theorem updCore_keepsFault {c : Nat} {f : CoreS → CoreS} :
    (updCore c f).Only Prim.KeepsFault ↔ ∀ m, m.halted = true → (f m).halted = true := Iff.rfl
@[simp] theorem sch_keepsFault (f : SchedSide → SchedSide) : (Prim.sch f).KeepsFault := trivial
@[simp] theorem die_keepsFault (f : DieSide → DieSide) : (Prim.die f).KeepsFault := trivial
@[simp] theorem log_keepsFault (f : LogS → LogS) : (Prim.log f).KeepsFault := trivial
@[simp] theorem host_keepsFault (f : HostS → HostS) : (Prim.host f).KeepsFault := trivial
@[simp] theorem pwr_keepsFault (f : PwrS → PwrS) : (Prim.pwr f).KeepsFault := trivial
@[simp] theorem out_keepsFault (o : Out) : (Prim.out o).KeepsFault := trivial
@[simp] theorem bump_keepsFault {f : Fld} {n i j : Nat} (hf : f.id ∉ faultIds) : (bump f n i j).Only Prim.KeepsFault := fun _ => hf

@[simp] theorem updClause_keepsFault (k : Nat) (f : ClauseS → ClauseS) : (updClause k f).Only Prim.KeepsFault := by
  simp [updClause, setClause]

@[simp] theorem updXfer_keepsFault (x : Nat) (f : Xfer → Xfer) : (updXfer x f).Only Prim.KeepsFault := by
  simp [updXfer, setXfer]

@[simp] theorem logEv_keepsFault (die source cls ev data : Nat) : (logEv die source cls ev data).Only Prim.KeepsFault := by
  simp +decide [logEv, logPut]

@[simp] theorem raiseRcv_keepsFault {f : Fld} {bit : Nat} (hf : f.id ∉ faultIds) : (raiseRcv f bit).Only Prim.KeepsFault := by
  simp +decide [raiseRcv, raiseEv, msix, hf]

/-! #### Semaphores, locks and descriptors -/

@[simp] theorem settleClasses_keepsFault : settleClasses.Only Prim.KeepsFault := by
  simp [settleClasses]

@[simp] theorem grantOne_keepsFault (h : Nat) : (grantOne h).Only Prim.KeepsFault := by
  simp only [grantOne, only_get]
  intro s
  split <;> simp +decide [setS, updSem, giveLock, respond]

@[simp] theorem releaseLock_keepsFault (h : Nat) : (releaseLock h).Only Prim.KeepsFault := by
  simp +decide [releaseLock, setS, updSem]

@[simp] theorem releaseLocks_keepsFault (k : Nat) (unclean : Bool) : (releaseLocks k unclean).Only Prim.KeepsFault := by
  simp [releaseLocks]

@[simp] theorem returnGrant_keepsFault (r : Resp) : (returnGrant r).Only Prim.KeepsFault := by
  simp +decide [returnGrant, setS]

@[simp] theorem withdrawWaits_keepsFault (c : Nat) : (withdrawWaits c).Only Prim.KeepsFault := by
  simp [withdrawWaits, updSem]

@[simp] theorem endDesc_keepsFault (q n status die extra : Nat) : (endDesc q n status die extra).Only Prim.KeepsFault := by
  simp only [endDesc, only_get, only_ite]
  refine fun s => ⟨fun _ => by simp, fun _ => ?_⟩
  split <;> simp [updQueue]

/-! #### Transfers and engines -/

@[simp] theorem dropClaims_keepsFault (core who : Nat) : (dropClaims core who).Only Prim.KeepsFault := by
  simp [dropClaims]

@[simp] theorem dropXfer_keepsFault (x : Nat) : (dropXfer x).Only Prim.KeepsFault := by
  simp [dropXfer, setXfer]

@[simp] theorem finishCancelled_keepsFault (x : Nat) : (finishCancelled x).Only Prim.KeepsFault := by
  simp only [finishCancelled, only_get, only_withA_iff, only_ite, only_nop, only_many_cons, only_many_nil, dropXfer_keepsFault]
  refine fun s v _ => ⟨fun _ => trivial, fun _ => ⟨trivial, ?_, trivial⟩⟩
  split <;> simp

@[simp] theorem cancelXfer_keepsFault (x : Nat) : (cancelXfer x).Only Prim.KeepsFault := by
  simp [cancelXfer, unblockXfer, setXfer]

@[simp] theorem faultXfers_keepsFault (k : Nat) : (faultXfers k).Only Prim.KeepsFault := by
  simp [faultXfers]

@[simp] theorem stopEngines_keepsFault (c : Nat) : (stopEngines c).Only Prim.KeepsFault := by
  simp [stopEngines]

/-! #### The clause, its streams, its image and its core -/

@[simp] theorem endStreams_keepsFault (k : Nat) (clean : Bool) : (endStreams k clean).Only Prim.KeepsFault := by
  simp +decide [endStreams]

@[simp] theorem tuneFallback_keepsFault (p cause : Nat) : (tuneFallback p cause).Only Prim.KeepsFault := by
  simp +decide [tuneFallback]

@[simp] theorem sliceStop_keepsFault (k : Nat) : (sliceStop k).Only Prim.KeepsFault := by
  simp [sliceStop]

@[simp] theorem dropImage_keepsFault (k : Nat) : (dropImage k).Only Prim.KeepsFault := by
  simp [dropImage]

@[simp] theorem stopKick_keepsFault (k : Nat) : (stopKick k).Only Prim.KeepsFault := by
  simp +decide [stopKick]

@[simp] theorem freeCore_keepsFault (c : Nat) : (freeCore c).Only Prim.KeepsFault := by
  simp [freeCore]

@[simp] theorem wakeDie_keepsFault (d : Nat) : (wakeDie d).Only Prim.KeepsFault := by
  simp +decide [wakeDie, setBusy]

@[simp] theorem planAdvance_keepsFault (p : Nat) : (planAdvance p).Only Prim.KeepsFault := by
  have hstep : (planStep p).Only Prim.KeepsFault := by
    simp only [planStep, only_get]
    intro s
    split <;> simp +decide [updBatch, bindClause, setClause]
  simp [planAdvance, hstep]

@[simp] theorem endClause_keepsFault (k status code detail : Nat) : (endClause k status code detail).Only Prim.KeepsFault := by
  simp [endClause, updBatch, setClause]

@[simp] theorem replay_keepsFault (k : Nat) : (replay k).Only Prim.KeepsFault := by
  simp +decide [replay, dropLoad]

@[simp] theorem logRcv_keepsFault (ev ctx x kind outcome queue n : Nat) : (logRcv ev ctx x kind outcome queue n).Only Prim.KeepsFault := by
  simp [logRcv]

@[simp] theorem noteOutcome_keepsFault (c o : Nat) : (noteOutcome c o).Only Prim.KeepsFault := by
  simp only [noteOutcome, only_get, only_withA_iff, only_seq]
  refine fun s r _ => ⟨?_, by simp⟩
  split
  · split <;> simp
  · trivial

@[simp] theorem declareHang_keepsFault (kind c id : Nat) : (declareHang kind c id).Only Prim.KeepsFault := by
  simp +decide [declareHang]

@[simp] theorem faultClause_keepsFault (k status code detail : Nat) : (faultClause k status code detail).Only Prim.KeepsFault := by
  simp only [faultClause, only_get, only_withA_iff]
  intro s c _
  split <;> simp

/-! ### Synchronous exceptions -/

/-- The record of an exception, as `takeExc` writes it (R121, R122). -/
def excRecord (c code detail pc insn : Nat) : Act :=
  many [
    setR R.CORE_FAULT_CODE_CODE code c, setR R.CORE_FAULT_CODE_DETAIL detail c, setR R.CORE_FAULT_PC_PC pc c,
    setR R.CORE_FAULT_INSN_WORD insn c, setR R.CORE_FAULT_CODE_VALID 1 c ]

variable {code detail insn : Nat}

theorem excRecord_reads (pc : Nat) :
    (run (excRecord c code detail pc insn) u).reg R.CORE_FAULT_CODE_CODE c = code % 2 ^ 8 ∧
    (run (excRecord c code detail pc insn) u).reg R.CORE_FAULT_CODE_DETAIL c = detail % 2 ^ 16 ∧
    (run (excRecord c code detail pc insn) u).reg R.CORE_FAULT_CODE_VALID c = 1 ∧
    (run (excRecord c code detail pc insn) u).reg R.CORE_FAULT_PC_PC c = pc % 2 ^ 22 := by
  have other : ∀ {f g : Fld} (v : Nat) (s : State), g.id ≠ f.id → (Prim.apply (.reg f c 0 v) s).reg g c = s.reg g c :=
    fun v s => reg_reg_other c 0 c 0 v
  refine ⟨?_, ?_, ?_, ?_⟩ <;> simp +decide [excRecord, other] <;> rfl

/-- Where no record is held, `takeExc` writes one and halts the core; nothing it does besides touches either. -/
theorem takeExc_kept (hv : u.bit R.CORE_FAULT_CODE_VALID c = false) :
    FaultKept c (run (excRecord c code detail ((u.core c).pc % (2 ^ 22 : Nat)).toNat insn) u) (run (takeExc c code detail insn) u) ∧
      ((run (takeExc c code detail insn) u).core c).halted = true := by
  let halt : Prim := .core c fun k => { k with halted := true }
  obtain ⟨a, b, e, ha, hb⟩ : ∃ a b : Act, run (takeExc c code detail insn) u =
      run b (halt.apply (run a (run (excRecord c code detail ((u.core c).pc % (2 ^ 22 : Nat)).toNat insn) u))) ∧
      a.Only Prim.KeepsFault ∧ b.Only Prim.KeepsFault := by
    refine ⟨.seq (logEv (dieOf c) c 2 code (((u.core c).pc % (2 ^ 22 : Nat)).toNat + detail % 2 ^ 16 * 2 ^ 32 + u.excInfoWord c * 2 ^ 48))
        (setR R.CORE_SEMWAIT_W0_VALID 0 c),
      .seq (whenA (decide (code = 0x12) || decide (code = 0x13) || decide (code = 0x14)) (declareHang 3 c (u.core c).clause))
        (faultClause (u.core c).clause (excStatus code) code detail), ?_, by simp +decide, by simp⟩
    simp only [takeExc, run_get, hv]
    rfl
  rw [e]
  refine ⟨run_faultKept hb (apply_faultKept halt (fun _ _ => rfl) _ (run_faultKept ha (.refl c _))), ?_⟩
  exact (run_faultKept hb (.refl c _)).halted (by rw [core_core_self])

/-- An exception that finds no record held leaves its own, and no memory changed. -/
theorem takeExc_records (hv : u.bit R.CORE_FAULT_CODE_VALID c = false) (hc : code < 2 ^ 8) (hd : detail < 2 ^ 16) :
    TookExc c code detail u (run (takeExc c code detail insn) u) ∧ MemSame u (run (takeExc c code detail insn) u) := by
  obtain ⟨hkept, hhalted⟩ := takeExc_kept (code := code) (detail := detail) (insn := insn) hv
  obtain ⟨hcode, hdetail, hvalid, hpc⟩ := excRecord_reads (c := c) (code := code) (detail := detail) (insn := insn) (u := u)
    ((u.core c).pc % (2 ^ 22 : Nat)).toNat
  refine ⟨⟨?_, ?_, ?_, ?_, hhalted⟩, by simpa [MemSame, excRecord] using hkept.mem⟩
  · rw [hkept.regs _ _ _ (by decide), hcode, Nat.mod_eq_of_lt hc]
  · rw [hkept.regs _ _ _ (by decide), hdetail, Nat.mod_eq_of_lt hd]
  · rw [hkept.regs _ _ _ (by decide), hvalid]
  · rw [hkept.regs _ _ _ (by decide), hpc]
    omega

/-- What is recorded after the fetch is what the instruction finds before it. -/
theorem OnlyCore.tookExc (ho : OnlyCore c (s.core c) s u) (ht : TookExc c code detail u t ∧ MemSame u t) :
    TookExc c code detail s t ∧ MemSame s t := by
  obtain ⟨⟨hcore, -⟩, hrest⟩ := ho
  obtain ⟨⟨hcode, hdetail, hvalid, hpc, hhalt⟩, hdram, hhub, haon, hspad, hacc⟩ := ht
  have hsame : (u.core c).pc = (s.core c).pc := by rw [hcore]
  refine ⟨⟨hcode, hdetail, hvalid, hsame ▸ hpc, hhalt⟩, ?_⟩
  rw [← hrest]
  exact ⟨hdram, hhub, haon, hspad, hacc⟩

/-- A word that is not assigned raises code 2 with detail 0, and changes no memory (R94, R117). -/
theorem gives_illegal {i : Instr} {word : Nat} {legal : Bool} {body : State → IRes} (hi : Issues h s)
    (hv : s.bit R.CORE_FAULT_CODE_VALID h.core.toNat = false) (hl : legal = false)
    (hx : exec i s = does (issue h word legal body) s) :
    Gives i s fun t => TookExc h.core.toNat 2 0 s t ∧ MemSame s t := by
  have ho := onlyCore_fetch h.core.toNat s
  have hvalid : (run (fetchRows h.core.toNat) s).bit R.CORE_FAULT_CODE_VALID h.core.toNat = false := by
    rw [← hv, ← ho.2]
    rfl
  refine gives_of_run hx ?_
  rw [run_issue_illegal hi hl]
  exact ho.tookExc (takeExc_records hvalid (by decide) (by decide))

end Sys2Proof.Machine
end

section
/-! PLOG, MOVI, ADDR and control flow (R98, R100). -/

namespace Sys2Proof.Machine

variable {s : State} {h : Hd} {i : Instr}

/-! ### PLOG, MOVI and ADDR (R98) -/

/-- A PLOG instruction writes its connective of the two predicates. -/
theorem becomes_plog {pd pa pb : BitVec 3} {na nb : Bool} {fn : Nat} {op : Bool → Bool → Bool} (hi : Issues h s)
    (hl : zeroOk h [(13, 3), (28, 36)] = true) (hx : exec i s = does (plog h fn pd pa na pb nb op) s) :
    Becomes i h ((s.core h.core.toNat).step8.setP pd.toNat
      (op (((s.core h.core.toNat).pv pa.toNat).xor na) (((s.core h.core.toNat).pv pb.toNat).xor nb))) s :=
  becomes_setP hi hl hx rfl

/-- Settles O2: each instruction writes its one register and goes on; reading an address register with AD other than 0 is not assigned. -/
theorem plogMoveAndAddressResults : Obligations.PlogMoveAndAddressResults := by
  refine ⟨fun h pd pa pb na nb s hi hl => ?plog,
    fun h rd gb ad aa imm off s hi => ⟨?moviG, ?moviA, fun hl => ?addr, fun had hv => ?unassigned⟩⟩
  case plog => exact ⟨becomes_plog hi hl rfl, becomes_plog hi hl rfl, becomes_plog hi hl rfl⟩
  case moviG => exact becomes_setG hi rfl rfl rfl
  case moviA => exact fun hl => becomes_setA hi hl rfl rfl
  case addr =>
    exact ⟨becomes_setA hi (by simp [hl]) rfl rfl, becomes_setA hi (by simp [hl]) rfl rfl, becomes_setA hi (by simp [hl]) rfl rfl,
      becomes_setG hi (by simp [hl]) rfl rfl⟩
  case unassigned => exact gives_illegal hi hv (by rw [decide_eq_false had, Bool.and_false]) rfl

/-! ### Control flow (R100) -/

/-- NOP goes on. -/
theorem becomes_nop (hi : Issues h s) (hl : zeroOk h [(10, 54)] = true) : Becomes (.nop h) h (s.core h.core.toNat).step8 s := by
  refine gives_of_run (a := issue h (wordOf h 0 []) (zeroOk h [(10, 54)]) fun _ => .ok .nop) rfl ?_
  rw [run_issue_ok hi hl rfl]
  exact (onlyCore_fetch _ s).then fun _ _ _ _ => rfl

/-- LOOP writes its counter less 1, and goes on where that is 0 or jumps back where it is not. -/
theorem becomes_loop {rl : BitVec 6} {off : BitVec 32} (hi : Issues h s) (hl : zeroOk h [(16, 16)] = true) (hr : rl ≠ 0) :
    Becomes (.loop h rl off) h
      { (s.core h.core.toNat).setG rl.toNat ((s.core h.core.toNat).gv rl.toNat - 1) with
        pc := if (s.core h.core.toNat).gv rl.toNat - 1 = 0 then (s.core h.core.toNat).pc + 8
          else (s.core h.core.toNat).pc + 8 * off.toInt } s :=
  becomes_setG_jump hi (by rw [hl, decide_eq_true hr, Bool.and_true]) rfl rfl

/-- Settles O4: each jump writes its register and takes its PC; a false guard goes on; an unassigned word raises code 2. -/
theorem controlFlowResults : Obligations.ControlFlowResults := by
  intro h rd ra off s c m n
  refine ⟨fun hi => ⟨fun hl => becomes_nop hi hl, fun hl => ?br, fun hl => ?brr, fun hl hr => ⟨fun h1 => ?last, fun h1 => ?back⟩,
    fun hv => ⟨fun hl => ?brrIllegal, ?loopIllegal⟩⟩, fun hk => ⟨fun hl => ⟨?brSkips, fun hr => ?loopSkips⟩, fun hl => ?brrSkips⟩⟩
  case br => exact becomes_setG_jump hi hl rfl rfl
  case brr =>
    have hjump := becomes_setG_jump (i := .brr h rd ra) hi hl rfl rfl
    simpa only [bits, pow_zero, Nat.div_one] using hjump
  case last =>
    have hloop := becomes_loop (off := off) hi hl hr
    have hzero : m.gv rd.toNat - 1 = 0 := sub_eq_zero.mpr h1
    rwa [if_pos hzero, hzero] at hloop
  case back =>
    have hloop := becomes_loop (off := off) hi hl hr
    have hmore : m.gv rd.toNat - 1 ≠ 0 := fun e => h1 (sub_eq_zero.mp e)
    rwa [if_neg hmore] at hloop
  case brrIllegal => exact gives_illegal hi hv hl rfl
  case loopIllegal => exact gives_illegal hi hv (by simp) rfl
  case brSkips => exact becomes_of_skips hk hl rfl
  case loopSkips => exact becomes_of_skips hk (by rw [hl, decide_eq_true hr, Bool.and_true]) rfl
  case brrSkips => exact becomes_of_skips hk hl rfl

end Sys2Proof.Machine
end
